-- ==== Sys2Proof/Word.lean ====
section
/-! DEFINITION. The byte the fleet channel and the command port carry, and its plainest arithmetic. -/

namespace Sys2Proof

/-- One byte on air or on the command port, sent most significant bit first (00, Byte order). -/
abbrev Byte := BitVec 8

/-- The low eight bits of a number as a byte. -/
abbrev byte (n : Nat) : Byte := BitVec.ofNat 8 n

/-- A flag as bit 0 of a byte. -/
abbrev flagByte (b : Bool) : Byte := if b then 1 else 0

end Sys2Proof
end

