-- ==== Sys2Proof/Machine/Operands.lean ====
section
/-! DEFINITION. Fields of frames and commands as bytes: multi-byte fields high byte first (00, Byte order), text as
one character per byte or two per word (00, Text). -/

namespace Sys2Proof.Machine

/-! ## Writing fields -/

/-- A one-byte field, saturated at its largest value (R6). -/
def put8 (n : Nat) : List Byte := [byte (min n 0xFF)]

/-- A two-byte field, high byte first, saturated (R6). -/
def put16 (n : Nat) : List Byte :=
  let v := min n 0xFFFF
  [byte (v / 256), byte v]

/-- A four-byte field, high byte first, saturated (R6). -/
def put32 (n : Nat) : List Byte :=
  let v := min n 0xFFFFFFFF
  [byte (v / 16777216), byte (v / 65536), byte (v / 256), byte v]

/-- A flags or presence byte: bit 0 for the first flag (R192). -/
def flagBits : List Bool → Nat
  | [] => 0
  | b :: bs => b.toNat + 2 * flagBits bs

/-- A presence or flags byte as a byte. -/
def putFlags (bs : List Bool) : List Byte := put8 (flagBits bs)

/-! ## Reading fields, by offset -/

/-- The byte at offset i, 0 beyond the end. -/
def at8 (l : List Byte) (i : Nat) : Nat := (l.getD i 0).toNat

/-- The two-byte field at offset i. -/
def at16 (l : List Byte) (i : Nat) : Nat := at8 l i * 256 + at8 l (i + 1)

/-- The four-byte field at offset i. -/
def at32 (l : List Byte) (i : Nat) : Nat := at16 l i * 65536 + at16 l (i + 2)

/-- A two-byte field that holds a station id: the top four bits are ignored (01, section 1.4). -/
def atId (l : List Byte) (i : Nat) : Nat := at16 l i % 4096

/-! ## Text -/

/-- A printable 7-bit character (00, Text). -/
def printable (c : Byte) : Bool := 0x20 ≤ c.toNat && c.toNat ≤ 0x7E

/-- A character outside 0x20..0x7E is taken as the question mark (R9). -/
def clampChar (c : Byte) : Byte := if printable c then c else 0x3F

/-- The text packed two characters to a word, the earlier in the high byte; the last word of an odd length carries 0x00 in its low byte (00, Text). -/
def packText (t : List Byte) : List Byte := if t.length % 2 = 1 then t ++ [0] else t

/-- The number of words of a text of n characters: ceil(n / 2) (R153). -/
def textWords (n : Nat) : Nat := (n + 1) / 2

/-! ## Saturating and wrapping counts (00, Counters and totals) -/

/-- n + m, saturated at the largest value of a counter. -/
def satAdd (cap n m : Nat) : Nat := min cap (n + m)

/-- Largest values of 8-, 16- and 32-bit counters. -/
abbrev cap8 : Nat := 0xFF
@[inherit_doc cap8] abbrev cap16 : Nat := 0xFFFF
@[inherit_doc cap8] abbrev cap32 : Nat := 0xFFFFFFFF

/-- The wrapping 8-bit counters: 255 is followed by 0. -/
def next8 (n : Nat) : Nat := (n + 1) % 256

/-! ## Instants -/

/-- Units of the time grid in one millisecond (assumption 1). -/
def ms : Nat := 24

/-- Units of the time grid in one bit period at 4800 bit/s: 5/24 ms. -/
def bitPeriod : Nat := 5

/-- Whether a timer that is running has reached its expiry. -/
def due (t : Option Nat) (now : Nat) : Bool :=
  match t with
  | some t => t ≤ now
  | none => false

end Sys2Proof.Machine
end

