-- ==== Sys2Proof/Syntax.lean ====
section
/-! DEFINITION. The commands and events of the FC60: one constructor for each row of spec/opcode_table.json. -/

namespace Sys2Proof

/-- One row of spec/opcode_table.json. A host command carries its parameter bytes in the fields of R192;
an event carries what it brings from outside; a timer event names the slot it concerns. A row at which the part
samples an input pin carries the level of the pin at that moment (assumption 13). -/
inductive Instr where
  /-- POWER_ON (R142): main supply comes up; `panicLow` is the level of PANIC found at the reset (R164). -/
  | powerOn (panicLow : Bool)
  /-- RESET_PIN (R11, R188). -/
  | resetPin (panicLow : Bool)
  /-- CONFIGURE (R186), the 17 parameter bytes. -/
  | configure (stationId : BitVec 16) (fleet home vclass bidMode defaults : Byte) (maxDist : BitVec 16)
      (penalty idleCap beacon : Byte) (cancelCode duressCode : BitVec 16) (covertSign : Byte)
  /-- LOAD_ZONE (R55): the bytes after the length byte, which states their number. -/
  | loadZone (bytes : List Byte)
  /-- LOAD_TARIFF (R113); TPROT is read at the command. -/
  | loadTariff (slot : Byte) (flagFall incAmount incDist incTime : BitVec 16) (n0 : Byte) (tprotOpen : Bool)
  /-- LOAD_SURCHARGE (R114); TPROT is read at the command. -/
  | loadSurcharge (index : Byte) (amount : BitVec 16) (tprotOpen : Bool)
  /-- SET_PULSE_CONSTANT (R114); TPROT is read at the command. -/
  | setPulseConstant (k : BitVec 16) (tprotOpen : Bool)
  /-- GO (R187). -/
  | go
  /-- SENSE_EVENT (R190). -/
  | senseEvent
  /-- READ_STATUS (R191), which reports the level of TPROT. -/
  | readStatus (tprotOpen : Bool)
  /-- RESTART (R188). -/
  | restart (panicLow : Bool)
  /-- READ_CHANNEL_STATS (R47). -/
  | readChannelStats
  /-- SET_POSITION (R50, R51). -/
  | setPosition (east north : BitVec 16) (fix : Byte)
  /-- SET_DRIVER_STATUS (R108). -/
  | setDriverStatus (status : Byte)
  /-- READ_PEER (R65). -/
  | readPeer (slot : Byte)
  /-- READ_OFFER (R80). -/
  | readOffer (slot : Byte)
  /-- SCAN_OFFERS (R81). -/
  | scanOffers (start : Byte) (mask : BitVec 24) (maxScore : BitVec 16) (zone : Byte)
  /-- ACCEPT_OFFER (R82). -/
  | acceptOffer (slot : Byte)
  /-- PASS_OFFER (R83). -/
  | passOffer (slot : Byte)
  /-- RELEASE_JOB (R84). -/
  | releaseJob (reason : Byte)
  /-- HIRE (R117). -/
  | hire (tariff : Byte)
  /-- STOP (R123). -/
  | stop
  /-- RESUME (R124). -/
  | resume
  /-- SETTLE (R125). -/
  | settle (payment : Byte)
  /-- ADD_EXTRA (R122). -/
  | addExtra (amount : BitVec 16)
  /-- READ_FARE (R128). -/
  | readFare
  /-- START_SHIFT (R137). -/
  | startShift
  /-- END_SHIFT (R138). -/
  | endShift
  /-- READ_TOTALS (R144). -/
  | readTotals
  /-- READ_TRIP (R131). -/
  | readTrip (n : Byte)
  /-- POST_NOTE (R156): the bytes after the length byte, which states their number. -/
  | postNote (bytes : List Byte)
  /-- READ_NOTE (R153). -/
  | readNote (slot word : Byte)
  /-- SCAN_NOTES (R154). -/
  | scanNotes (start mask urgentOnly : Byte) (origin : BitVec 16)
  /-- MARK_READ (R150). -/
  | markRead (slot : Byte)
  /-- DELETE_NOTE (R151). -/
  | deleteNote (slot : Byte)
  /-- READ_OUTBOX (R160). -/
  | readOutbox (slot : Byte)
  /-- CLEAR_OUTBOX (R160). -/
  | clearOutbox
  /-- RAISE_ALARM (R166). -/
  | raiseAlarm
  /-- CANCEL_ALARM (R170). -/
  | cancelAlarm (code : BitVec 16)
  /-- READ_ALARM (R178). -/
  | readAlarm (index : Byte)
  /-- INVALID (R181): a code byte that names no command; `last` when CSN rises after it. -/
  | invalid (code : Byte) (last : Bool := false)
  /-- ABANDONMENT_TIMER (R182). -/
  | abandonmentTimer
  /-- EXEC_BYTE_DISCARD (R183); `last` when CSN rises after the byte. -/
  | execByteDiscard (last : Bool := false)
  /-- RESULT_BYTE (R184): one byte exchanged on the port; `first` when CSN has fallen for it, and since the last reset, `mosi`
  what the host sends; `last` when CSN rises after it. -/
  | resultByte (first : Bool) (mosi : Byte) (last : Bool := false)
  /-- PARTIAL_BYTE (R179): CSN rises inside a byte; `older` when the transaction of that byte was in progress at the last
  reset (R188). -/
  | partialByte (older : Bool := false)
  /-- CD_RISE (R28). -/
  | cdRise
  /-- CD_FALL (R22, R32, R7): `taken` are the whole bytes clocked from RXD since the sync word, `further` the bits clocked
  after the last check bit. -/
  | cdFall (taken : List Byte) (further : Nat)
  /-- CHANNEL_BLOCKED (R28). -/
  | channelBlocked
  /-- CHANNEL_CLEAR (R28). -/
  | channelClear
  /-- FRAME_RECEIVED (R33): header, body and check as clocked from RXD, and the bits clocked after the last check bit. -/
  | frameReceived (bytes : List Byte) (further : Nat)
  /-- OVERLONG_LENGTH (R7): a length byte above 52. -/
  | overlongLength (len : Byte)
  /-- CACHE_EXPIRY (R41) of the entry with this key; `kind` is the kind code. -/
  | cacheExpiry (origin kind seq : Nat)
  /-- RELAY_HOLD_RELEASE (R44). -/
  | relayHoldRelease (hold : Nat)
  /-- BACKOFF_END (R24). -/
  | backoffEnd
  /-- TRANSMISSION_END (R27). -/
  | transmissionEnd
  /-- ALARM_END_GAP (R172). -/
  | alarmEndGap
  /-- FIX_STALE (R52). -/
  | fixStale
  /-- PEER_AGING (R64). -/
  | peerAging (slot : Nat)
  /-- BEACON_INTERVAL (R66). -/
  | beaconInterval
  /-- BEACON_CHANGE_TIMER (R67). -/
  | beaconChangeTimer
  /-- CLAIM_POINT (R90). -/
  | claimPoint (slot : Nat)
  /-- LATEST_CLAIM_POINT (R92). -/
  | latestClaimPoint (slot : Nat)
  /-- CLOSE (R95). -/
  | close (slot : Nat)
  /-- TAKE_TURN (R97). -/
  | takeTurn (slot : Nat)
  /-- WATCH_CLOSE (R96). -/
  | watchClose (slot : Nat)
  /-- ENTRY_RETENTION_END (R73). -/
  | entryRetentionEnd (slot : Nat)
  /-- PULSE (R115). -/
  | pulse
  /-- SECOND_TICK (R119, R120). -/
  | secondTick
  /-- SHIFT_TIME_TICK (R135). -/
  | shiftTimeTick
  /-- NOTE_RETRY (R158). -/
  | noteRetry (slot : Nat)
  /-- PANIC_PRESS (R164, R165): PANIC has been low for 20 ms, and the filter counts the level. -/
  | panicPress
  /-- PANIC_RELEASE (R164, R165): PANIC has been high for 20 ms, and the filter counts the level. -/
  | panicRelease
  /-- HOLD_TIMER (R165). -/
  | holdTimer
  /-- ALARM_REPEAT (R168). -/
  | alarmRepeat
  /-- ALARM_TABLE_AGING (R177). -/
  | alarmTableAging (slot : Nat)
  /-- SIGN_FLASH_TOGGLE (R163). -/
  | signFlashToggle
  /-- SYNC_WORD_MATCH (R31): the bits last clocked from RXD are those of the sync word (assumption 5). -/
  | syncWordMatch
  /-- PANIC_LEVEL_CHANGE (R164): PANIC is at this level, as a change of the pin or, when it has been held for 20 ms, as the
  level the filter counts (assumption 13). -/
  | panicLevelChange (low : Bool)
  /-- MAIN_SUPPLY_LOSS (R141): `vbk` when the backup supply is present. -/
  | mainSupplyLoss (vbk : Bool)
  deriving DecidableEq, Repr

end Sys2Proof
end

