-- ==== Sys2Proof/Machine/Types.lean ====
section
/-! DEFINITION. The data the blocks of the FC60 hold, each structure cited to the rule that names its fields. -/

namespace Sys2Proof.Machine

/-! ## Names and small records -/

/-- A position on the fleet grid, in units of 10 m (00, Positions and distances). -/
structure Point where
  east : Nat
  north : Nat
  deriving DecidableEq, Repr

/-- The key of a job: base id and job id (R70). -/
structure JobKey where
  base : Nat
  job : Nat
  deriving DecidableEq, Repr

/-- The eleven frame kinds (01, section 1.4). -/
inductive Kind where
  | beacon | offer | claim | take | drop | cancel | note | receipt | alarm | alarmEnd | tally
  deriving DecidableEq, Repr

/-- Availability (R109). -/
inductive Avail where
  | free | noFix | onCall | hired | total | onBreak | off | alarm
  deriving DecidableEq, Repr

/-- Fare state (R107). -/
inductive FareState where
  | vacant | onCall | hired | held | total
  deriving DecidableEq, Repr

/-- Driver status (R108). -/
inductive DriverStatus where
  | available | onBreak | off
  deriving DecidableEq, Repr

/-- Own alarm state (R162). -/
inductive AlarmState where
  | quiet | arming | alerting | covert | ending
  deriving DecidableEq, Repr

/-- Kind of a RECEIPT (01, section 1.4). -/
inductive ReceiptKind where
  | stored | read | refusedFull
  deriving DecidableEq, Repr

/-! ## Frames on air (chapter 1) -/

/-- Body of an OFFER. -/
structure OfferBody where
  job : Nat
  pickup : Point
  zone : Nat
  window : Nat
  mask : BitVec 4
  account : Bool
  note : List Byte
  deriving DecidableEq, Repr

/-- Body of a NOTE. `ref` is the job reference as it stands on air; R9 makes one whose base id is outside 1..31 absent for the receiver only. -/
structure NoteBody where
  dest : Nat
  id : Nat
  wanted : Bool
  urgent : Bool
  ref : Option JobKey
  text : List Byte
  deriving DecidableEq, Repr

/-- Body of a TALLY. -/
structure TallyBody where
  dest : Nat
  shiftEnd : Bool
  trips : Nat
  fare : Nat
  extras : Nat
  hired : Nat
  dist : Nat
  lastTrip : Nat
  deriving DecidableEq, Repr

/-- Frame bodies (01, section 1.4), with the values of R9 after reception. -/
inductive Body where
  | beacon (pos : Point) (fix : Bool) (status : Option Avail) (zone : Nat) (vclass : Option Nat)
  | offer (o : OfferBody)
  | claim (key : JobKey) (score : Nat) (vclass : Option Nat)
  | take (key : JobKey) (score rank : Nat) (rep : Bool)
  | drop (key : JobKey) (reason : Nat)
  | cancel (job reason : Nat)
  | note (n : NoteBody)
  | receipt (dest id : Nat) (kind : ReceiptKind)
  | alarm (serial count : Nat) (fix duress : Bool) (pos : Point)
  | alarmEnd (serial : Nat) (pos : Point)
  | tally (t : TallyBody)
  deriving DecidableEq, Repr

/-- A frame: the header fields of section 1.2 and the body. The kind and the length follow from the body. -/
structure Frame where
  fleet : Nat
  origin : Nat
  hops : Nat
  relayed : Bool
  sender : Nat
  seq : Nat
  body : Body
  deriving DecidableEq, Repr

/-! ## Channel access unit (chapter 2) -/

/-- The owner's record an own frame belongs to: the board entry by its key, the inbox record by its key, the outbox record by its slot. -/
inductive OwnRef where
  | beacon
  | claim (k : JobKey)
  | take (k : JobKey)
  | drop (k : JobKey)
  | note (slot : Nat)
  | receipt (kind : ReceiptKind) (dest id : Nat)
  | tally
  | alarm
  | alarmEnd
  deriving DecidableEq, Repr

/-- Owner of a queue entry: a block of the part, or the RRU for a relayed frame (02). -/
inductive Owner where
  | own (r : OwnRef)
  | relay
  deriving DecidableEq, Repr

/-- A pending mark: its mark time, and the sequence of a displaced frame (R19, R20). -/
structure Mark where
  time : Nat
  seq : Option Nat
  deriving DecidableEq, Repr

/-- An own frame as its owner offers it: with the sequence and mark time it carries when it was offered before (R15, R19). -/
structure Offered where
  ref : OwnRef
  body : Body
  seq : Option Nat
  mark : Option Nat
  deriving DecidableEq, Repr

/-- Transmit queue entry (R12); `mark` is the mark time a re-offered frame carries (R19). -/
structure QEntry where
  frame : Frame
  cls : Nat
  enq : Nat
  owner : Owner
  endOfCopy : Option Nat
  mark : Option Nat
  deriving DecidableEq, Repr

/-- The entry on air, from the first preamble bit to the last check bit (R2, R25). -/
structure OnAir where
  entry : QEntry
  start : Nat
  stop : Nat
  deriving DecidableEq, Repr

/-- The access unit, when it is not keying (R23, R24). -/
inductive AccessUnit where
  | rest
  | waiting (till : Nat)
  deriving DecidableEq, Repr

/-- State of the CAU (R30). The retained sequence counter stands in `Retained`. -/
structure Cau where
  queue : List QEntry
  onAir : Option OnAir
  deferred0 : Option Offered
  deferredTally : Option Offered
  deferredBeacon : Option Offered
  au : AccessUnit
  w : Nat
  blocked : Bool
  blockedAt : Option Nat
  clearAt : Option Nat
  idleRef : Option Nat
  deriving DecidableEq, Repr

/-! ## Receive and relay unit (chapter 3) -/

/-- The receiver: not hunting, hunting the sync word, or taking a frame. The window of the hunt holds the last bits clocked
from RXD since the hunt began, at most 16, earliest first (R31). -/
inductive RxState where
  | idle
  | hunting (window : List Bool)
  | taking
  deriving DecidableEq, Repr

/-- Relay mark of a cache entry (R38). -/
inductive RelayMark where
  | none
  | hold (i : Nat)
  | queued
  deriving DecidableEq, Repr

/-- Key of the recent-frame cache (R38). -/
structure FrameKey where
  origin : Nat
  kind : Kind
  seq : Nat
  deriving DecidableEq, Repr

/-- Recent-frame cache entry (R38). -/
structure CacheEntry where
  key : FrameKey
  firstHeard : Nat
  copies : Nat
  mark : RelayMark
  deriving DecidableEq, Repr

/-- A busy relay hold (R43). -/
structure Hold where
  frame : Frame
  endOfCopy : Nat
  release : Nat
  deriving DecidableEq, Repr

/-- Channel statistics, in the order of R47. -/
structure Stats where
  good : Nat
  checkFailures : Nat
  truncated : Nat
  malformed : Nat
  copies : Nat
  relaysSent : Nat
  relaysCancelled : Nat
  relaysDropped : Nat
  ownRefused : Nat
  idClashes : Nat
  deriving DecidableEq, Repr

/-- State of the RRU (R48). `syncAt` is the moment of the last sync word match, from which the bits of a frame are counted
(R7, R31; assumption 5). -/
structure Rru where
  rx : RxState
  cache : List CacheEntry
  holds : List (Option Hold)
  stats : Stats
  clashReported : Bool
  syncAt : Nat
  deriving DecidableEq, Repr

/-! ## Position and peer unit (chapter 4) -/

/-- A defined zone slot (R54). -/
structure Zone where
  eastMin : Nat
  eastMax : Nat
  northMin : Nat
  northMax : Nat
  surcharge : Nat
  neighbours : BitVec 64
  deriving DecidableEq, Repr

/-- A reported position with its fix flag (R59, R174). -/
structure Fix where
  pos : Point
  valid : Bool
  deriving DecidableEq, Repr

/-- Beacon report of a peer entry (R59). -/
structure BeaconReport where
  status : Option Avail
  zone : Nat
  vclass : Option Nat
  deriving DecidableEq, Repr

/-- Peer table entry (R59). -/
structure Peer where
  id : Nat
  hop : Nat
  lastHeard : Nat
  lastDirect : Option Nat
  frames : Nat
  position : Option Fix
  report : Option BeaconReport
  deriving DecidableEq, Repr

/-- State of the PPU (R69). -/
structure Ppu where
  position : Option Point
  fix : Bool
  fixTime : Option Nat
  stale : Bool
  zone : Nat
  zones : List (Option Zone)
  peers : List (Option Peer)
  intervalAt : Option Nat
  changeAt : Option Nat
  avail : Option Avail
  deriving DecidableEq, Repr

/-! ## Offer board (chapters 5 and 6) -/

/-- The seventeen entry states of R72. -/
inductive OfferState where
  | opened | claimPending | claimed | ranked | taking | taken | watch
  | lost | outbid | missed | unanswered | forfeit | yielded | withdrawn | dropped | done | closed
  deriving DecidableEq, Repr

/-- The reasons of R72, coded as in section 11.5. -/
inductive Reason where
  | cls | zone | distance | busy | noFix | passed | short | alarm
  | customer | reOffered | other | noShow | declined | emergency
  deriving DecidableEq, Repr

/-- A claim record (R71). -/
structure Claim where
  id : Nat
  score : Nat
  deriving DecidableEq, Repr

/-- Board entry: the fields of R70, the times of R89, and four fields that record which case of R73, R92, R93 and R98 holds. -/
structure BoardEntry where
  key : JobKey
  state : OfferState
  reason : Option Reason
  received : Nat
  close : Nat
  pickup : Point
  zone : Nat
  mask : BitVec 4
  account : Bool
  note : List Byte
  viaRelay : Bool
  score : Option Nat
  acceptTime : Option Nat
  rank : Option Nat
  claims : List Claim
  takenBy : Option Claim
  claimMark : Option Mark
  takeMark : Option Mark
  dropMark : Option Mark
  repeatUsed : Bool
  termTime : Option Nat
  computedPoint : Nat
  claimPoint : Option Nat
  latestPoint : Nat
  latestTaken : Bool
  closeTaken : Bool
  droppedFromTaking : Bool
  retentionPassed : Bool
  deriving DecidableEq, Repr

/-- State of the OFB (R86). -/
structure Ofb where
  slots : List (Option BoardEntry)
  boardFull : Nat
  avail : Option Avail
  deriving DecidableEq, Repr

/-! ## Fare engine (chapter 7) -/

/-- A defined tariff slot (R112). -/
structure Tariff where
  flagFall : Nat
  incAmount : Nat
  incDist : Nat
  incTime : Nat
  n0 : Nat
  deriving DecidableEq, Repr

/-- Flags of a trip (R116), in the order of R192. -/
structure TripFlags where
  fareLimit : Bool
  overspeed : Bool
  interrupted : Bool
  lateCancel : Bool
  deriving DecidableEq, Repr

/-- The trip in progress (R116). Bit i - 1 of `applied` stands for surcharge index i. -/
structure Trip where
  tariff : Nat
  flagFall : Nat
  incAmount : Nat
  incTime : Nat
  n0 : Nat
  dp : Nat
  theta : Nat
  acc : Nat
  units : Nat
  bucket : Nat
  dist : Nat
  rem : Nat
  hiredS : Nat
  heldS : Nat
  applied : BitVec 3
  surchSum : Nat
  extras : List Nat
  flags : TripFlags
  hireTime : Nat
  stopTime : Option Nat
  jobKey : Option JobKey
  deriving DecidableEq, Repr

/-- Volatile state of the FRE (R129). -/
structure Fre where
  driver : DriverStatus
  avail : Option Avail
  idleSince : Option Nat
  secondAt : Option Nat
  deriving DecidableEq, Repr

/-! ## Totals and trip log (chapter 8) -/

/-- A trip record (R130). `payment` is 0 CASH, 1 CARD, 2 ACCOUNT. -/
structure TripRecord where
  number : Nat
  tariff : Nat
  hireTime : Nat
  stopTime : Nat
  dist : Nat
  hiredS : Nat
  heldS : Nat
  meter : Nat
  surcharges : Nat
  extras : Nat
  extraCount : Nat
  total : Nat
  payment : Nat
  jobKey : Option JobKey
  flags : TripFlags
  deriving DecidableEq, Repr

/-- Shift totals, in the order of R144. -/
structure ShiftTotals where
  trips : Nat
  fare : Nat
  extras : Nat
  surcharges : Nat
  cash : Nat
  card : Nat
  account : Nat
  hiredDist : Nat
  totalDist : Nat
  hiredS : Nat
  deriving DecidableEq, Repr

/-- Lifetime totals, in the order of R144. -/
structure LifeTotals where
  trips : Nat
  fare : Nat
  hiredDist : Nat
  totalDist : Nat
  deriving DecidableEq, Repr

/-- Place of the tally in hand (R139). -/
inductive TallyPlace where
  | offered
  | pending (mark : Nat)
  deriving DecidableEq, Repr

/-- The tally in hand (R139). -/
structure TallyInHand where
  body : TallyBody
  seq : Option Nat
  place : TallyPlace
  deriving DecidableEq, Repr

/-- Volatile state of the TTL (R143). -/
structure Ttl where
  tally : Option TallyInHand
  shiftTickAt : Option Nat
  deriving DecidableEq, Repr

/-! ## Note store (chapter 9) -/

/-- State of an inbox record (R145). -/
inductive InState where
  | unread | read | deleted
  deriving DecidableEq, Repr

/-- Delete reason (R145). -/
inductive DelReason where
  | host | jobWithdrawn
  deriving DecidableEq, Repr

/-- Inbox record (R145). -/
structure InNote where
  origin : Nat
  toAll : Bool
  id : Nat
  urgent : Bool
  wanted : Bool
  key : Option JobKey
  arrival : Nat
  text : List Byte
  state : InState
  delReason : Option DelReason
  storedMark : Option Mark
  readMark : Option Mark
  deriving DecidableEq, Repr

/-- State of an outbox record (R155). -/
inductive OutState where
  | pending | queued | await | sent | delivered | read | refused | failed
  deriving DecidableEq, Repr

/-- Outbox record (R155). -/
structure OutNote where
  dest : Nat
  id : Nat
  wanted : Bool
  urgent : Bool
  key : Option JobKey
  text : List Byte
  made : Nat
  retryAt : Option Nat
  mark : Option Mark
  state : OutState
  termTime : Option Nat
  deriving DecidableEq, Repr

/-- Refusal list entry (R149). -/
structure RefusedPair where
  dest : Nat
  id : Nat
  mark : Mark
  deriving DecidableEq, Repr

/-- Volatile state of the NTS (R161). -/
structure Nts where
  inbox : List (Option InNote)
  outbox : List (Option OutNote)
  refusals : List RefusedPair
  refusalsLost : Nat
  deriving DecidableEq, Repr

/-! ## Emergency unit (chapter 10) -/

/-- Ending step (R162). -/
inductive EndStep where
  | first | gap | second
  deriving DecidableEq, Repr

/-- The flash pattern while it is requested (R163). -/
structure Flash where
  lit : Bool
  toggleAt : Nat
  deriving DecidableEq, Repr

/-- State of an alarm table entry (R174). -/
inductive HeardState where
  | active | silent | ended
  deriving DecidableEq, Repr

/-- Alarm table entry (R174). -/
structure AlarmEntry where
  origin : Nat
  serial : Nat
  firstHeard : Nat
  lastHeard : Nat
  endedTime : Option Nat
  position : Option Fix
  duress : Bool
  hop : Nat
  repeats : Nat
  lastCount : Nat
  state : HeardState
  deriving DecidableEq, Repr

/-- Volatile state of the EMU (R173). `panicLow` is the level of PANIC in force, and `filterAt` the time at which the filter
counts the other level, while the pin holds it (R164). -/
structure Emu where
  repeats : Nat
  repeatAt : Option Nat
  holdAt : Option Nat
  gapAt : Option Nat
  ending : Option EndStep
  firstSent : Bool
  panicLow : Bool
  filterAt : Option Nat
  flash : Option Flash
  table : List (Option AlarmEntry)
  deriving DecidableEq, Repr

/-! ## Command port (chapter 11) -/

/-- Part state (R185). -/
inductive PartState where
  | config | run
  deriving DecidableEq, Repr

/-- Phase of the command port (R180). -/
inductive Phase where
  | ready | param | exec | result
  deriving DecidableEq, Repr

/-- How the port takes a byte that opens no transaction (R188): by its phase; by its phase again as soon as a transaction has
opened after the reset, at which none was in progress as the rows show it; or, in a transaction in progress at the reset,
not at all. -/
inductive Muting where
  | off | armed | on
  deriving DecidableEq, Repr

/-- Bid mode (R186). -/
inductive BidMode where
  | auto | confirm
  deriving DecidableEq, Repr

/-- The values held by CONFIGURE (R186). -/
structure Station where
  id : Nat
  fleet : Nat
  home : Nat
  vclass : Nat
  bidMode : BidMode
  maxDist : Nat
  penalty : Nat
  idleCap : Nat
  beacon : Nat
  cancelCode : Nat
  duressCode : Nat
  covertSign : Bool
  deriving DecidableEq, Repr

/-- Event kinds (11, section 11.6). -/
inductive EventKind where
  | start | offerNew | offerWon | offerLost | jobYielded | jobCancelled | takeConflict
  | noteArrived | noteUrgent | noteDelivered | noteRead | noteFailed | noteRefused
  | alarmHeard | alarmEnded | alarmSent | channelBlocked | channelClear | idClash | fareLimit
  deriving DecidableEq, Repr

/-- Event queue entry (R189). -/
structure Event where
  kind : EventKind
  subject : Nat
  detail : Nat
  count : Nat
  deriving DecidableEq, Repr

/-- State of the CPT (R188). The configured flag is the presence of `config`. `muted` says whether a
transaction that was in progress at the last reset still has its bytes discarded (assumption 12). -/
structure Cpt where
  part : PartState
  phase : Phase
  code : Byte
  params : List Byte
  abandonAt : Option Nat
  result : List Byte
  phaseError : Bool
  muted : Muting
  sdo : Byte
  config : Option Station
  goTime : Nat
  events : List Event
  overflow : Bool
  deriving DecidableEq, Repr

/-! ## The retained store and the pins -/

/-- Content of the retained store (R141). -/
structure Retained where
  tariffs : List (Option Tariff)
  surcharges : List Nat
  k : Option Nat
  fare : FareState
  trip : Option Trip
  totalDist : Nat
  totalRem : Nat
  shift : ShiftTotals
  shiftOpen : Bool
  shiftTime : Nat
  life : LifeTotals
  tripLog : List TripRecord
  tripCounter : Nat
  retainedLost : Bool
  seq : Nat
  noteId : Nat
  alarm : AlarmState
  covert : Bool
  serial : Nat
  deriving DecidableEq, Repr

/-- Input pins whose level the part reads as a level (00, pin table); `csnLow` as the bytes exchanged show it (assumption 12). -/
structure Pins where
  cd : Bool
  tprotOpen : Bool
  panicLow : Bool
  csnLow : Bool
  deriving DecidableEq, Repr

end Sys2Proof.Machine
end

