-- ==== Sys2Proof/Config.lean ====
section
/-! DEFINITION. What the manual leaves to the implementation or to chance: constants without a body, so that no proof can rest on their values. -/

namespace Sys2Proof

/-- FREE VALUE. The stream of values behind every random draw (00, Random values) and every choice that may be
taken "in either order". Only the range of a draw is specified; the range is applied where the value is used (assumption 3). -/
opaque Config.free : Nat → Nat

/-- The content of the retained store as the bytes its check is computed over, "in a fixed internal order" that
R141 does not give (assumption 7). -/
opaque Config.storeBytes : Machine.Retained → List Byte

/-- The byte that READ-TOTALS gives for the shift state, true for OPEN: R144 and R192 give it no code (assumption 16). -/
opaque Config.shiftStateCode : Bool → Byte

/-- The byte that READ-FARE gives for the applied surcharge indices, bit i - 1 of the argument for index i: R128 and
R192 give its bits no order (assumption 16). -/
opaque Config.appliedCode : BitVec 3 → Byte

end Sys2Proof
end

