-- ==== Sys2Proof/Machine/Crc.lean ====
section
/-! DEFINITION. The check of R5, used on air and for the retained store (R141). -/

namespace Sys2Proof.Machine

/-- One data bit of R5: shift, and add the generator when the bit shifted out differs from the data bit. -/
def crcBit (reg : BitVec 16) (bit : Bool) : BitVec 16 :=
  if reg.msb != bit then (reg <<< 1) ^^^ 0x1021 else reg <<< 1

/-- One byte, most significant bit first. -/
def crcByte (reg : BitVec 16) (b : Byte) : BitVec 16 :=
  [7, 6, 5, 4, 3, 2, 1, 0].foldl (fun r i => crcBit r (b.getLsbD i)) reg

/-- The check over a run of bytes: register preset to all ones, no inversion (R5). -/
def crc16 (bytes : List Byte) : BitVec 16 :=
  bytes.foldl crcByte 0xFFFF

/-- The two check bytes, high byte first (R5). -/
def crcBytes (bytes : List Byte) : List Byte :=
  [(crc16 bytes).extractLsb' 8 8, (crc16 bytes).extractLsb' 0 8]

end Sys2Proof.Machine
end

