-- ==== Sys2Proof/Machine/State.lean ====
section
/-! DEFINITION. The state of the FC60: the nine blocks, the retained store with its check word, the pins, the timebase and the queue of waiting rows. -/

namespace Sys2Proof.Machine

/-- The whole state of the part. `now` is the internal timebase in units of 1/24 ms (assumption 1), `draws`
counts the free values used (assumption 3), `pending` holds the rows that wait, first in, first out. -/
structure State where
  now : Nat
  draws : Nat
  powered : Bool
  storeLost : Bool
  ret : Retained
  check : BitVec 16
  pins : Pins
  cau : Cau
  rru : Rru
  ppu : Ppu
  ofb : Ofb
  fre : Fre
  ttl : Ttl
  nts : Nts
  emu : Emu
  cpt : Cpt
  pending : List Instr
  deriving DecidableEq, Repr

/-- The part never stops: the manual gives no state in which it does, so there is no fault. -/
inductive Fault where
  deriving DecidableEq, Repr

/-- Refusals. -/
inductive Refusal where
  /-- Raised by `exec` alone, for a row without a meaning. Safe: nothing is claimed of such a row. No row of this model raises it. -/
  | notModelled (mnemonic : String)
  deriving DecidableEq, Repr

/-- The check word of a content (R141). -/
def storeCheck (r : Retained) : BitVec 16 := crc16 (Config.storeBytes r)

/-! ## Reset values, block by block -/

/-- No trips, no metres (R133). -/
def ShiftTotals.zero : ShiftTotals := ⟨0, 0, 0, 0, 0, 0, 0, 0, 0, 0⟩

/-- No trips, no metres (R133). -/
def LifeTotals.zero : LifeTotals := ⟨0, 0, 0, 0⟩

/-- The content after the store has been cleared at a power-on, with the retained-lost flag set (R142). -/
def Retained.cleared : Retained where
  tariffs := List.replicate 8 none
  surcharges := List.replicate 3 0
  k := none
  fare := .vacant
  trip := none
  totalDist := 0
  totalRem := 0
  shift := .zero
  shiftOpen := false
  shiftTime := 0
  life := .zero
  tripLog := []
  tripCounter := 0
  retainedLost := true
  seq := 0
  noteId := 0
  alarm := .quiet
  covert := false
  serial := 0

/-- The CAU after a reset (R30). -/
def Cau.reset : Cau := ⟨[], none, none, none, none, .rest, 4, false, none, none, none⟩

/-- All counts 0 (R48). -/
def Stats.zero : Stats := ⟨0, 0, 0, 0, 0, 0, 0, 0, 0, 0⟩

/-- The RRU after a reset (R48). -/
def Rru.reset : Rru := ⟨.idle, [], List.replicate 4 none, .zero, false, 0⟩

/-- The PPU after a reset (R69), before the fare engine has notified an availability. -/
def Ppu.reset : Ppu where
  position := none
  fix := false
  fixTime := none
  stale := true
  zone := 255
  zones := List.replicate 64 none
  peers := List.replicate 32 none
  intervalAt := none
  changeAt := none
  avail := none

/-- The OFB after a reset (R86), before the fare engine has notified an availability. -/
def Ofb.reset : Ofb := ⟨List.replicate 16 none, 0, none⟩

/-- The FRE's volatile state at a reset, before it computes an availability (R129). -/
def Fre.reset : Fre := ⟨.off, none, none, none⟩

/-- The TTL's volatile state at a reset with a closed shift (R143). -/
def Ttl.reset : Ttl := ⟨none, none⟩

/-- The NTS's volatile state after a reset (R161). -/
def Nts.reset : Nts := ⟨List.replicate 12 none, List.replicate 4 none, [], 0⟩

/-- The EMU's volatile state after a reset; the level in force is the level of the pin at the reset, and the filter rests (R164, R173). -/
def Emu.reset (panicLow : Bool) : Emu where
  repeats := 0
  repeatAt := none
  holdAt := none
  gapAt := none
  ending := none
  firstSent := false
  panicLow := panicLow
  filterAt := none
  flash := none
  table := List.replicate 4 none

/-- The CPT after a reset; a transaction in progress at it has its remaining bytes discarded (R188). -/
def Cpt.reset (csnLow : Bool) : Cpt where
  part := .config
  phase := .ready
  code := 0
  params := []
  abandonAt := none
  result := []
  phaseError := false
  muted := if csnLow then .on else .armed
  sdo := 0
  config := none
  goTime := 0
  events := []
  overflow := false

/-- The part right after a power-on that found the store bad, with PANIC not pressed (assumptions 8, 13): every
block at the reset value of its chapter, and the availability NO-FIX computed and notified (R129). -/
def State.reset : State where
  now := 0
  draws := 0
  powered := true
  storeLost := false
  ret := .cleared
  check := storeCheck .cleared
  pins := ⟨false, false, false, false⟩
  cau := .reset
  rru := .reset
  ppu := { Ppu.reset with avail := some .noFix }
  ofb := { Ofb.reset with avail := some .noFix }
  fre := { Fre.reset with avail := some .noFix }
  ttl := .reset
  nts := .reset
  emu := .reset false
  cpt := .reset false
  pending := []

end Sys2Proof.Machine
end

