-- ==== Sys2Proof/Machine/Ops.lean ====
section
/-! DEFINITION. Named operations over the state: block updates, the retained store with its check word, free values, slot tables and the event queue. -/

namespace Sys2Proof.Machine

/-! ## Block updates -/

/-- Replace the CAU's state. -/
def State.setCau (s : State) (c : Cau) : State := { s with cau := c }
/-- Replace the RRU's state. -/
def State.setRru (s : State) (r : Rru) : State := { s with rru := r }
/-- Replace the PPU's state. -/
def State.setPpu (s : State) (p : Ppu) : State := { s with ppu := p }
/-- Replace the OFB's state. -/
def State.setOfb (s : State) (o : Ofb) : State := { s with ofb := o }
/-- Replace the FRE's volatile state. -/
def State.setFre (s : State) (f : Fre) : State := { s with fre := f }
/-- Replace the TTL's volatile state. -/
def State.setTtl (s : State) (t : Ttl) : State := { s with ttl := t }
/-- Replace the NTS's volatile state. -/
def State.setNts (s : State) (n : Nts) : State := { s with nts := n }
/-- Replace the EMU's volatile state. -/
def State.setEmu (s : State) (e : Emu) : State := { s with emu := e }
/-- Replace the CPT's state. -/
def State.setCpt (s : State) (c : Cpt) : State := { s with cpt := c }
/-- Replace the levels of the input pins. -/
def State.setPins (s : State) (p : Pins) : State := { s with pins := p }
/-- Change the content of the retained store and rewrite its check word, one act (R141). -/
def State.setRet (s : State) (r : Retained) : State := { s with ret := r, check := storeCheck r }
/-- Let the next free value be used. -/
def State.nextDraw (s : State) : State := { s with draws := s.draws + 1 }
/-- Set the internal timebase. -/
def State.setNow (s : State) (t : Nat) : State := { s with now := t }
/-- Replace the queue of waiting rows. -/
def State.setPending (s : State) (q : List Instr) : State := { s with pending := q }

/-! ## Random values and choices in either order (00, Random values; assumption 3) -/

/-- The free value of this moment, brought into lo..hi. -/
def State.randomIn (s : State) (lo hi : Nat) : Nat := lo + Config.free s.draws % (hi + 1 - lo)

/-- The elements with the least key. -/
def leastBy (key : α → Nat) (l : List α) : List α := l.filter fun x => l.all fun y => key x ≤ key y

/-- Choose among the elements with the least key: the only one, or, of several, any one by a free value. -/
def State.pickLeast (s : State) (key : α → Nat) (l : List α) : Option α :=
  match leastBy key l with
  | [] => none
  | [x] => some x
  | x :: xs => (x :: xs)[Config.free s.draws % (xs.length + 1)]?

/-! ## Slot tables -/

/-- The entry in a slot. -/
def slotGet (l : List (Option α)) (i : Nat) : Option α := (l[i]?).join

/-- Write a slot. -/
def slotPut (l : List (Option α)) (i : Nat) (x : α) : List (Option α) := l.set i (some x)

/-- Free a slot. -/
def slotFree (l : List (Option α)) (i : Nat) : List (Option α) := l.set i none

/-- The lowest-numbered free slot. -/
def lowestFree (l : List (Option α)) : Option Nat := l.findIdx? (·.isNone)

/-- The first slot that holds an entry with the property, with its number. -/
def slotFind (p : α → Bool) : List (Option α) → Nat → Option (Nat × α)
  | [], _ => none
  | none :: l, i => slotFind p l (i + 1)
  | some x :: l, i => if p x then some (i, x) else slotFind p l (i + 1)

/-- The occupied slots with their numbers, in rising order. -/
def slotList : List (Option α) → Nat → List (Nat × α)
  | [], _ => []
  | none :: l, i => slotList l (i + 1)
  | some x :: l, i => (i, x) :: slotList l (i + 1)

/-- The entries of the occupied slots. -/
def slotEntries (l : List (Option α)) : List α := l.filterMap id

/-- The slots from `start` upwards, then from 0 to `start` - 1, once each (R81, R154). -/
def scanOrder (start size : Nat) : List Nat := (List.range size).map fun i => (start + i) % size

/-! ## The station as configured -/

/-- The own station id; 0 while no values are held (R191). -/
def State.ownId (s : State) : Nat := (s.cpt.config.map (·.id)).getD 0

/-- The own fleet code; 0 while no values are held (R191). -/
def State.ownFleet (s : State) : Nat := (s.cpt.config.map (·.fleet)).getD 0

/-- The home base; 0 for none (R186). -/
def State.homeBase (s : State) : Nat := (s.cpt.config.map (·.home)).getD 0

/-- The own vehicle class. -/
def State.ownClass (s : State) : Nat := (s.cpt.config.map (·.vclass)).getD 0

/-- The part is in RUN (R185). -/
def State.inRun (s : State) : Bool := s.cpt.part == .run

/-- Seconds since GO of an instant: the milliseconds elapsed, divided by 1000 and rounded down (R192). -/
def State.sinceGo (s : State) (t : Nat) : Nat := (t - s.cpt.goTime) / (1000 * ms)

/-! ## The event queue (R189) -/

/-- ALARM-HEARD and ALARM-ENDED may displace an event of another kind. -/
def EventKind.isAlarm : EventKind → Bool
  | .alarmHeard => true
  | .alarmEnded => true
  | _ => false

/-- The entry has this kind and subject. -/
def Event.sameAs (e : Event) (k : EventKind) (subject : Nat) : Bool := e.kind == k && e.subject == subject

/-- Step 1 of R189 on one entry. -/
def Event.mergeIn (k : EventKind) (subject detail : Nat) (e : Event) : Event :=
  if e.sameAs k subject then { e with count := satAdd cap8 e.count 1, detail := detail } else e

/-- Remove the oldest entry whose kind is neither ALARM-HEARD nor ALARM-ENDED. -/
def dropOldestOther (l : List Event) : List Event := l.eraseP fun e => !e.kind.isAlarm

/-- The queue and the overflow flag after an event is raised (R189). -/
def raiseIn (l : List Event) (overflow : Bool) (k : EventKind) (subject detail : Nat) : List Event × Bool :=
  if l.any (·.sameAs k subject) then (l.map (Event.mergeIn k subject detail), overflow)
  else if l.length < 16 then (l ++ [⟨k, subject, detail, 1⟩], overflow)
  else if k.isAlarm && l.any (fun e => !e.kind.isAlarm) then (dropOldestOther l ++ [⟨k, subject, detail, 1⟩], true)
  else (l, true)

/-- A block raises an event (R189). -/
def State.raiseEvent (s : State) (k : EventKind) (subject detail : Nat) : State :=
  let r := raiseIn s.cpt.events s.cpt.overflow k subject detail
  s.setCpt { s.cpt with events := r.1, overflow := r.2 }

/-! ## Channel statistics (R47) -/

/-- Replace the statistics counts. -/
def State.setStats (s : State) (t : Stats) : State := s.setRru { s.rru with stats := t }

/-- One more, saturating at 65535. -/
def inc16 (n : Nat) : Nat := satAdd cap16 n 1

/-! ## Distance (R58) -/

/-- The larger of the two differences plus three-eighths of the smaller, rounded down, at most 65535. -/
def distance (p q : Point) : Nat :=
  let dx := max p.east q.east - min p.east q.east
  let dy := max p.north q.north - min p.north q.north
  min 65535 (max dx dy + 3 * min dx dy / 8)

end Sys2Proof.Machine
end

