-- ==== Sys2Proof/Machine/Frames.lean ====
section
/-! DEFINITION. Frames as bytes on air: building (R1 to R6), validity (R7, R8) and the clamps on receipt (R9). -/

namespace Sys2Proof.Machine

/-! ## Codes (01, section 1.4) -/

/-- Kind codes. -/
def Kind.code : Kind → Nat
  | .beacon => 0x01
  | .offer => 0x10
  | .claim => 0x11
  | .take => 0x12
  | .drop => 0x13
  | .cancel => 0x14
  | .note => 0x20
  | .receipt => 0x21
  | .alarm => 0x30
  | .alarmEnd => 0x31
  | .tally => 0x40

/-- The kind of a kind code. -/
def Kind.ofCode (c : Nat) : Option Kind :=
  [Kind.beacon, .offer, .claim, .take, .drop, .cancel, .note, .receipt, .alarm, .alarmEnd, .tally].find? (·.code == c)

/-- Availability codes (R109). -/
def Avail.code : Avail → Nat
  | .free => 0
  | .noFix => 1
  | .onCall => 2
  | .hired => 3
  | .total => 4
  | .onBreak => 5
  | .off => 6
  | .alarm => 7

/-- The availability of a code; codes 8..15 give none (R9). -/
def Avail.ofCode (c : Nat) : Option Avail :=
  [Avail.free, .noFix, .onCall, .hired, .total, .onBreak, .off, .alarm].find? (·.code == c)

/-- RECEIPT kind codes. -/
def ReceiptKind.code : ReceiptKind → Nat
  | .stored => 0
  | .read => 1
  | .refusedFull => 2

/-- The receipt kind of a code; a code above 2 is malformed (R8). -/
def ReceiptKind.ofCode (c : Nat) : Option ReceiptKind :=
  [ReceiptKind.stored, .read, .refusedFull].find? (·.code == c)

/-- The kind of a body. -/
def Body.kind : Body → Kind
  | .beacon .. => .beacon
  | .offer _ => .offer
  | .claim .. => .claim
  | .take .. => .take
  | .drop .. => .drop
  | .cancel .. => .cancel
  | .note _ => .note
  | .receipt .. => .receipt
  | .alarm .. => .alarm
  | .alarmEnd .. => .alarmEnd
  | .tally _ => .tally

/-- The originator's budget of hops of the kinds the part originates (R3). -/
def Kind.budget : Kind → Nat
  | .beacon => 0
  | .claim => 0
  | .alarm => 3
  | .alarmEnd => 3
  | _ => 2

/-- The relayable kinds (01, section 1.4; R42). -/
def Kind.relayable : Kind → Bool
  | .beacon => false
  | .claim => false
  | _ => true

/-! ## Building (R3, R6) -/

/-- A position: easting, then northing. -/
def putPoint (p : Point) : List Byte := put16 p.east ++ put16 p.north

/-- A job key: base id, then job id. -/
def putKey (k : JobKey) : List Byte := put16 k.base ++ put16 k.job

/-- The body bytes of the layouts of section 1.4 (R6). A status or class that is absent has no coding of its own: it
stands only in a frame received and is never keyed, and is written as the first code that R9 reads as absent. -/
def Body.bytes : Body → List Byte
  | .beacon pos fix status zone vclass =>
    putPoint pos ++ put8 ((status.map (·.code)).getD 8 + 128 * fix.toNat) ++ put8 zone ++ put8 (vclass.getD 4)
  | .offer o =>
    put16 o.job ++ putPoint o.pickup ++ put8 o.zone ++ put8 o.window ++ put8 o.mask.toNat ++ put8 o.account.toNat
      ++ put8 o.note.length ++ o.note
  | .claim key score vclass => putKey key ++ put16 score ++ put8 (vclass.getD 4)
  | .take key score rank rep => putKey key ++ put16 score ++ put8 rank ++ put8 rep.toNat
  | .drop key reason => putKey key ++ put8 reason
  | .cancel job reason => put16 job ++ put8 reason
  | .note n =>
    put16 n.dest ++ put8 n.id ++ putFlags [n.wanted, n.urgent, n.ref.isSome]
      ++ (n.ref.map putKey).getD [] ++ put8 n.text.length ++ n.text
  | .receipt dest id kind => put16 dest ++ put8 id ++ put8 kind.code
  | .alarm serial count fix duress pos => put8 serial ++ put8 count ++ putFlags [fix, duress] ++ putPoint pos
  | .alarmEnd serial pos => put8 serial ++ putPoint pos
  | .tally t =>
    put16 t.dest ++ put8 t.shiftEnd.toNat ++ put16 t.trips ++ put32 t.fare ++ put32 t.extras ++ put32 t.hired
      ++ put32 t.dist ++ put16 t.lastTrip

/-- The eight header bytes (01, section 1.2). -/
def Frame.header (f : Frame) : List Byte :=
  put8 f.body.kind.code ++ put8 f.fleet ++ put16 (f.hops * 16384 + f.relayed.toNat * 8192 + f.origin)
    ++ put16 f.sender ++ put8 f.seq ++ put8 f.body.bytes.length

/-- Header and body, the bytes the check is computed over (R5). -/
def Frame.content (f : Frame) : List Byte := f.header ++ f.body.bytes

/-- Header, body and check: what a receiver takes after the sync word (R1). -/
def Frame.bytes (f : Frame) : List Byte := f.content ++ crcBytes f.content

/-- The frame on air: preamble, sync word, header, body, check (R1). -/
def Frame.onAirBytes (f : Frame) : List Byte := [0xAA, 0xAA, 0xAA, 0xAA, 0xE2, 0x5A] ++ f.bytes

/-- The airtime: (16 + body length) × 8 bit periods (R2). -/
def Frame.airtime (f : Frame) : Nat := (16 + f.body.bytes.length) * 8 * bitPeriod

/-- An own frame with this body and sequence (R3). -/
def State.ownFrame (s : State) (b : Body) (seq : Nat) : Frame where
  fleet := s.ownFleet
  origin := s.ownId
  hops := b.kind.budget
  relayed := false
  sender := s.ownId
  seq := seq
  body := b

/-- The copy the part keys for a relay: own sender, one hop fewer, relayed flag set (R3, R44). -/
def Frame.relayCopy (f : Frame) (ownId : Nat) : Frame :=
  { f with sender := ownId, hops := f.hops - 1, relayed := true }

/-- The cache key of a frame (R38). -/
def Frame.key (f : Frame) : FrameKey := ⟨f.origin, f.body.kind, f.seq⟩

/-! ## Extent (R7) -/

/-- The longest body a length byte may state. -/
def maxBody : Nat := 52

/-- The bytes clocked since the sync word are a whole frame: the header, as many body bytes as its length byte states, and the check. -/
def frameWhole (l : List Byte) : Bool := 8 ≤ l.length && at8 l 7 ≤ maxBody && l.length == 10 + at8 l 7

/-- The length byte has arrived and is above 52. -/
def frameOverlong (l : List Byte) : Bool := 8 ≤ l.length && maxBody < at8 l 7

/-- The register ends at zero over header, body and check (R5). -/
def checkGood (l : List Byte) : Bool := crc16 l == 0

/-! ## Validity and clamps (R8, R9) -/

/-- A base station id. -/
def isBase (id : Nat) : Bool := 1 ≤ id && id ≤ 31

/-- A cab id. -/
def isCab (id : Nat) : Bool := 32 ≤ id && id ≤ 4094

/-- One station's id, base or cab. -/
def isStation (id : Nat) : Bool := 1 ≤ id && id ≤ 4094

/-- The length that the kind's layout gives for the body's own contents; none when the body does not reach its length field (R8). -/
def layoutLength (k : Kind) (b : List Byte) : Option Nat :=
  match k with
  | .beacon => some 7
  | .claim => some 7
  | .alarm => some 7
  | .take => some 8
  | .drop => some 5
  | .alarmEnd => some 5
  | .cancel => some 3
  | .receipt => some 4
  | .tally => some 23
  | .offer => if 11 ≤ b.length then some (11 + at8 b 10) else none
  | .note =>
    if 4 ≤ b.length && (at8 b 3).testBit 2 then
      if 9 ≤ b.length then some (9 + at8 b 8) else none
    else if 5 ≤ b.length then some (5 + at8 b 4) else none

/-- Offset of a NOTE's text length, by its job reference flag. -/
def noteLenAt (b : List Byte) : Nat := if (at8 b 3).testBit 2 then 8 else 4

/-- The variable-length test of R8. -/
def variableLengthOk (k : Kind) (b : List Byte) : Bool :=
  match k with
  | .offer => at8 b 10 ≤ 24
  | .note => 1 ≤ at8 b (noteLenAt b) && at8 b (noteLenAt b) ≤ 40
  | _ => true

/-- The origin test of R8. -/
def originOk (k : Kind) (origin : Nat) : Bool :=
  match k with
  | .offer => isBase origin
  | .cancel => isBase origin
  | .beacon => isStation origin
  | .note => isStation origin
  | .receipt => isStation origin
  | _ => isCab origin

/-- The station fields of the body, and the RECEIPT kind (R8). -/
def bodyFieldsOk (k : Kind) (b : List Byte) : Bool :=
  match k with
  | .claim => isBase (atId b 0)
  | .take => isBase (atId b 0)
  | .drop => isBase (atId b 0)
  | .tally => isBase (atId b 0)
  | .note => atId b 0 != 0
  | .receipt => isStation (atId b 0) && at8 b 3 ≤ 2
  | _ => true

/-- A zone of 64..254 is taken as 255 (R9). -/
def clampZone (z : Nat) : Nat := if z < 64 then z else 255

/-- A vehicle class above 3 is absent (R9). -/
def clampClass (c : Nat) : Option Nat := if c ≤ 3 then some c else none

/-- A window above 300 is taken as 300 (R9; assumption 6). -/
def clampWindow (w : Nat) : Nat := min w 300

/-- A score above 1023 is taken as 1023 (R9). -/
def clampScore (n : Nat) : Nat := min n 1023

/-- A CANCEL reason above 2 is OTHER (R9). -/
def clampReason (n : Nat) : Nat := min n 2

/-- A job key at offset i. -/
def keyAt (b : List Byte) (i : Nat) : JobKey := ⟨atId b i, at16 b (i + 2)⟩

/-- A position at offset i. -/
def pointAt (b : List Byte) (i : Nat) : Point := ⟨at16 b i, at16 b (i + 2)⟩

/-- The body of a valid frame with the values of R9; bits marked zero in the layout are ignored. -/
def readBody (k : Kind) (b : List Byte) : Body :=
  match k with
  | .beacon =>
    .beacon (pointAt b 0) ((at8 b 4).testBit 7) (Avail.ofCode (at8 b 4 % 16)) (clampZone (at8 b 5)) (clampClass (at8 b 6))
  | .offer => .offer {
      job := at16 b 0
      pickup := pointAt b 2
      zone := clampZone (at8 b 6)
      window := clampWindow (at8 b 7)
      mask := BitVec.ofNat 4 (at8 b 8)
      account := (at8 b 9).testBit 0
      note := (b.drop 11).map clampChar }
  | .claim => .claim (keyAt b 0) (clampScore (at16 b 4)) (clampClass (at8 b 6))
  | .take => .take (keyAt b 0) (clampScore (at16 b 4)) (at8 b 6) ((at8 b 7).testBit 0)
  | .drop => .drop (keyAt b 0) (at8 b 4)
  | .cancel => .cancel (at16 b 0) (clampReason (at8 b 2))
  | .note => .note {
      dest := atId b 0
      id := at8 b 2
      wanted := (at8 b 3).testBit 0
      urgent := (at8 b 3).testBit 1
      ref := if (at8 b 3).testBit 2 then some (keyAt b 4) else none
      text := (b.drop (noteLenAt b + 1)).map clampChar }
  | .receipt => .receipt (atId b 0) (at8 b 2) ((ReceiptKind.ofCode (at8 b 3)).getD .stored)
  | .alarm => .alarm (at8 b 0) (at8 b 1) ((at8 b 2).testBit 0) ((at8 b 2).testBit 1) (pointAt b 3)
  | .alarmEnd => .alarmEnd (at8 b 0) (pointAt b 1)
  | .tally => .tally {
      dest := atId b 0
      shiftEnd := (at8 b 2).testBit 0
      trips := at16 b 3
      fare := at32 b 5
      extras := at32 b 9
      hired := at32 b 13
      dist := at32 b 17
      lastTrip := at16 b 21 }

/-- The frame of header and body bytes when every test of R8 passes, with the values of R9; none when it is malformed. -/
def readFrame (content : List Byte) : Option Frame := do
  let k ← Kind.ofCode (at8 content 0)
  let b := content.drop 8
  let origin := atId content 2
  let sender := atId content 4
  if layoutLength k b == some b.length && variableLengthOk k b && originOk k origin && isStation sender
      && bodyFieldsOk k b then
    some {
      fleet := at8 content 1
      origin := origin
      hops := at8 content 2 / 64
      relayed := (at8 content 2).testBit 5
      sender := sender
      seq := at8 content 6
      body := readBody k b }
  else none

/-- The job key of a NOTE for its receiver: a base id outside 1..31 makes it absent (R9). -/
def NoteBody.jobKey (n : NoteBody) : Option JobKey := n.ref.filter fun k => isBase k.base

end Sys2Proof.Machine
end

