-- ==== Sys2Proof/Machine/Records.lean ====
section
/-! DEFINITION. The records behind own frames: looking them up, the body each frame is built from, and what its owner does with a pending mark (R19, R20, R79, R140, R149, R157). -/

namespace Sys2Proof.Machine

/-! ## Board entries -/

/-- The seven live states (R72). -/
def OfferState.live : OfferState → Bool
  | .opened | .claimPending | .claimed | .ranked | .taking | .taken | .watch => true
  | _ => false

/-- The entry holds the job: TAKING or TAKEN (R72). -/
def OfferState.holdsJob : OfferState → Bool
  | .taking | .taken => true
  | _ => false

/-- The board entry with a key, and its slot (R74). -/
def State.entry (s : State) (k : JobKey) : Option (Nat × BoardEntry) := slotFind (fun e => e.key == k) s.ofb.slots 0

/-- Write a board slot. -/
def State.putEntry (s : State) (slot : Nat) (e : BoardEntry) : State :=
  s.setOfb { s.ofb with slots := slotPut s.ofb.slots slot e }

/-- Free a board slot: the entry is forgotten (R73). -/
def State.freeEntry (s : State) (slot : Nat) : State := s.setOfb { s.ofb with slots := slotFree s.ofb.slots slot }

/-- Change the entry with a key, when there is one. -/
def State.modEntry (s : State) (k : JobKey) (f : BoardEntry → BoardEntry) : State :=
  match s.entry k with
  | some (slot, e) => s.putEntry slot (f e)
  | none => s

/-- The entry becomes terminal: state and terminal time (R73). -/
def BoardEntry.finish (e : BoardEntry) (st : OfferState) (now : Nat) : BoardEntry :=
  { e with state := st, termTime := some now }

/-- The DROP reason byte of an entry that gives its job up (R84, R100, R104). -/
def BoardEntry.dropReason (e : BoardEntry) : Nat :=
  match e.reason with
  | some .noShow => 0
  | some .declined => 1
  | some .emergency => 3
  | _ => 2

/-- The entry of the job in hand: TAKING or TAKEN, with its slot (R72). -/
def State.jobEntry (s : State) : Option (Nat × BoardEntry) := slotFind (fun e => e.state.holdsJob) s.ofb.slots 0

/-! ## Inbox and outbox records -/

/-- The inbox record with a key, and its slot (R146). -/
def State.inNote (s : State) (origin id : Nat) : Option (Nat × InNote) :=
  slotFind (fun r => r.origin == origin && r.id == id) s.nts.inbox 0

/-- Write an inbox slot. -/
def State.putIn (s : State) (slot : Nat) (r : InNote) : State := s.setNts { s.nts with inbox := slotPut s.nts.inbox slot r }

/-- Change the inbox record with a key, when there is one. -/
def State.modIn (s : State) (origin id : Nat) (f : InNote → InNote) : State :=
  match s.inNote origin id with
  | some (slot, r) => s.putIn slot (f r)
  | none => s

/-- Write an outbox slot. -/
def State.putOut (s : State) (slot : Nat) (r : OutNote) : State :=
  s.setNts { s.nts with outbox := slotPut s.nts.outbox slot r }

/-- Change the outbox record of a slot, when there is one. -/
def State.modOut (s : State) (slot : Nat) (f : OutNote → OutNote) : State :=
  match slotGet s.nts.outbox slot with
  | some r => s.putOut slot (f r)
  | none => s

/-- The three live states (R155). -/
def OutState.live : OutState → Bool
  | .pending | .queued | .await => true
  | _ => false

/-! ## Bodies of own frames -/

/-- The own position as frames carry it: 0 and 0 when none is held (R68, R168). -/
def State.framePos (s : State) : Point := s.ppu.position.getD ⟨0, 0⟩

/-- BEACON body (R68). -/
def State.beaconBody (s : State) : Body := .beacon s.framePos s.ppu.fix s.ppu.avail s.ppu.zone (some s.ownClass)

/-- CLAIM body (R90). -/
def State.claimBody (s : State) (e : BoardEntry) : Body := .claim e.key (e.score.getD 0) (some s.ownClass)

/-- TAKE body: a repeat is offered from TAKEN, the first TAKE from TAKING (R97, R100). -/
def BoardEntry.takeBody (e : BoardEntry) : Body := .take e.key (e.score.getD 0) (e.rank.getD 0) (e.state == .taken)

/-- NOTE body of an outbox record (R156). -/
def OutNote.body (r : OutNote) : Body :=
  .note { dest := r.dest, id := r.id, wanted := r.wanted, urgent := r.urgent, ref := r.key, text := r.text }

/-- TALLY body from the shift totals of the moment (R139). -/
def State.tallyBody (s : State) : TallyBody where
  dest := s.homeBase
  shiftEnd := !s.ret.shiftOpen
  trips := s.ret.shift.trips
  fare := s.ret.shift.fare
  extras := s.ret.shift.extras
  hired := s.ret.shift.hiredDist
  dist := s.ret.shift.totalDist
  lastTrip := s.ret.tripCounter

/-- ALARM body from the state of the moment (R168). -/
def State.alarmBody (s : State) : Body :=
  .alarm s.ret.serial s.emu.repeats s.ppu.fix (s.ret.alarm == .covert) s.framePos

/-- ALARM-END body from the state of the moment (R172). -/
def State.alarmEndBody (s : State) : Body := .alarmEnd s.ret.serial s.framePos

/-- The body of an own frame as its owner builds it now; none when the owner's record is gone. -/
def State.ownBody (s : State) : OwnRef → Option Body
  | .beacon => some s.beaconBody
  | .claim k => (s.entry k).map fun p => s.claimBody p.2
  | .take k => (s.entry k).map fun p => p.2.takeBody
  | .drop k => (s.entry k).map fun p => .drop k p.2.dropReason
  | .note slot => (slotGet s.nts.outbox slot).map (·.body)
  | .receipt kind dest id => some (.receipt dest id kind)
  | .tally => s.ttl.tally.map fun t => .tally t.body
  | .alarm => some s.alarmBody
  | .alarmEnd => some s.alarmEndBody

/-! ## What the owner keeps of a frame -/

/-- Set the place, sequence and mark of the tally in hand (R140). -/
def State.tallyPlace (s : State) (place : TallyPlace) (seq : Option Nat) : State :=
  s.setTtl { s.ttl with tally := s.ttl.tally.map fun t => { t with place := place, seq := seq } }

/-- Clear or set a receipt mark of an inbox record. -/
def InNote.setMark (r : InNote) (kind : ReceiptKind) (m : Option Mark) : InNote :=
  match kind with
  | .stored => { r with storedMark := m }
  | .read => { r with readMark := m }
  | .refusedFull => r

/-- The owner's record after the CAU has accepted its frame with a sequence: the mark is cleared (R20, R79, R140, R149, R157). -/
def State.ownerAccepted (s : State) (r : OwnRef) (seq : Nat) : State :=
  match r with
  | .claim k => s.modEntry k fun e => { e with claimMark := none }
  | .take k => s.modEntry k fun e => { e with takeMark := none }
  | .drop k => s.modEntry k fun e => { e with dropMark := none }
  | .note slot => s.modOut slot fun n => if n.state.live then { n with state := .queued, mark := none } else n
  | .receipt .refusedFull dest id =>
    s.setNts { s.nts with refusals := s.nts.refusals.filter fun p => !(p.dest == dest && p.id == id) }
  | .receipt kind dest id => s.modIn dest id (·.setMark kind none)
  | .tally => s.tallyPlace .offered (some seq)
  | .beacon => s
  | .alarm => s
  | .alarmEnd => s

/-- A REFUSED-FULL receipt came back "not sent": the refusal list takes it, has it already, or is full and it is lost (R149). -/
def State.keepRefusal (s : State) (dest id : Nat) (m : Mark) : State :=
  if s.nts.refusals.any fun p => p.dest == dest && p.id == id then s
  else if s.nts.refusals.length < 4 then s.setNts { s.nts with refusals := s.nts.refusals ++ [⟨dest, id, m⟩] }
  else s.setNts { s.nts with refusalsLost := inc16 s.nts.refusalsLost }

/-- The owner's record after "not sent" with a mark: a mark is kept where it may stand (R19, R79, R140, R149, R157). The model's
choice: a STORED or READ receipt finds its inbox record by the origin and the note id, so that its mark stands on a record
stored anew after the first was displaced, and nowhere when there is none (assumption 15). -/
def State.ownerNotSent (s : State) (r : OwnRef) (m : Mark) : State :=
  match r with
  | .claim k => s.modEntry k fun e => if e.state == .claimPending then { e with claimMark := some m } else e
  | .take k => s.modEntry k fun e => if e.state.holdsJob then { e with takeMark := some m } else e
  | .drop k => s.modEntry k fun e => { e with dropMark := some m }
  | .note slot => s.modOut slot fun n => if n.state.live then { n with state := .pending, mark := some m } else n
  | .receipt .refusedFull dest id => s.keepRefusal dest id m
  | .receipt kind dest id => s.modIn dest id (·.setMark kind (some m))
  | .tally => s.tallyPlace (.pending m.time) m.seq
  | .beacon => s
  | .alarm => s
  | .alarmEnd => s

/-- The mark that stands for an own frame, when one does; a claim mark stands in CLAIM-PENDING only, a take mark in TAKING and TAKEN only (R79). -/
def State.ownMark (s : State) : OwnRef → Option Mark
  | .claim k => (s.entry k).bind fun p => if p.2.state == .claimPending then p.2.claimMark else none
  | .take k => (s.entry k).bind fun p => if p.2.state.holdsJob then p.2.takeMark else none
  | .drop k => (s.entry k).bind fun p => p.2.dropMark
  | .note slot => (slotGet s.nts.outbox slot).bind fun n => if n.state == .pending then n.mark else none
  | .receipt .stored dest id => (s.inNote dest id).bind fun p => p.2.storedMark
  | .receipt .read dest id => (s.inNote dest id).bind fun p => p.2.readMark
  | .receipt .refusedFull dest id =>
    (s.nts.refusals.find? fun p => p.dest == dest && p.id == id).map (·.mark)
  | .tally => s.ttl.tally.bind fun t =>
    match t.place with
    | .pending m => some ⟨m, t.seq⟩
    | .offered => none
  | .beacon => none
  | .alarm => none
  | .alarmEnd => none

/-- The own frames whose marks may stand: those of the board, the note store and the tally (R20). -/
def State.markable (s : State) : List OwnRef :=
  (slotEntries s.ofb.slots).flatMap (fun e => [.claim e.key, .take e.key, .drop e.key])
    ++ (slotEntries s.nts.inbox).flatMap (fun r => [.receipt .stored r.origin r.id, .receipt .read r.origin r.id])
    ++ s.nts.refusals.map (fun p => .receipt .refusedFull p.dest p.id)
    ++ (slotList s.nts.outbox 0).map (fun p => .note p.1)
    ++ [.tally]

/-- The marks that stand at a "space" notice, each with its mark time. -/
def State.standingMarks (s : State) : List (Nat × OwnRef) :=
  s.markable.filterMap fun r => (s.ownMark r).map fun m => (m.time, r)

end Sys2Proof.Machine
end

