-- ==== Sys2Proof/Machine/Cau.lean ====
section
/-! DEFINITION. Channel access (chapter 2): classes, the transmit queue, displacement, "space", removal, the access unit and keying. -/

namespace Sys2Proof.Machine

/-! ## Classes and groups -/

/-- Class of an own frame (R13). -/
def OwnRef.cls : OwnRef → Nat
  | .alarm | .alarmEnd => 0
  | .claim _ | .take _ => 1
  | .note _ | .receipt .. | .drop _ | .tally => 3
  | .beacon => 4

/-- Class of a relayed frame (R13). -/
def Kind.relayCls : Kind → Nat
  | .alarm | .alarmEnd => 0
  | _ => 2

/-- The groups that are merged and deferred (R16, R17). -/
inductive Group where
  | class0 | tally | beacon
  deriving DecidableEq, Repr

/-- The group of an own frame, when it has one. -/
def OwnRef.group : OwnRef → Option Group
  | .alarm | .alarmEnd => some .class0
  | .tally => some .tally
  | .beacon => some .beacon
  | _ => none

/-- The entry is an own frame of this group. -/
def Owner.inGroup (o : Owner) (g : Group) : Bool :=
  match o with
  | .own r => r.group == some g
  | .relay => false

/-! ## Order of the queue -/

/-- Entries counted against the eight: the unsent ones and the one on air (R12). -/
def Cau.count (c : Cau) : Nat := c.queue.length + c.onAir.isSome.toNat

/-- The queue holds at most eight entries (R12). -/
abbrev queueMax : Nat := 8

/-- The better of two unsent entries: lower class, then earlier enqueue time, then earlier acceptance (R14; assumption 4). -/
def QEntry.before (a b : QEntry) : Bool := a.cls < b.cls || (a.cls == b.cls && a.enq ≤ b.enq)

/-- The head of the queue (R14). -/
def headOf : List QEntry → Option QEntry
  | [] => none
  | e :: l =>
    match headOf l with
    | none => some e
    | some h => if e.before h then some e else some h

/-- The entry to displace among these: greatest class, then latest enqueue time, then latest acceptance (R18; assumption 4). -/
def lastOf : List QEntry → Option QEntry
  | [] => none
  | e :: l =>
    match lastOf l with
    | none => some e
    | some h => if h.before e && !(e.before h) then some e else some h

/-- The entry a frame displaces from a full queue; none when it is refused (R18). -/
def victim (cls : Nat) (own : Bool) (queue : List QEntry) : Option QEntry :=
  match lastOf (queue.filter fun e => cls < e.cls) with
  | some e => some e
  | none => if cls == 0 && own then lastOf (queue.filter fun e => e.cls == 0 && e.owner == .relay) else none

/-! ## Notices about a relayed frame (R45) -/

/-- A cache entry lives 60 s (R41). -/
def cacheLife : Nat := 60000 * ms

/-- The relay mark of a cache entry ends; the entry leaves when its 60 s have passed (R41, R45). -/
def State.endMark (s : State) (k : FrameKey) : State :=
  s.setRru { s.rru with
    cache := (s.rru.cache.map fun c => if c.key == k then { c with mark := .none } else c).filter fun c =>
      !(c.key == k && c.firstHeard + cacheLife ≤ s.now) }

/-- "not sent" for a relayed frame (R45). -/
def State.relayNotSent (s : State) (k : FrameKey) : State :=
  (s.setStats { s.rru.stats with relaysDropped := inc16 s.rru.stats.relaysDropped }).endMark k

/-- "sent" for a relayed frame (R45). -/
def State.relaySent (s : State) (k : FrameKey) : State :=
  (s.setStats { s.rru.stats with relaysSent := inc16 s.rru.stats.relaysSent }).endMark k

/-! ## Taking a frame into the queue (R15 to R19) -/

/-- Replace the unsent entries. -/
def State.setQueue (s : State) (q : List QEntry) : State := s.setCau { s.cau with queue := q }

/-- One own frame refused or displaced is counted (R19). -/
def State.countRefused (s : State) : State :=
  s.setStats { s.rru.stats with ownRefused := inc16 s.rru.stats.ownRefused }

/-- A displaced entry leaves the queue and its owner is told "not sent" (R19). -/
def State.displace (s : State) (e : QEntry) : State :=
  let s := s.setQueue (s.cau.queue.erase e)
  match e.owner with
  | .relay => s.relayNotSent e.frame.key
  | .own r => s.countRefused.ownerNotSent r ⟨e.mark.getD s.now, some e.frame.seq⟩

/-- An own frame is accepted as a new entry; offered for the first time it takes the next sequence (R4, R15). -/
def State.acceptOwn (s : State) (o : Offered) : State :=
  let seq := o.seq.getD s.ret.seq
  let s := if o.seq.isSome then s else s.setRet { s.ret with seq := next8 s.ret.seq }
  let e : QEntry := {
    frame := s.ownFrame o.body seq
    cls := o.ref.cls
    enq := s.now
    owner := .own o.ref
    endOfCopy := none
    mark := o.mark }
  (s.setQueue (s.cau.queue ++ [e])).ownerAccepted o.ref seq

/-- An own frame is refused (R19). -/
def State.refuseOwn (s : State) (o : Offered) : State :=
  s.countRefused.ownerNotSent o.ref ⟨o.mark.getD s.now, o.seq⟩

/-- The unsent own entry of a group takes new content and keeps its place, enqueue time and sequence (R16). The model's choice:
an entry that had been offered again also keeps its mark time, which a later displacement returns (R19, R140;
assumption 23). -/
def State.mergeOwn (s : State) (o : Offered) (e : QEntry) : State :=
  let e' : QEntry := { e with frame := s.ownFrame o.body e.frame.seq, owner := .own o.ref }
  (s.setQueue (s.cau.queue.map fun x => if x = e then e' else x)).ownerAccepted o.ref e.frame.seq

/-- The deferred frame of a group (R17). -/
def Cau.deferred (c : Cau) : Group → Option Offered
  | .class0 => c.deferred0
  | .tally => c.deferredTally
  | .beacon => c.deferredBeacon

/-- Set the deferred frame of a group (R17). -/
def Cau.setDeferred (c : Cau) (g : Group) (o : Option Offered) : Cau :=
  match g with
  | .class0 => { c with deferred0 := o }
  | .tally => { c with deferredTally := o }
  | .beacon => { c with deferredBeacon := o }

/-- An own frame is held apart behind one of its group on air; it has no sequence (R17). A tally in hand stays OFFERED (R139). -/
def State.deferOwn (s : State) (o : Offered) (g : Group) : State :=
  let s := s.setCau (s.cau.setDeferred g (some { o with seq := none }))
  if g == .tally then s.tallyPlace .offered none else s

/-- The place an own frame finds in the queue itself: free, by displacement, or none (R15, R18). -/
def State.placeOwn (s : State) (o : Offered) : State :=
  if s.cau.count < queueMax then s.acceptOwn o
  else
    match victim o.ref.cls true s.cau.queue with
    | some e => (s.displace e).acceptOwn o
    | none => s.refuseOwn o

/-- An owner offers a frame: merged, deferred, accepted, displacing another, or refused; before GO it is not taken and nothing is counted (R15 to R19). -/
def State.offerOwnQ (s : State) (o : Offered) : State :=
  if !s.inRun then s
  else
    match o.ref.group with
    | none => s.placeOwn o
    | some g =>
      match s.cau.queue.find? (·.owner.inGroup g) with
      | some e => s.mergeOwn o e
      | none =>
        match s.cau.onAir with
        | some a => if a.entry.owner.inGroup g then s.deferOwn o g else s.placeOwn o
        | none => s.placeOwn o

/-- An own frame offered for the first time, built by its owner from the state of this moment. -/
def State.offerRefQ (s : State) (r : OwnRef) : State :=
  match s.ownBody r with
  | some b => s.offerOwnQ ⟨r, b, none, none⟩
  | none => s

/-- A frame offered again with its mark time and the sequence it was given (R20). -/
def State.reofferQ (s : State) (r : OwnRef) : State :=
  match s.ownBody r, s.ownMark r with
  | some b, some m => s.offerOwnQ ⟨r, b, m.seq, some m.time⟩
  | _, _ => s

/-! ## "space" (R20) -/

/-- The standing marks are offered again in order of mark time, equal ones in either order; `after` follows each. -/
def reofferAll (after : State → State) : Nat → List (Nat × OwnRef) → State → State
  | 0, _, s => s
  | n + 1, l, s =>
    match s.pickLeast (·.1) l with
    | none => s
    | some p => reofferAll after n (l.erase p) (after (s.nextDraw.reofferQ p.2))

/-- The "space" notice, when fewer than eight entries stand (R20). -/
def State.spaceThen (after : State → State) (s : State) : State :=
  if s.cau.count < queueMax then reofferAll after s.standingMarks.length s.standingMarks s else s

/-! ## Sensing the channel (R22, R23) -/

/-- Time since the idle reference; zero while CD is active or the reference is unset (R22). -/
def State.idleTime (s : State) : Nat :=
  if s.pins.cd then 0
  else
    match s.cau.idleRef with
    | some t => s.now - t
    | none => 0

/-- Guard time of a head: 20 ms for class 0, 60 ms otherwise (R23). -/
def guardTime (cls : Nat) : Nat := if cls == 0 then 20 * ms else 60 * ms

/-- The head may be keyed now: its guard time is met, or it is class 0 in blocked operation (R23, R29). -/
def State.mayKey (s : State) (e : QEntry) : Bool :=
  (!s.pins.cd && guardTime e.cls ≤ s.idleTime) || (s.cau.blocked && e.cls == 0)

/-! ## Backoff and keying (R24 to R26, R29) -/

/-- The unit draws a slot count against this head and waits that many slots of 30 ms (R24). -/
def State.drawBackoff (s : State) (head : QEntry) : State :=
  let slots := s.randomIn 1 (if head.cls == 0 then 2 else s.cau.w)
  s.nextDraw.setCau { s.cau with au := .waiting (s.now + slots * (30 * ms)) }

/-- A failed wait doubles W, up to 64 (R24). -/
def doubleW (w : Nat) : Nat := min 64 (2 * w)

/-- The remaining window of a relayed OFFER in whole units of 100 ms, rounded down (R26, R46). -/
def remainingUnits (window elapsed : Nat) : Nat := (window * (100 * ms) - elapsed) / (100 * ms)

/-- The entry with the parts fixed at keying: a relayed OFFER gets its remaining window, and is not keyed below 20 units (R25, R26). -/
def QEntry.keyed (e : QEntry) (now : Nat) : Option QEntry :=
  match e.owner, e.endOfCopy, e.frame.body with
  | .relay, some t, .offer o =>
    let u := remainingUnits o.window (now - t)
    if 20 ≤ u then some { e with frame := { e.frame with body := .offer { o with window := u } } } else none
  | _, _, _ => some e

/-- A frame being taken is abandoned and counted as truncated (R32). -/
def State.truncate (s : State) : State :=
  if s.rru.rx == .taking then
    s.setRru { s.rru with rx := .idle, stats := { s.rru.stats with truncated := inc16 s.rru.stats.truncated } }
  else s

/-- KEY is asserted: the entry goes on air for its airtime, a frame being taken is truncated, and reception is off (R2, R25, R32). -/
def State.startTx (s : State) (unsent keyed : QEntry) : State :=
  let s := s.truncate
  let s := s.setRru { s.rru with rx := .idle }
  s.setCau { s.cau with
    queue := s.cau.queue.erase unsent
    onAir := some ⟨keyed, s.now, s.now + keyed.frame.airtime⟩
    au := .rest }

/-- The access unit decides on the head: it is keyed, or a backoff is drawn, with W doubled first when a wait has
failed. An OFFER dropped at keying frees its place, "space" is told, and the unit decides again with W unchanged (R23, R24, R26). -/
def decideHead : Nat → Bool → State → State
  | 0, _, s => s
  | n + 1, failed, s =>
    match headOf s.cau.queue with
    | none => s.setCau { s.cau with au := .rest }
    | some e =>
      if s.mayKey e then
        match e.keyed s.now with
        | some e' => s.startTx e e'
        | none =>
          decideHead n false (((s.setQueue (s.cau.queue.erase e)).relayNotSent e.frame.key).spaceThen id)
      else
        (if failed then s.setCau { s.cau with w := doubleW s.cau.w } else s).drawBackoff e

/-- The access unit decides now; each OFFER dropped at keying was an entry of the queue. -/
def State.decide (s : State) (failed : Bool) : State := decideHead (s.cau.queue.length + 1) failed s

/-- What a change of the queue or of the blocked condition brings the access unit to: at rest it decides on a head at
once (R23); waiting in blocked operation it keys a class-0 head (R29); keying, it waits for the end of the airtime. -/
def State.kick (s : State) : State :=
  if s.cau.onAir.isSome then s
  else
    match s.cau.au, headOf s.cau.queue with
    | _, none => s
    | .rest, some _ => s.decide false
    | .waiting _, some e => if s.cau.blocked && e.cls == 0 then s.decide false else s

/-! ## What the blocks call -/

/-- An owner offers a frame for the first time (R15 to R19, R23). -/
def State.offer (s : State) (r : OwnRef) : State := (s.offerRefQ r).kick

/-- The "space" notice outside the end of a transmission: a re-offer may give the access unit a head (R20, R23). -/
def State.space (s : State) : State := s.spaceThen State.kick

/-- The CAU holds an unsent entry of the owner's record. -/
def Cau.holds (c : Cau) (r : OwnRef) : Bool := c.queue.any fun e => e.owner == .own r

/-- The entry of the owner's record is on air. -/
def Cau.airs (c : Cau) (r : OwnRef) : Bool := (c.onAir.map fun a => a.entry.owner == .own r).getD false

/-- The CAU holds a deferred frame of the owner's record. -/
def Cau.defers (c : Cau) (r : OwnRef) : Bool :=
  [c.deferred0, c.deferredTally, c.deferredBeacon].any fun d => (d.map fun o => o.ref == r).getD false

/-- Discard a deferred frame of this record. -/
def undefer (r : OwnRef) (d : Option Offered) : Option Offered := d.filter fun o => !(o.ref == r)

/-- An owner removes its frame: unsent it leaves, deferred it is discarded, on air it goes on; "space" follows when
fewer than eight entries stand. A removal that finds no frame has no effect (R21). -/
def State.removeOwn (s : State) (r : OwnRef) : State :=
  if s.cau.holds r || s.cau.defers r then
    (s.setCau { s.cau with
      queue := s.cau.queue.filter fun e => !(e.owner == .own r)
      deferred0 := undefer r s.cau.deferred0
      deferredTally := undefer r s.cau.deferredTally
      deferredBeacon := undefer r s.cau.deferredBeacon }).space
  else s

/-- The RRU removes its relayed frame from the queue (R21, R40). -/
def State.removeRelay (s : State) (k : FrameKey) : State :=
  if s.cau.queue.any fun e => e.owner == .relay && e.frame.key == k then
    (s.setQueue (s.cau.queue.filter fun e => !(e.owner == .relay && e.frame.key == k))).space
  else s

/-- The RRU's relayed copy enters the queue, and the cache entry's mark becomes QUEUED (R44). -/
def State.acceptRelay (s : State) (f : Frame) (endOfCopy : Nat) : State :=
  let e : QEntry := {
    frame := f
    cls := f.body.kind.relayCls
    enq := s.now
    owner := .relay
    endOfCopy := if f.body.kind == .offer then some endOfCopy else none
    mark := none }
  let s := s.setQueue (s.cau.queue ++ [e])
  s.setRru { s.rru with cache := s.rru.cache.map fun c => if c.key == f.key then { c with mark := .queued } else c }

/-- The RRU offers a relayed copy to the queue (R15, R18, R44). -/
def State.offerRelay (s : State) (f : Frame) (endOfCopy : Nat) : State :=
  if s.cau.count < queueMax then (s.acceptRelay f endOfCopy).kick
  else
    match victim f.body.kind.relayCls false s.cau.queue with
    | some e => ((s.displace e).acceptRelay f endOfCopy).kick
    | none => s.relayNotSent f.key

end Sys2Proof.Machine
end

