-- ==== Sys2Proof/Machine/Avail.lean ====
section
/-! DEFINITION. Availability: how it is derived (R109), what a change of it does (R110, R78, R67, R111), the idle timer (R88), and the fare engine's notices from the board (R126). -/

namespace Sys2Proof.Machine

/-! ## The board on a change of availability (R78) -/

/-- The WATCH reason an availability other than FREE gives (R76, test 2). -/
def watchReason (a : Avail) (stale : Bool) : Reason :=
  match a with
  | .alarm => .alarm
  | .noFix => if stale then .noFix else .busy
  | _ => .busy

/-- An OPEN or CLAIM-PENDING entry goes to WATCH; its claim pending mark is cleared (R78). Other entries are left as they are.
DEDUCED: the own score written at admission stays (R87); R70's "absent for an entry that enters WATCH" is read as the words for
admission alone. It is the model's choice (assumption 33). -/
def BoardEntry.toWatch (e : BoardEntry) (r : Reason) : BoardEntry :=
  match e.state with
  | .opened => { e with state := .watch, reason := some r, claimMark := none }
  | .claimPending => { e with state := .watch, reason := some r, claimMark := none }
  | _ => e

/-- Change every entry of the board. -/
def State.mapBoard (s : State) (f : BoardEntry → BoardEntry) : State :=
  s.setOfb { s.ofb with slots := s.ofb.slots.map (·.map f) }

/-- The keys of the entries in CLAIM-PENDING. -/
def State.pendingClaims (s : State) : List JobKey :=
  ((slotEntries s.ofb.slots).filter fun e => e.state == .claimPending).map (·.key)

/-- Remove the CLAIMs of these entries from the queue (R21). -/
def State.removeClaims (s : State) (ks : List JobKey) : State := ks.foldl (fun s k => s.removeOwn (.claim k)) s

/-- Every OPEN and CLAIM-PENDING entry goes to WATCH with this reason, and their CLAIMs leave the queue (R78; assumption 14). -/
def State.convertBoard (s : State) (r : Reason) : State :=
  (s.mapBoard (·.toWatch r)).removeClaims s.pendingClaims

/-- The fare engine notifies the board of an availability; entries are converted when it stops being FREE (R78). -/
def State.boardAvail (s : State) (a : Avail) : State :=
  let was := s.ofb.avail
  let s := s.setOfb { s.ofb with avail := some a }
  if was == some .free && a != .free then s.convertBoard (watchReason a s.ppu.stale) else s

/-! ## The PPU on a change of availability (R67) -/

/-- The fare engine notifies the PPU: in RUN the change timer starts when it is not running (R67). -/
def State.ppuAvail (s : State) (a : Avail) : State :=
  s.setPpu { s.ppu with
    avail := some a
    changeAt := if s.inRun && s.ppu.changeAt.isNone then some (s.now + 2000 * ms) else s.ppu.changeAt }

/-! ## Availability (R109, R110) -/

/-- Availability from its five inputs: the first line of R109 that holds. -/
def availability (alarm : AlarmState) (fare : FareState) (stale shiftOpen : Bool) (driver : DriverStatus) : Avail :=
  if alarm != .quiet then .alarm
  else
    match fare with
    | .onCall => .onCall
    | .hired => .hired
    | .held => .hired
    | .total => .total
    | .vacant =>
      if stale || !shiftOpen then .noFix
      else
        match driver with
        | .onBreak => .onBreak
        | .off => .off
        | .available => .free

/-- The availability the inputs of this moment give. -/
def State.availNow (s : State) : Avail :=
  availability s.ret.alarm s.ret.fare s.ppu.stale s.ret.shiftOpen s.fre.driver

/-- The fare engine recomputes availability; on a change it stores it and notifies the board and the PPU. SIGN follows it (R110, R111). -/
def State.recompute (s : State) : State :=
  let a := s.availNow
  if s.fre.avail == some a then s
  else ((s.setFre { s.fre with avail := some a }).boardAvail a).ppuAvail a

/-! ## Idle timer and fare state (R88, R107) -/

/-- The idle timer runs while the fare state is VACANT and the driver AVAILABLE, and counts from the instant both became true (R88). -/
def State.idleUpdate (s : State) : State :=
  if s.ret.fare == .vacant && s.fre.driver == .available then
    if s.fre.idleSince.isNone then s.setFre { s.fre with idleSince := some s.now } else s
  else s.setFre { s.fre with idleSince := none }

/-- Idle seconds, 0..65535 (R88). -/
def State.idleSeconds (s : State) : Nat :=
  match s.fre.idleSince with
  | some t => min cap16 ((s.now - t) / (1000 * ms))
  | none => 0

/-- Change the fare state; the idle timer and the availability follow (R88, R107). -/
def State.setFare (s : State) (f : FareState) : State := ((s.setRet { s.ret with fare := f }).idleUpdate).recompute

/-- Board notice TAKING (R126). -/
def State.fareTaking (s : State) : State := if s.ret.fare == .vacant then s.setFare .onCall else s

/-- Board notice YIELDED, WITHDRAWN or DROPPED (R126). -/
def State.fareReleased (s : State) : State := if s.ret.fare == .onCall then s.setFare .vacant else s

/-- The trip in progress, changed, with the check word rewritten (R116). -/
def State.setTrip (s : State) (t : Trip) : State := s.setRet { s.ret with trip := some t }

/-- Set LATE-CANCEL on the newest logged trip that carries the key (R132). -/
def markLate (k : JobKey) : List TripRecord → List TripRecord
  | [] => []
  | r :: l => if r.jobKey == some k then { r with flags := { r.flags with lateCancel := true } } :: l else r :: markLate k l

/-- Late-cancel notice at the trip log: the newest record with the key is marked and the check word rewritten; without one
the notice has no effect, not even on the check word (R132). -/
def State.lateLog (s : State) (k : JobKey) : State :=
  if s.ret.tripLog.any fun r => r.jobKey == some k then s.setRet { s.ret with tripLog := markLate k s.ret.tripLog } else s

/-- Late-cancel notice with a key: the trip in progress, or else the trip log (R126, R132). -/
def State.lateCancel (s : State) (k : JobKey) : State :=
  match s.ret.trip with
  | some t =>
    if t.jobKey == some k then s.setTrip { t with flags := { t.flags with lateCancel := true } } else s.lateLog k
  | none => s.lateLog k

end Sys2Proof.Machine
end

