-- ==== Sys2Proof/Machine/Totals.lean ====
section
/-! DEFINITION. Totals, trip log and TALLY (chapter 8). -/

namespace Sys2Proof.Machine

/-- Metres counted into the total distance go to the lifetime total and, in an OPEN shift, to the shift total (R134). -/
def State.metres (s : State) (n : Nat) : State :=
  s.setRet { s.ret with
    life := { s.ret.life with totalDist := satAdd cap32 s.ret.life.totalDist n }
    shift := if s.ret.shiftOpen then { s.ret.shift with totalDist := satAdd cap32 s.ret.shift.totalDist n } else s.ret.shift }

/-! ## The TALLY (R139, R140) -/

/-- The tally in hand is offered to the queue as an own TALLY. -/
def State.offerTally (s : State) (b : TallyBody) (seq : Option Nat) : State :=
  (s.setTtl { s.ttl with tally := some ⟨b, seq, .offered⟩ }).offer .tally

/-- The TTL builds a TALLY and acts by the place of the tally in hand (R139). -/
def State.buildTally (s : State) : State :=
  let b := s.tallyBody
  match s.ttl.tally with
  | none => s.offerTally b none
  | some t =>
    match t.place with
    | .offered => s.offerTally b t.seq
    | .pending m => s.setTtl { s.ttl with tally := some ⟨b, t.seq, .pending m⟩ }

/-- A TALLY is built when a home base is configured (R136, R138). -/
def State.tallyIfHome (s : State) : State := if isBase s.homeBase then s.buildTally else s

/-- "sent" for a TALLY: the tally in hand is gone, unless a later build waits deferred behind it (R140). -/
def State.tallySent (s : State) : State :=
  if s.cau.deferredTally.isSome then s else s.setTtl { s.ttl with tally := none }

/-- A shift-end TALLY is in hand (R137, R140). -/
def State.shiftEndTally (s : State) : Bool := (s.ttl.tally.map (·.body.shiftEnd)).getD false

/-! ## Settlement (R130 to R136) -/

/-- The number after the last trip number: 65535 is followed by 1 (R130). -/
def nextTrip (n : Nat) : Nat := if n < cap16 then n + 1 else 1

/-- Shift totals with a settled trip added (R133). -/
def ShiftTotals.addTrip (t : ShiftTotals) (r : TripRecord) : ShiftTotals where
  trips := satAdd cap32 t.trips 1
  fare := satAdd cap32 t.fare r.total
  extras := satAdd cap32 t.extras r.extras
  surcharges := satAdd cap32 t.surcharges r.surcharges
  cash := if r.payment == 0 then satAdd cap32 t.cash r.total else t.cash
  card := if r.payment == 1 then satAdd cap32 t.card r.total else t.card
  account := if r.payment == 2 then satAdd cap32 t.account r.total else t.account
  hiredDist := satAdd cap32 t.hiredDist r.dist
  totalDist := t.totalDist
  hiredS := satAdd cap32 t.hiredS r.hiredS

/-- Lifetime totals with a settled trip added (R133). -/
def LifeTotals.addTrip (t : LifeTotals) (r : TripRecord) : LifeTotals where
  trips := satAdd cap32 t.trips 1
  fare := satAdd cap32 t.fare r.total
  hiredDist := satAdd cap32 t.hiredDist r.dist
  totalDist := t.totalDist

/-- The trip log with a newest record; the oldest of sixteen is overwritten (R131). -/
def logTrip (r : TripRecord) (l : List TripRecord) : List TripRecord := (r :: l).take 16

/-- Steps 1 to 4 of R136: the record, whose number is the counter's next, is logged and added to the totals. -/
def State.bookTrip (s : State) (r : TripRecord) : State :=
  s.setRet { s.ret with
    tripCounter := r.number
    tripLog := logTrip r s.ret.tripLog
    shift := s.ret.shift.addTrip r
    life := s.ret.life.addTrip r }

end Sys2Proof.Machine
end

