-- ==== Sys2Proof/Machine/Fare.lean ====
section
/-! DEFINITION. The fare engine: tariffs, distance, the second tick, the total, and the notices of the emergency unit and the PPU (chapter 7). -/

namespace Sys2Proof.Machine

/-! ## Figures (R112 to R114) -/

/-- Pulses per increment of a tariff under a pulse constant (R112). -/
def pulsesPerIncrement (incDist k : Nat) : Nat := (incDist * k + 500) / 1000

/-- The largest Dp a defined tariff may have (R112). -/
abbrev dpMax : Nat := 65535

/-- Surcharge amount of an index 1..3 (R112). -/
def State.surchargeAmount (s : State) (index : Nat) : Nat := s.ret.surcharges.getD (index - 1) 0

/-- The tariff in slot n, 1..8 (R112). -/
def State.tariffSlot (s : State) (n : Nat) : Option Tariff := slotGet s.ret.tariffs (n - 1)

/-! ## Fare and total (R121) -/

/-- The meter fare. -/
def Trip.meter (t : Trip) : Nat := t.flagFall + t.incAmount * (t.units - t.n0)

/-- The total before the clamp. -/
def Trip.rawTotal (t : Trip) : Nat := t.meter + t.surchSum + t.extras.sum

/-- The largest total, in cents. -/
abbrev totalMax : Nat := 999999

/-- The total. -/
def Trip.total (t : Trip) : Nat := min totalMax t.rawTotal

/-- At a change of u, the surcharges or the extras, the trip is stored and its total computed; the first one at the
clamp sets FARE-LIMIT and raises the event (R121). -/
def State.setPriced (s : State) (t : Trip) : State :=
  if totalMax ≤ t.rawTotal && !t.flags.fareLimit then
    (s.setTrip { t with flags := { t.flags with fareLimit := true } }).raiseEvent .fareLimit 0 0
  else s.setTrip t

/-- Add a credit to A and take whole Θ into u, which saturates at 65535 (R119). -/
def Trip.addCredit (t : Trip) (credit : Nat) : Trip :=
  { t with acc := (t.acc + credit) % t.theta, units := satAdd cap16 t.units ((t.acc + credit) / t.theta) }

/-- Store a trip that may have earned increments; the total is computed when u has changed (R121). -/
def State.setEarned (s : State) (old new : Trip) : State :=
  if new.units = old.units then s.setTrip new else s.setPriced new

/-- Add an index to the applied set and its amount to the applied sum (R118). -/
def Trip.apply (t : Trip) (index amount : Nat) : Trip :=
  { t with applied := t.applied ||| BitVec.ofNat 3 (2 ^ (index - 1)), surchSum := t.surchSum + amount }

/-- The index is in the applied set. -/
def Trip.hasApplied (t : Trip) (index : Nat) : Bool := t.applied.getLsbD (index - 1)

/-- The surcharge index of the current zone, when it is defined with one of 1..3 (R118). -/
def State.zoneSurcharge (s : State) : Option Nat :=
  match slotGet s.ppu.zones s.ppu.zone with
  | some z => if 1 ≤ z.surcharge && z.surcharge ≤ 3 then some z.surcharge else none
  | none => none

/-- The current zone is tested for a surcharge (R118). -/
def State.surchargeTest (s : State) : State :=
  match s.ret.trip, s.zoneSurcharge with
  | some t, some i => if t.hasApplied i then s else s.setPriced (t.apply i (s.surchargeAmount i))
  | _, _ => s

/-! ## The second timer (R119, R120) -/

/-- Start the second timer afresh: the next tick falls 1000 ms later (R120). -/
def State.startSecond (s : State) : State := s.setFre { s.fre with secondAt := some (s.now + 1000 * ms) }

/-- Stop the second timer (R120). -/
def State.stopSecond (s : State) : State := s.setFre { s.fre with secondAt := none }

/-- The part-second counts when at least 1 ms has passed since the last tick or start, 1000 ms before the next tick (R120). -/
def State.partSecond (s : State) : Nat :=
  match s.fre.secondAt with
  | some t => if t ≤ s.now + 999 * ms then 1 else 0
  | none => 0

/-- Settle the part-second of a HIRED trip: distance credit only, increments taken, bucket emptied (R123, R127). -/
def Trip.settlePart (t : Trip) (counted : Nat) : Trip :=
  { (t.addCredit (t.bucket * t.incTime)) with bucket := 0, hiredS := satAdd cap32 t.hiredS counted }

/-- The credit of a whole second: the bucket's, or Dp when that is larger (R119). -/
def Trip.secondCredit (t : Trip) : Nat := max (t.bucket * t.incTime) t.dp

/-- One tick in HIRED (R119). -/
def Trip.tickHired (t : Trip) : Trip :=
  { (t.addCredit t.secondCredit) with bucket := 0, hiredS := satAdd cap32 t.hiredS 1 }

/-- Add held seconds (R120). -/
def Trip.addHeld (t : Trip) (n : Nat) : Trip := { t with heldS := satAdd cap32 t.heldS n }

/-- The second timer reaches a tick: HIRED charges, HELD counts a held second (R119, R120). -/
def State.secondTick (s : State) : State :=
  let s := s.setFre { s.fre with secondAt := s.fre.secondAt.map (· + 1000 * ms) }
  match s.ret.fare, s.ret.trip with
  | .hired, some t => s.setEarned t t.tickHired
  | .held, some t => s.setTrip (t.addHeld 1)
  | _, _ => s

/-! ## Pulses (R115, R116) -/

/-- A pulse counted into a distance and its remainder under k: the metres it completes and the new remainder (R115). -/
def countPulse (k rem : Nat) : Nat × Nat := ((rem + 1000) / k, (rem + 1000) % k)

/-- A pulse into the trip: its distance, and the bucket while HIRED, which a pulse above 4000 marks OVERSPEED (R115, R116). -/
def Trip.pulse (t : Trip) (k : Nat) (hired : Bool) : Trip :=
  let t := { t with dist := satAdd cap32 t.dist (countPulse k t.rem).1, rem := (countPulse k t.rem).2 }
  if hired then
    if t.bucket < 4000 then { t with bucket := t.bucket + 1 }
    else { t with flags := { t.flags with overspeed := true } }
  else t

/-- The trip part of a pulse: in HIRED and HELD only (R115). -/
def State.tripPulse (s : State) (k : Nat) : State :=
  match s.ret.fare, s.ret.trip with
  | .hired, some t => s.setTrip (t.pulse k true)
  | .held, some t => s.setTrip (t.pulse k false)
  | _, _ => s

/-- A pulse on PULSE, counted in every part and fare state while k is held (R115, R134). -/
def State.pulse (s : State) : State :=
  match s.ret.k with
  | none => s
  | some k =>
    let c := countPulse k s.ret.totalRem
    let s := s.setRet { s.ret with totalDist := satAdd cap32 s.ret.totalDist c.1, totalRem := c.2 }
    (s.metres c.1).tripPulse k

/-! ## Notices (R53, R127) -/

/-- A fix notice from the PPU: an input to availability, and a surcharge test at a change of zone during a trip (R53, R110, R118). -/
def State.fixNotice (s : State) (zoneChanged : Bool) : State :=
  let s := s.recompute
  if zoneChanged && (s.ret.fare == .hired || s.ret.fare == .held) then s.surchargeTest else s

/-- The fare state at a notice of the own alarm state: HIRED is held at ALERTING, HELD is released at COVERT and ENDING (R127). -/
def State.alarmFare (s : State) : State :=
  match s.ret.alarm, s.ret.fare, s.ret.trip with
  | .alerting, .hired, some t =>
    let s := s.setEarned t (t.settlePart s.partSecond)
    (s.setRet { s.ret with fare := .held }).startSecond
  | .covert, .held, some t =>
    let s := s.setTrip (t.addHeld s.partSecond)
    (s.setRet { s.ret with fare := .hired }).startSecond
  | .ending, .held, some t =>
    let s := s.setTrip (t.addHeld s.partSecond)
    (s.setRet { s.ret with fare := .hired }).startSecond
  | _, _, _ => s

/-- The EMU notifies the fare engine of the own alarm state (R127, R163). -/
def State.alarmNotice (s : State) : State := s.alarmFare.recompute

end Sys2Proof.Machine
end

