-- ==== Sys2Proof/Machine/Position.lean ====
section
/-! DEFINITION. Own position, zones, peers and beacons (chapter 4). -/

namespace Sys2Proof.Machine

/-! ## Zones (R54 to R57) -/

/-- The rectangle contains the position, bounds included (R56). -/
def Zone.contains (z : Zone) (p : Point) : Bool :=
  z.eastMin ≤ p.east && p.east ≤ z.eastMax && z.northMin ≤ p.north && p.north ≤ z.northMax

/-- The lowest-numbered defined zone that contains the position, or 255 (R56). -/
def zoneOf (zones : List (Option Zone)) (p : Point) : Nat :=
  ((slotFind (fun z => z.contains p) zones 0).map (·.1)).getD 255

/-- A pickup zone lies in the bid set: the current zone and the zones its neighbour set names (R57). -/
def State.inBidSet (s : State) (z : Nat) : Bool :=
  match slotGet s.ppu.zones s.ppu.zone with
  | some cur => z < 64 && (z == s.ppu.zone || cur.neighbours.getLsbD z)
  | none => false

/-! ## Own position (R50 to R53) -/

/-- A valid fix: position, fix flag, fix time and zone are written; a fix notice follows a change of staleness or zone (R50). -/
def State.validFix (s : State) (p : Point) : State :=
  let z := zoneOf s.ppu.zones p
  let zoneChanged := z != s.ppu.zone
  let notice := s.ppu.stale || zoneChanged
  let s := s.setPpu { s.ppu with position := some p, fix := true, fixTime := some s.now, stale := false, zone := z }
  if notice then s.fixNotice zoneChanged else s

/-- A report without a fix: the fix flag is cleared and nothing else changes (R51). -/
def State.invalidFix (s : State) : State := s.setPpu { s.ppu with fix := false }

/-- A fix is 30,000 ms old when the position turns stale (R49). -/
def fixLife : Nat := 30000 * ms

/-- The position turns stale (R52). -/
def State.turnStale (s : State) : State :=
  let zoneChanged := s.ppu.zone != 255
  (s.setPpu { s.ppu with fix := false, zone := 255, stale := true }).fixNotice zoneChanged

/-! ## Peer table (R59 to R64) -/

/-- The emergency unit's table protects the station: an entry in ACTIVE or SILENT (R63). -/
def State.alarmProtects (s : State) (id : Nat) : Bool :=
  (slotEntries s.emu.table).any fun a => a.origin == id && (a.state == .active || a.state == .silent)

/-- The slot for a new peer entry: the lowest free one, or the one of the unprotected entry heard longest ago (R59, R63). -/
def State.peerSlot (s : State) : Option Nat :=
  match lowestFree s.ppu.peers with
  | some i => some i
  | none =>
    (s.pickLeast (fun p : Nat × Peer => p.2.lastHeard)
      ((slotList s.ppu.peers 0).filter fun p => !s.alarmProtects p.2.id)).map (·.1)

/-- The peer entry of a station, with its slot. -/
def State.peer (s : State) (id : Nat) : Option (Nat × Peer) := slotFind (fun p => p.id == id) s.ppu.peers 0

/-- The station stands in the peer table (R42). -/
def State.knowsPeer (s : State) (id : Nat) : Bool := (s.peer id).isSome

/-- Write a peer slot. -/
def State.putPeer (s : State) (i : Nat) (p : Peer) : State := s.setPpu { s.ppu with peers := slotPut s.ppu.peers i p }

/-- Update the station's entry, created first when there is none (R60, R61). -/
def State.updatePeer (s : State) (id : Nat) (new : Peer) (f : Peer → Peer) : State :=
  match s.peer id with
  | some (i, p) => s.putPeer i (f p)
  | none =>
    match s.peerSlot with
    | some i => s.nextDraw.putPeer i (f new)
    | none => s

/-- A fresh entry, before its first update (R60). -/
def Peer.fresh (id hop : Nat) : Peer := ⟨id, hop, 0, none, 0, none, none⟩

/-- The sender's update (R60). -/
def Peer.asSender (t : Nat) (p : Peer) : Peer :=
  { p with hop := 0, lastHeard := t, lastDirect := some t, frames := inc16 p.frames }

/-- The origin's update, when another station sent the copy: hop 0 stands for 60,000 ms after the last direct copy (R61). -/
def Peer.asOrigin (t : Nat) (p : Peer) : Peer :=
  let direct := match p.lastDirect with
    | some d => t ≤ d + 60000 * ms
    | none => false
  { p with hop := if p.hop == 0 && direct then 0 else 1, lastHeard := t, frames := inc16 p.frames }

/-- The station data a BEACON or ALARM carries (R62). -/
def Peer.withReports (b : Body) (p : Peer) : Peer :=
  match b with
  | .beacon pos fix status zone vclass => { p with position := some ⟨pos, fix⟩, report := some ⟨status, zone, vclass⟩ }
  | .alarm _ _ fix _ pos => { p with position := some ⟨pos, fix⟩ }
  | _ => p

/-- The peer notice of an accepted copy that ended at time t (R36, R60 to R62). -/
def State.peerNotice (s : State) (f : Frame) (t : Nat) : State :=
  let s := s.updatePeer f.sender (.fresh f.sender 0) (·.asSender t)
  let s := if f.origin == f.sender then s else s.updatePeer f.origin (.fresh f.origin 1) (·.asOrigin t)
  match s.peer f.origin with
  | some (i, p) => s.putPeer i (p.withReports f.body)
  | none => s

/-- A peer entry leaves 300,000 ms after it was last heard (R64). -/
def peerLife : Nat := 300000 * ms

/-! ## Beacons (R66 to R68) -/

/-- The beacon interval in seconds: 30 by default (R66). -/
def State.beaconInterval (s : State) : Nat := (s.cpt.config.map (·.beacon)).getD 30

/-- At GO the interval timer expires at a random time 0..I after GO, in ms (R66). -/
def State.firstBeacon (s : State) : State :=
  s.nextDraw.setPpu { s.ppu with intervalAt := some (s.now + s.randomIn 0 (s.beaconInterval * 1000) * ms) }

/-- A beacon is built and offered; the interval timer is drawn afresh in 0.9 I .. 1.1 I, and the change timer stops (R66 to R68). -/
def State.sendBeacon (s : State) : State :=
  let i := s.beaconInterval
  let s := s.nextDraw.setPpu { s.ppu with
    intervalAt := some (s.now + s.randomIn (i * 900) (i * 1100) * ms)
    changeAt := none }
  s.offer .beacon

end Sys2Proof.Machine
end

