-- ==== Sys2Proof/Machine/Notes.lean ====
section
/-! DEFINITION. Driver notes: inbox, receipts, outbox and retries (chapter 9). -/

namespace Sys2Proof.Machine

/-! ## Inbox (R146 to R148) -/

/-- The record holds a receipt mark, which keeps it in the inbox (R147). -/
def InNote.held (r : InNote) : Bool := r.storedMark.isSome || r.readMark.isSome

/-- The occupied inbox slots whose record has the property and holds no receipt mark. -/
def State.inboxCandidates (s : State) (p : InNote → Bool) : List (Nat × InNote) :=
  (slotList s.nts.inbox 0).filter fun x => p x.2 && !x.2.held

/-- The slot of the candidate that arrived first. -/
def State.oldestNote (s : State) (p : InNote → Bool) : Option Nat :=
  (s.pickLeast (fun x : Nat × InNote => x.2.arrival) (s.inboxCandidates p)).map (·.1)

/-- The slot for a new note: free, then the oldest DELETED, then the oldest READ without the urgent flag, then the oldest READ (R147). -/
def State.inboxSlot (s : State) : Option Nat :=
  (lowestFree s.nts.inbox) <|> (s.oldestNote fun r => r.state == .deleted)
    <|> (s.oldestNote fun r => r.state == .read && !r.urgent) <|> (s.oldestNote fun r => r.state == .read)

/-- A new inbox record (R148). -/
def NoteBody.toRecord (n : NoteBody) (origin ownId t : Nat) : InNote where
  origin := origin
  toAll := n.dest != ownId
  id := n.id
  urgent := n.urgent
  wanted := n.wanted
  key := n.jobKey
  arrival := t
  text := n.text
  state := .unread
  delReason := none
  storedMark := none
  readMark := none

/-- The NTS offers a RECEIPT (R149). -/
def State.sendReceipt (s : State) (kind : ReceiptKind) (dest id : Nat) : State := s.offer (.receipt kind dest id)

/-- A note that concerns this cab and is no duplicate is stored, or finds the inbox full (R147, R148). -/
def State.storeNote (s : State) (n : NoteBody) (origin t : Nat) : State :=
  let answered := n.dest == s.ownId && n.wanted
  match s.inboxSlot with
  | none => if answered then s.sendReceipt .refusedFull origin n.id else s
  | some i =>
    let s := s.nextDraw.putIn i (n.toRecord origin s.ownId t)
    let s := if answered then s.sendReceipt .stored origin n.id else s
    s.raiseEvent (if n.urgent then .noteUrgent else .noteArrived) i 0

/-- A NOTE delivered by the RRU, whose copy ended at time t (R146). -/
def State.noteHeard (s : State) (n : NoteBody) (origin t : Nat) : State :=
  if n.dest == s.ownId || n.dest == 4095 then
    match s.inNote origin n.id with
    | some (_, r) =>
      if n.dest == s.ownId && n.wanted && r.storedMark.isNone then s.sendReceipt .stored origin n.id else s
    | none => s.storeNote n origin t
  else s

/-- The board tells WITHDRAWN with a key: the unread and read notes that carry it are deleted (R152). -/
def InNote.withdraw (k : JobKey) (r : InNote) : InNote :=
  if r.key == some k && r.state != .deleted then { r with state := .deleted, delReason := some .jobWithdrawn } else r

/-- R152 over the inbox. -/
def State.noteWithdrawn (s : State) (k : JobKey) : State :=
  s.setNts { s.nts with inbox := s.nts.inbox.map (·.map (·.withdraw k)) }

/-! ## Outbox (R155 to R159) -/

/-- The wait for a receipt after a transmission (R157). -/
def noteRetry : Nat := 8000 * ms

/-- The slot for a posted note: free, or the one of the terminal record that ended first (R156). -/
def State.outboxSlot (s : State) : Option Nat :=
  (lowestFree s.nts.outbox) <|>
    (s.pickLeast (fun x : Nat × OutNote => x.2.termTime.getD 0)
      ((slotList s.nts.outbox 0).filter fun x => !x.2.state.live)).map (·.1)

/-- "sent" for an own NOTE (R157). -/
def OutNote.sent (now : Nat) (r : OutNote) : OutNote :=
  if r.state == .queued then
    let r := { r with made := r.made + 1 }
    if r.dest == 4095 || !r.wanted then { r with state := .sent, termTime := some now }
    else { r with state := .await, retryAt := some (now + noteRetry) }
  else r

/-- The retry time of a record in AWAIT is reached: sent again, or FAILED after four transmissions (R158). -/
def State.retryNote (s : State) (slot : Nat) (r : OutNote) : State :=
  if r.made < 4 then (s.putOut slot { r with state := .queued, retryAt := none }).offer (.note slot)
  else (s.putOut slot { r with state := .failed, retryAt := none, termTime := some s.now }).raiseEvent .noteFailed slot 0

/-- The state a record enters when a receipt is heard; none when nothing changes (R159). -/
def OutState.onReceipt : OutState → ReceiptKind → Option OutState
  | .pending, .stored | .queued, .stored | .await, .stored => some .delivered
  | .pending, .read | .queued, .read | .await, .read => some .read
  | .pending, .refusedFull | .queued, .refusedFull | .await, .refusedFull => some .refused
  | .delivered, .read => some .read
  | .refused, .stored => some .delivered
  | .refused, .read => some .read
  | .failed, .stored => some .delivered
  | .failed, .read => some .read
  | .failed, .refusedFull => some .refused
  | _, _ => none

/-- The event of the state entered (R159). -/
def OutState.event : OutState → EventKind
  | .delivered => .noteDelivered
  | .read => .noteRead
  | _ => .noteRefused

/-- The record in its new state: leaving a live state clears mark and retry time and writes the terminal time (R159). -/
def OutNote.answered (r : OutNote) (st : OutState) (now : Nat) : OutNote :=
  if r.state.live then { r with state := st, mark := none, retryAt := none, termTime := some now }
  else { r with state := st }

/-- A RECEIPT delivered by the RRU (R159). Of two records with its note id and station it reaches the one in the lowest slot
(assumption 30). -/
def State.receiptHeard (s : State) (origin dest id : Nat) (kind : ReceiptKind) : State :=
  if dest == s.ownId then
    match slotFind (fun r => r.id == id && r.dest == origin) s.nts.outbox 0 with
    | none => s
    | some (slot, r) =>
      match r.state.onReceipt kind with
      | none => s
      | some st =>
        let s := s.putOut slot (r.answered st s.now)
        let s := if r.state.live then s.removeOwn (.note slot) else s
        s.raiseEvent st.event slot 0
  else s

end Sys2Proof.Machine
end

