-- ==== Sys2Proof/Machine/Offers.lean ====
section
/-! DEFINITION. The offer board: admission, score, claim, close, take cascade and the frames of other stations (chapters 5 and 6). -/

namespace Sys2Proof.Machine

/-! ## Codes (R72, 11.5) -/

/-- State codes of R72. -/
def OfferState.code : OfferState → Nat
  | .opened => 0
  | .claimPending => 1
  | .claimed => 2
  | .ranked => 3
  | .taking => 4
  | .taken => 5
  | .watch => 6
  | .lost => 7
  | .outbid => 8
  | .missed => 9
  | .unanswered => 10
  | .forfeit => 11
  | .yielded => 12
  | .withdrawn => 13
  | .dropped => 14
  | .done => 15
  | .closed => 16

/-- The reason a CANCEL gives (R72). -/
def cancelReason (n : Nat) : Reason :=
  match n with
  | 0 => .customer
  | 1 => .reOffered
  | _ => .other

/-! ## Claim lists (R71, R87) -/

/-- Record a is better than record b: lower score, then lower station id (R71, R87). -/
def Claim.better (a b : Claim) : Bool := a.score < b.score || (a.score == b.score && a.id < b.id)

/-- Insert a record at its place in the order. -/
def insertClaim (c : Claim) : List Claim → List Claim
  | [] => [c]
  | x :: l => if c.better x then c :: x :: l else x :: insertClaim c l

/-- Place a claim: the station's earlier record goes, the new one is inserted, and a fifth is removed (R71). -/
def placeClaim (c : Claim) (l : List Claim) : List Claim := (insertClaim c (l.filter fun x => x.id != c.id)).take 4

/-- The own record of an entry (R87). -/
def State.ownClaim (s : State) (e : BoardEntry) : Claim := ⟨s.ownId, e.score.getD 0⟩

/-- The position of the own claim in the list (R95). -/
def ownRank (ownId : Nat) (l : List Claim) : Option Nat := l.findIdx? fun c => c.id == ownId

/-! ## Ends of an entry -/

/-- An entry becomes terminal and OFFER-LOST is raised with the state entered (R92, R94, R95, R97, R99, R106). -/
def State.loseEntry (s : State) (slot : Nat) (e : BoardEntry) (st : OfferState) : State :=
  (s.putEntry slot (e.finish st s.now)).raiseEvent .offerLost slot st.code

/-- The CLAIM of a CLAIM-PENDING entry leaves the queue; the entry is already in its new state (R21). -/
def State.dropClaim (s : State) (e : BoardEntry) : State :=
  if e.state == .claimPending then s.removeOwn (.claim e.key) else s

/-! ## Admission (R74 to R77, R87, R89) -/

/-- The entry holds a drop pending mark, or its DROP stands in the queue, unsent or on air (R74). -/
def State.dropWaits (s : State) (e : BoardEntry) : Bool :=
  e.dropMark.isSome || s.cau.holds (.drop e.key) || s.cau.airs (.drop e.key)

/-- The slot for a new entry: free, or the one of the terminal entry that ended first and whose DROP does not wait (R74). -/
def State.boardSlot (s : State) : Option Nat :=
  (lowestFree s.ofb.slots) <|>
    (s.pickLeast (fun x : Nat × BoardEntry => x.2.termTime.getD 0)
      ((slotList s.ofb.slots 0).filter fun x => !x.2.state.live && !s.dropWaits x.2)).map (·.1)

/-- The maximum bid distance (R186). -/
def State.maxBidDistance (s : State) : Nat := (s.cpt.config.map (·.maxDist)).getD 500

/-- The distance to the pickup, when a position is held (R58, R76). -/
def State.pickupDistance (s : State) (p : Point) : Option Nat := s.ppu.position.map fun q => distance q p

/-- The first test of R76 that fails, as a WATCH reason; none for an eligible offer. -/
def State.judge (s : State) (o : OfferBody) : Option Reason :=
  if o.window < 20 then some .short
  else if s.ofb.avail != some .free then some (watchReason (s.ofb.avail.getD .noFix) s.ppu.stale)
  else if !o.mask.getLsbD s.ownClass then some .cls
  else if !s.inBidSet o.zone then some .zone
  else
    match s.pickupDistance o.pickup with
    | some d => if s.maxBidDistance < d then some .distance else none
    | none => some .distance

/-- The score of an eligible offer at distance d: distance and neighbour penalty less idle credit, within 0..1023 (R87). -/
def State.scoreAt (s : State) (o : OfferBody) (d : Nat) : Nat :=
  let dq := (d + 9) / 10
  let zp := if o.zone == s.ppu.zone then 0 else (s.cpt.config.map (·.penalty)).getD 20
  let ic := min (s.idleSeconds / 30) ((s.cpt.config.map (·.idleCap)).getD 40)
  min 1023 (dq + zp - ic)

/-- The latest claim point: the close time less 250 ms (R89). -/
def latestPointOf (close : Nat) : Nat := close - 250 * ms

/-- The computed claim point, with its jitter of 0..63 ms, not after the latest claim point (R89). -/
def computedPointOf (received window score jitter latest : Nat) : Nat :=
  min latest (received + (window * 100 * score / 1024 + jitter) * ms)

/-- The bid mode of the last accepted CONFIGURE (R186). -/
def State.bidMode (s : State) : BidMode := (s.cpt.config.map (·.bidMode)).getD .auto

/-- A new entry as written from the OFFER, before it is judged (R70, R75). -/
def OfferBody.toEntry (o : OfferBody) (f : Frame) (t : Nat) : BoardEntry where
  key := ⟨f.origin, o.job⟩
  state := .watch
  reason := none
  received := t
  close := t + o.window * (100 * ms)
  pickup := o.pickup
  zone := o.zone
  mask := o.mask
  account := o.account
  note := o.note
  viaRelay := f.sender != f.origin
  score := none
  acceptTime := none
  rank := none
  claims := []
  takenBy := none
  claimMark := none
  takeMark := none
  dropMark := none
  repeatUsed := false
  termTime := none
  computedPoint := 0
  claimPoint := none
  latestPoint := latestPointOf (t + o.window * (100 * ms))
  latestTaken := false
  closeTaken := false
  droppedFromTaking := false
  retentionPassed := false

/-- An eligible entry enters OPEN with its score and claim points; in CONFIRM mode it has no claim point yet (R77, R89). -/
def State.openEntry (s : State) (o : OfferBody) (e : BoardEntry) : BoardEntry :=
  let score := s.scoreAt o ((s.pickupDistance o.pickup).getD 0)
  let point := computedPointOf e.received o.window score (s.randomIn 0 63) e.latestPoint
  { e with
    state := .opened
    score := some score
    computedPoint := point
    claimPoint := if s.bidMode == .auto then some point else none }

/-- An OFFER is admitted to a slot and judged (R75 to R77). -/
def State.writeOffer (s : State) (slot : Nat) (o : OfferBody) (f : Frame) (t : Nat) : State :=
  let e := o.toEntry f t
  match s.judge o with
  | some r => s.nextDraw.putEntry slot { e with reason := some r }
  | none => (s.nextDraw.nextDraw.putEntry slot (s.nextDraw.openEntry o e)).raiseEvent .offerNew slot 0

/-- A delivered OFFER: one whose key is on the board changes nothing; a board without a slot for it counts it (R74). -/
def State.offerHeard (s : State) (o : OfferBody) (f : Frame) (t : Nat) : State :=
  match s.entry ⟨f.origin, o.job⟩ with
  | some _ => s
  | none =>
    match s.boardSlot with
    | some slot => s.writeOffer slot o f t
    | none => s.setOfb { s.ofb with boardFull := inc16 s.ofb.boardFull }

/-! ## The claim (R90 to R92) -/

/-- An OPEN entry enters CLAIM-PENDING and offers its CLAIM (R90). -/
def State.claim (s : State) (slot : Nat) (e : BoardEntry) : State :=
  (s.putEntry slot { e with state := .claimPending }).offer (.claim e.key)

/-- The latest claim point of an entry (R92). -/
def State.latestPoint (s : State) (slot : Nat) (e : BoardEntry) : State :=
  let e := { e with latestTaken := true }
  match e.state with
  | .claimPending =>
    if s.cau.airs (.claim e.key) then s.putEntry slot e
    else (s.loseEntry slot { e with claimMark := none } .missed).removeOwn (.claim e.key)
  | .opened =>
    if s.bidMode == .confirm && e.acceptTime.isNone then s.loseEntry slot e .unanswered
    else s.loseEntry slot e .missed
  | _ => s.putEntry slot e

/-- "sent" for a CLAIM (R79, R91). -/
def State.claimSent (s : State) (k : JobKey) : State :=
  s.modEntry k fun e =>
    if e.state == .claimPending then { e with state := .claimed, claims := placeClaim (s.ownClaim e) e.claims } else e

/-! ## Claims heard (R93, R94) -/

/-- Three records of the list are better than the own record (R94). -/
def outbidBy (own : Claim) (l : List Claim) : Bool := 3 ≤ (l.filter fun c => c.better own).length

/-- A delivered CLAIM (R93, R94). -/
def State.claimHeard (s : State) (k : JobKey) (c : Claim) : State :=
  match s.entry k with
  | none => s
  | some (slot, e) =>
    if e.closeTaken then s
    else
      let e' := { e with claims := placeClaim c e.claims }
      if (e.state == .opened || e.state == .claimPending) && outbidBy (s.ownClaim e) e'.claims then
        (s.loseEntry slot { e' with claimMark := none } .outbid).dropClaim e
      else s.putEntry slot e'

/-! ## Close and take turn (R95 to R97) -/

/-- The take turn of a CLAIMED entry at rank 0 or of a RANKED entry (R97). -/
def State.takeTurn (s : State) (slot : Nat) (e : BoardEntry) : State :=
  if s.ofb.avail == some .free then
    (((s.putEntry slot { e with state := .taking }).offer (.take e.key)).fareTaking).raiseEvent .offerWon slot 0
  else s.loseEntry slot e .forfeit

/-- The close of an entry: the list is frozen and a CLAIMED entry is ranked (R95). -/
def State.closeEntry (s : State) (slot : Nat) (e : BoardEntry) : State :=
  let e := { e with closeTaken := true }
  if e.state == .claimed then
    let r := ownRank s.ownId e.claims
    let e := { e with rank := r }
    match r with
    | some 0 => (s.putEntry slot e).takeTurn slot e
    | some 1 => s.putEntry slot { e with state := .ranked }
    | some 2 => s.putEntry slot { e with state := .ranked }
    | _ => s.loseEntry slot e .lost
  else s.putEntry slot e

/-- The take turn of a RANKED entry: close + rank × 3000 ms (R95). -/
def BoardEntry.turnTime (e : BoardEntry) : Nat := e.close + e.rank.getD 0 * (3000 * ms)

/-- A WATCH entry enters CLOSED 9000 ms after its close (R96). -/
def BoardEntry.watchEnd (e : BoardEntry) : Nat := e.close + 9000 * ms

/-- A terminal entry stays for 60,000 ms (R73). -/
def retention : Nat := 60000 * ms

/-- The retention of a terminal entry ends: it leaves, unless a drop mark or an unsent DROP holds it (R73). -/
def State.endRetention (s : State) (slot : Nat) (e : BoardEntry) : State :=
  if e.dropMark.isSome || s.cau.holds (.drop e.key) then s.putEntry slot { e with retentionPassed := true }
  else s.freeEntry slot

/-- "sent" for a DROP: an entry held past its retention leaves (R73). -/
def State.dropSent (s : State) (k : JobKey) : State :=
  match s.entry k with
  | some (slot, e) => if e.retentionPassed then s.freeEntry slot else s
  | none => s

/-! ## "sent" for a TAKE (R85, R98) -/

/-- "sent" for a TAKE: the entry state after it. -/
def State.takeSent (s : State) (k : JobKey) : State :=
  s.modEntry k fun e => if e.state == .taking then { e with state := .taken } else e

/-- A TAKE whose entry gave the job up from TAKING is answered with a DROP (R85, R98). -/
def State.takeNeedsDrop (s : State) (k : JobKey) : Bool :=
  match s.entry k with
  | some (_, e) => e.state == .dropped && e.droppedFromTaking
  | none => false

/-! ## TAKE, CANCEL and DROP heard (R99 to R102) -/

/-- A TAKE for the entry in TAKING or TAKEN (R100). -/
def State.settleTake (s : State) (slot : Nat) (e : BoardEntry) (x : Claim) : State :=
  if x.better (s.ownClaim e) then
    let e' := { (e.finish .yielded s.now) with takeMark := none, takenBy := some x }
    let s := (s.putEntry slot e').removeOwn (.take e.key)
    let s := if e.state == .taken then s.offer (.drop e.key) else s
    s.fareReleased.raiseEvent .jobYielded slot 0
  else if e.state == .taken && !e.repeatUsed then
    (s.putEntry slot { e with repeatUsed := true }).offer (.take e.key)
  else s

/-- A delivered TAKE from station x (R99, R100). -/
def State.takeHeard (s : State) (k : JobKey) (x : Claim) : State :=
  match s.entry k with
  | none => s
  | some (slot, e) =>
    let heard := { e with takenBy := some x }
    match e.state with
    | .taking => s.settleTake slot e x
    | .taken => s.settleTake slot e x
    | .opened => s.loseEntry slot heard .lost
    | .claimPending => (s.loseEntry slot { heard with claimMark := none } .lost).dropClaim e
    | .claimed => s.loseEntry slot heard .lost
    | .ranked => s.loseEntry slot heard .lost
    | .watch => s.putEntry slot (heard.finish .closed s.now)
    | .done => s.raiseEvent .takeConflict slot 0
    | _ => s.putEntry slot heard

/-- A CANCEL moves a live entry to WITHDRAWN (R101). -/
def State.withdraw (s : State) (slot : Nat) (e : BoardEntry) (r : Reason) : State :=
  let e' := { (e.finish .withdrawn s.now) with reason := some r, claimMark := none, takeMark := none }
  let s := (s.putEntry slot e').dropClaim e
  let s :=
    if e.state.holdsJob then ((s.removeOwn (.take e.key)).fareReleased).raiseEvent .jobCancelled slot 0 else s
  s.noteWithdrawn e.key

/-- A delivered CANCEL (R101). -/
def State.cancelHeard (s : State) (k : JobKey) (r : Reason) : State :=
  match s.entry k with
  | none => s
  | some (slot, e) =>
    if e.state.live then s.withdraw slot e r
    else if e.state == .done then (s.raiseEvent .jobCancelled slot 1).lateCancel k
    else s

/-- A delivered DROP clears taken-by (R102). -/
def State.dropHeard (s : State) (k : JobKey) : State := s.modEntry k fun e => { e with takenBy := none }

/-! ## Giving the job up (R84, R104), and Hire (R103) -/

/-- The entry in TAKING or TAKEN enters DROPPED with a release reason; from TAKEN a DROP is offered (R84, R104). -/
def State.dropJob (s : State) (slot : Nat) (e : BoardEntry) (r : Reason) : State :=
  let e' := { (e.finish .dropped s.now) with
    reason := some r, takeMark := none, droppedFromTaking := e.state == .taking }
  let s := (s.putEntry slot e').removeOwn (.take e.key)
  let s := if e.state == .taken then s.offer (.drop e.key) else s
  s.fareReleased

/-- The emergency unit tells the board that the own alarm has entered ALERTING (R104). -/
def State.alarmBoard (s : State) : State :=
  let s := s.convertBoard .alarm
  match s.jobEntry with
  | some (slot, e) => s.dropJob slot e .emergency
  | none => s

/-- The fare engine tells the board of Hire: the entry that holds the job goes to DONE and hands back its key (R103). -/
def State.hireBoard (s : State) : State × Option JobKey :=
  match s.jobEntry with
  | some (slot, e) => (s.putEntry slot { (e.finish .done s.now) with takeMark := none }, some e.key)
  | none => (s, none)

end Sys2Proof.Machine
end

