-- ==== Sys2Proof/Machine/Alarm.lean ====
section
/-! DEFINITION. Emergency calls: the own alarm, the hidden switch, and other stations' alarms (chapter 10). -/

namespace Sys2Proof.Machine

/-! ## The own alarm (R163, R167, R171, R172) -/

/-- The flash request stands: ALERTING, COVERT or ENDING, with the covert sign enabled (R163). -/
def State.flashWanted (s : State) : Bool :=
  (s.ret.alarm == .alerting || s.ret.alarm == .covert || s.ret.alarm == .ending)
    && (s.cpt.config.map (·.covertSign)).getD false

/-- The roof sign changes level every 500 ms while the request stands (R163). -/
def flashHalf : Nat := 500 * ms

/-- Start or withdraw the flash request; it starts LIT (R163). -/
def State.flashUpdate (s : State) : State :=
  if s.flashWanted then
    if s.emu.flash.isNone then s.setEmu { s.emu with flash := some ⟨true, s.now + flashHalf⟩ } else s
  else s.setEmu { s.emu with flash := none }

/-- Change the own alarm state and the covert flag, with the check word rewritten (R162). -/
def State.setAlarm (s : State) (a : AlarmState) (covert : Bool) : State :=
  s.setRet { s.ret with alarm := a, covert := covert }

/-- Tell the fare engine, and let the flash request follow the state (R163). -/
def State.alarmChanged (s : State) : State := s.alarmNotice.flashUpdate

/-- The repeat interval: 10,000 ms; in ALERTING 30,000 ms from the thirtieth repeat onwards (R168). -/
def repeatInterval (a : AlarmState) (repeats : Nat) : Nat :=
  if a == .alerting && 30 ≤ repeats then 30000 * ms else 10000 * ms

/-- Start the repeat timer from this offer (R168). -/
def State.startRepeat (s : State) : State :=
  s.setEmu { s.emu with repeatAt := some (s.now + repeatInterval s.ret.alarm s.emu.repeats) }

/-- Entry to ALERTING (R167). -/
def State.enterAlerting (s : State) : State :=
  let s := s.setRet { s.ret with serial := next8 s.ret.serial, alarm := .alerting, covert := false }
  let s := (s.alarmNotice.alarmBoard).flashUpdate
  let s := s.setEmu { s.emu with firstSent := true, repeats := 0, holdAt := none }
  if s.inRun then (s.offer .alarm).startRepeat else s

/-- Entry to COVERT (R171). -/
def State.enterCovert (s : State) : State :=
  let s := (s.setAlarm .covert true).alarmChanged
  let s := s.setEmu { s.emu with repeats := satAdd cap8 s.emu.repeats 1 }
  (s.offer .alarm).startRepeat

/-- Entry to ENDING (R172). -/
def State.enterEnding (s : State) : State :=
  let s := s.setAlarm .ending s.ret.covert
  let s := s.setEmu { s.emu with repeatAt := none, firstSent := false }
  let s := (s.removeOwn .alarm).alarmChanged
  (s.setEmu { s.emu with ending := some .first }).offer .alarmEnd

/-- Entry to QUIET after the second ALARM-END (R172). The repeats made stay those of the alarm that has ended (R162;
assumption 32). -/
def State.enterQuiet (s : State) : State :=
  let s := s.setAlarm .quiet false
  (s.setEmu { s.emu with ending := none }).alarmChanged

/-- "sent" for an own ALARM (R169). -/
def State.alarmSent (s : State) : State :=
  if s.emu.firstSent && s.ret.alarm != .ending then
    let s := s.setEmu { s.emu with firstSent := false }
    if s.ret.alarm == .alerting then s.raiseEvent .alarmSent s.ret.serial 0 else s
  else s

/-- "sent" for an own ALARM-END (R172). -/
def State.alarmEndSent (s : State) : State :=
  match s.emu.ending with
  | some .first => s.setEmu { s.emu with ending := some .gap, gapAt := some (s.now + 2000 * ms) }
  | some .second => s.enterQuiet
  | _ => s

/-- A retained or waiting alarm at GO (R173). -/
def State.alarmGo (s : State) : State :=
  match s.ret.alarm with
  | .alerting => ((s.setEmu { s.emu with repeats := 0, firstSent := true }).offer .alarm).startRepeat
  | .covert => ((s.setEmu { s.emu with repeats := 0, firstSent := true }).offer .alarm).startRepeat
  | .ending => (s.setEmu { s.emu with ending := some .first }).offer .alarmEnd
  | _ => s

/-! ## The hidden switch (R164, R165) -/

/-- The hold of a press: 1500 ms (R165). -/
def panicHold : Nat := 1500 * ms

/-- A level counts when the pin has held it for 20 ms without a break (R164). -/
def panicFilter : Nat := 20 * ms

/-- The pin PANIC changes to this level: the filter starts when it differs from the level in force, and stops when it is
that level again; it rests while the part has no supply (R164). -/
def State.panicPin (s : State) (low : Bool) : State :=
  (s.setPins { s.pins with panicLow := low }).setEmu { s.emu with
    filterAt := if s.powered && low != s.emu.panicLow then some (s.now + panicFilter) else none }

/-- The pin has held its new level for 20 ms (R164). -/
def State.filterDue (s : State) : Bool := s.powered && due s.emu.filterAt s.now

/-- The filter counts a level of PANIC: a press in QUIET is captured, a release in ARMING abandons the alarm, and any
other change only moves the level in force (R164, R165). -/
def State.panicLevel (s : State) (low : Bool) : State :=
  let was := s.emu.panicLow
  let s := s.setEmu { s.emu with panicLow := low, filterAt := none }
  if low && !was && s.ret.alarm == .quiet then
    let s := s.setEmu { s.emu with holdAt := some (s.now + panicHold) }
    (s.setAlarm .arming s.ret.covert).alarmChanged
  else if !low && was && s.ret.alarm == .arming then
    let s := s.setEmu { s.emu with holdAt := none }
    (s.setAlarm .quiet s.ret.covert).alarmChanged
  else s

/-! ## Other stations' alarms (R174 to R177) -/

/-- The alarm table entry of a station, with its slot. -/
def State.alarmOf (s : State) (origin : Nat) : Option (Nat × AlarmEntry) :=
  slotFind (fun a => a.origin == origin) s.emu.table 0

/-- Write an alarm table slot. -/
def State.putAlarm (s : State) (i : Nat) (a : AlarmEntry) : State := s.setEmu { s.emu with table := slotPut s.emu.table i a }

/-- Free an alarm table slot. -/
def State.freeAlarm (s : State) (i : Nat) : State := s.setEmu { s.emu with table := slotFree s.emu.table i }

/-- The slot of the entry in this state with the earliest of its times. -/
def State.oldestAlarm (s : State) (st : HeardState) (time : AlarmEntry → Nat) : Option Nat :=
  (s.pickLeast (fun x : Nat × AlarmEntry => time x.2)
    ((slotList s.emu.table 0).filter fun x => x.2.state == st)).map (·.1)

/-- The slot for a new entry: free, or the oldest ENDED, SILENT, ACTIVE one in this order (R176). -/
def State.alarmSlot (s : State) : Option Nat :=
  (lowestFree s.emu.table) <|> (s.oldestAlarm .ended fun a => a.endedTime.getD 0)
    <|> (s.oldestAlarm .silent (·.lastHeard)) <|> (s.oldestAlarm .active (·.lastHeard))

/-- Hop of a frame: 0 from its origin, 1 through a relay (R174). -/
def Frame.hop (f : Frame) : Nat := if f.sender == f.origin then 0 else 1

/-- A new entry from an ALARM whose copy ended at time t (R175). -/
def newAlarm (f : Frame) (t serial count : Nat) (fix duress : Bool) (pos : Point) : AlarmEntry where
  origin := f.origin
  serial := serial
  firstHeard := t
  lastHeard := t
  endedTime := none
  position := some ⟨pos, fix⟩
  duress := duress
  hop := f.hop
  repeats := 1
  lastCount := count
  state := .active

/-- A repeat of an alarm in the table (R175). -/
def AlarmEntry.repeated (a : AlarmEntry) (f : Frame) (t count : Nat) (fix duress : Bool) (pos : Point) : AlarmEntry :=
  { a with
    lastHeard := t
    position := some ⟨pos, fix⟩
    duress := a.duress || duress
    hop := f.hop
    repeats := satAdd cap8 a.repeats 1
    lastCount := count
    state := .active }

/-- A delivered ALARM (R175). -/
def State.alarmHeard (s : State) (f : Frame) (t serial count : Nat) (fix duress : Bool) (pos : Point) : State :=
  match s.alarmOf f.origin with
  | none =>
    match s.alarmSlot with
    | some i => (s.nextDraw.putAlarm i (newAlarm f t serial count fix duress pos)).raiseEvent .alarmHeard f.origin 0
    | none => s
  | some (i, a) =>
    if a.serial != serial then
      (s.putAlarm i (newAlarm f t serial count fix duress pos)).raiseEvent .alarmHeard f.origin 0
    else if a.state == .ended then s
    else
      let s := s.putAlarm i (a.repeated f t count fix duress pos)
      if duress && !a.duress then s.raiseEvent .alarmHeard f.origin 0 else s

/-- A delivered ALARM-END (R177): the one that ends the entry is its last frame, and gives it its hop (R174; assumption 31). -/
def State.alarmEndHeard (s : State) (f : Frame) (t serial : Nat) (pos : Point) : State :=
  match s.alarmOf f.origin with
  | none => s
  | some (i, a) =>
    if a.serial == serial && a.state != .ended then
      (s.putAlarm i { a with
        state := .ended, endedTime := some t, lastHeard := t, hop := f.hop
        position := some ⟨pos, (a.position.map (·.valid)).getD false⟩ }).raiseEvent .alarmEnded f.origin 0
    else s

/-- The instant at which an entry ages (R177). -/
def AlarmEntry.agesAt (a : AlarmEntry) : Nat :=
  match a.state with
  | .active => a.lastHeard + 60000 * ms
  | .silent => a.lastHeard + 300000 * ms
  | .ended => a.endedTime.getD a.lastHeard + 60000 * ms

/-- An entry ages: ACTIVE goes SILENT, the others leave (R177). -/
def State.ageAlarm (s : State) (i : Nat) (a : AlarmEntry) : State :=
  match a.state with
  | .active => s.putAlarm i { a with state := .silent }
  | _ => s.freeAlarm i

end Sys2Proof.Machine
end

