-- ==== Sys2Proof/Machine/Relay.lean ====
section
/-! DEFINITION. Reception, duplicates and relay (chapter 3), and the end of an own transmission (R27), whose notices reach every owner. -/

namespace Sys2Proof.Machine

/-! ## Recent-frame cache (R38 to R41) -/

/-- The cache entry of a key. -/
def State.cached (s : State) (k : FrameKey) : Option CacheEntry := s.rru.cache.find? (·.key == k)

/-- Change the cache entry of a key. -/
def State.modCache (s : State) (k : FrameKey) (f : CacheEntry → CacheEntry) : State :=
  s.setRru { s.rru with cache := s.rru.cache.map fun c => if c.key == k then f c else c }

/-- The cache with room for one more: of sixteen entries the one first heard earliest among those without a relay mark is evicted; R38 shows that one exists (R39). -/
def State.evictCache (s : State) : List CacheEntry :=
  if s.rru.cache.length < 16 then s.rru.cache
  else
    match s.pickLeast (·.firstHeard) (s.rru.cache.filter fun c => c.mark == .none) with
    | some c => s.rru.cache.erase c
    | none => s.rru.cache.tail

/-- Insert the entry of a new frame (R39). -/
def State.cacheNew (s : State) (k : FrameKey) (t : Nat) : State :=
  s.nextDraw.setRru { s.rru with cache := s.evictCache ++ [⟨k, t, 1, .none⟩] }

/-! ## Relay decision and holds (R42 to R44) -/

/-- The destination condition of R42: not the own station, and in the peer table. -/
def State.relayDest (s : State) (id : Nat) : Bool := id != s.ownId && s.knowsPeer id

/-- The conditions of R42 that depend on the body. -/
def State.relayBody (s : State) (b : Body) : Bool :=
  match b with
  | .offer o => 20 ≤ o.window
  | .note n => n.dest == 4095 || s.relayDest n.dest
  | .receipt dest _ _ => s.relayDest dest
  | .take k _ _ _ => s.relayDest k.base
  | .drop k _ => s.relayDest k.base
  | .tally t => s.relayDest t.dest
  | _ => true

/-- The RRU decides to relay a new frame (R42). -/
def State.shouldRelay (s : State) (f : Frame) : Bool := f.body.kind.relayable && 1 ≤ f.hops && s.relayBody f.body

/-- The random delay in a hold: 20..100 ms for class-0 kinds, 40..400 ms for the others (R43). -/
def State.holdDelay (s : State) (k : Kind) : Nat :=
  (if k.relayCls == 0 then s.randomIn 20 100 else s.randomIn 40 400) * ms

/-- The frame is taken into the lowest-numbered free hold, or dropped when all are busy (R43). -/
def State.holdFrame (s : State) (f : Frame) (t : Nat) : State :=
  match lowestFree s.rru.holds with
  | none => s.setStats { s.rru.stats with relaysDropped := inc16 s.rru.stats.relaysDropped }
  | some i =>
    let h : Hold := ⟨f, t, s.now + s.holdDelay f.body.kind⟩
    (s.nextDraw.setRru { s.rru with holds := slotPut s.rru.holds i h }).modCache f.key fun c => { c with mark := .hold i }

/-- At its release time the frame leaves the hold and is offered to the queue (R44). -/
def State.releaseHold (s : State) (i : Nat) (h : Hold) : State :=
  (s.setRru { s.rru with holds := slotFree s.rru.holds i }).offerRelay (h.frame.relayCopy s.ownId) h.endOfCopy

/-! ## Delivery (R37) -/

/-- An accepted frame goes to the block that owns its kind; a BEACON's data reached the PPU with the peer notice, and a TALLY goes to no block (R37, R62). -/
def State.deliver (s : State) (f : Frame) (t : Nat) : State :=
  match f.body with
  | .beacon .. => s
  | .offer o => s.offerHeard o f t
  | .claim k score _ => s.claimHeard k ⟨f.origin, score⟩
  | .take k score _ _ => s.takeHeard k ⟨f.origin, score⟩
  | .drop k _ => s.dropHeard k
  | .cancel job reason => s.cancelHeard ⟨f.origin, job⟩ (cancelReason reason)
  | .note n => s.noteHeard n f.origin t
  | .receipt dest id kind => s.receiptHeard f.origin dest id kind
  | .alarm serial count fix duress pos => s.alarmHeard f t serial count fix duress pos
  | .alarmEnd serial pos => s.alarmEndHeard f t serial pos
  | .tally _ => s

/-! ## Accepted frames (R36, R39, R40) -/

/-- A new frame: cached, delivered, and judged for relay (R39). -/
def State.newFrame (s : State) (f : Frame) (t : Nat) : State :=
  let s := (s.cacheNew f.key t).deliver f t
  if s.shouldRelay f then s.holdFrame f t else s

/-- A relay withdrawn because two further copies were heard (R40). -/
def State.cancelRelay (s : State) (k : FrameKey) (m : RelayMark) : State :=
  let s := s.setStats { s.rru.stats with relaysCancelled := inc16 s.rru.stats.relaysCancelled }
  match m with
  | .hold i => (s.setRru { s.rru with holds := slotFree s.rru.holds i }).endMark k
  | .queued => (s.endMark k).removeRelay k
  | .none => s

/-- A copy of a cached frame (R40). -/
def State.copyHeard (s : State) (c : CacheEntry) : State :=
  let n := min 15 (c.copies + 1)
  let s := s.setStats { s.rru.stats with copies := inc16 s.rru.stats.copies }
  let s := s.modCache c.key fun c => { c with copies := n }
  if c.mark != .none && n == 3 && c.copies == 2 then s.cancelRelay c.key c.mark else s

/-- A frame that passed every filter, whose copy ended at time t (R36). -/
def State.acceptFrame (s : State) (f : Frame) (t : Nat) : State :=
  let s := (s.setStats { s.rru.stats with good := inc16 s.rru.stats.good }).peerNotice f t
  if f.body.kind.relayable then
    match s.cached f.key with
    | none => s.newFrame f t
    | some c => s.copyHeard c
  else s.deliver f t

/-! ## Reception filters (R33 to R35) -/

/-- A malformed frame is counted (R8). -/
def State.countMalformed (s : State) : State :=
  s.setStats { s.rru.stats with malformed := inc16 s.rru.stats.malformed }

/-- An id clash: counted, and reported once in a run (R34). -/
def State.idClash (s : State) (origin : Nat) : State :=
  let s := s.setStats { s.rru.stats with idClashes := inc16 s.rru.stats.idClashes }
  if s.rru.clashReported then s
  else (s.setRru { s.rru with clashReported := true }).raiseEvent .idClash origin 0

/-- Steps 7 and 8 of R33, on a valid frame. -/
def State.filterOwn (s : State) (f : Frame) (t : Nat) : State :=
  if f.sender == s.ownId then s.idClash f.origin
  else if f.origin == s.ownId then s
  else s.acceptFrame f t

/-- Steps 3 to 8 of R33 on a whole frame: check, extent, fleet, validity, own sender, own origin. -/
def State.judgeFrame (s : State) (bytes : List Byte) (overrun : Bool) (t : Nat) : State :=
  if !checkGood bytes then
    s.setStats { s.rru.stats with checkFailures := inc16 s.rru.stats.checkFailures }
  else if overrun then s.countMalformed
  else if at8 bytes 1 != s.ownFleet then s
  else
    match readFrame (bytes.take (bytes.length - 2)) with
    | none => s.countMalformed
    | some f => s.filterOwn f t

/-! ## Hunting (R31, R48) -/

/-- The sync word 0xE2 0x5A, bit by bit as it is sent (R1). -/
def syncBits : List Bool := (List.range 16).map fun i => (0xE25A : BitVec 16).getMsbD i

/-- The 16-bit window with one more bit clocked in (R31). -/
def clockBit (window : List Bool) (b : Bool) : List Bool := (window ++ [b]).drop (window.length - 15)

/-- The window matches the sync word, every bit of it (R31). -/
def RxState.matched : RxState → Bool
  | .hunting window => window == syncBits
  | _ => false

/-- The receiver clocks one bit from RXD into the window of its hunt (R31). -/
def RxState.clock (b : Bool) : RxState → RxState
  | .hunting window => .hunting (clockBit window b)
  | rx => rx

/-- At a period of RCLK a hunting receiver clocks the bit on RXD, which comes from outside and is a free value here (R31;
assumption 5). -/
def State.clockRxd (s : State) : State :=
  match s.rru.rx with
  | .hunting _ =>
    if s.now % bitPeriod == 0 then
      s.nextDraw.setRru { s.rru with rx := s.rru.rx.clock (s.randomIn 0 1 == 1) }
    else s
  | _ => s

/-- The RRU hunts, from an empty window, while the part is in RUN, CD is active and KEY is released (R31). -/
def State.resumeHunt (s : State) : State :=
  s.setRru { s.rru with
    rx := if s.inRun && s.pins.cd && s.cau.onAir.isNone then .hunting [] else .idle }

/-! ## The end of an own transmission (R27) -/

/-- The owner is told "sent" (R27, step 2). -/
def State.sentNotice (s : State) (e : QEntry) : State :=
  match e.owner with
  | .relay => s.relaySent e.frame.key
  | .own r =>
    match r with
    | .claim k => s.claimSent k
    | .take k => s.takeSent k
    | .drop k => s.dropSent k
    | .note slot => s.modOut slot (·.sent s.now)
    | .tally => s.tallySent
    | .alarm => s.alarmSent
    | .alarmEnd => s.alarmEndSent
    | .receipt .. => s
    | .beacon => s

/-- What the owner offers in answer to "sent", once the queue has completed the steps of R27: the DROP of R85 and R98. -/
def State.sentFollowUp (s : State) (e : QEntry) : State :=
  match e.owner with
  | .own (.take k) => if s.takeNeedsDrop k then s.offer (.drop k) else s
  | _ => s

/-- A deferred frame is offered to the queue (R17). -/
def State.offerDeferred (s : State) (g : Group) : State :=
  match s.cau.deferred g with
  | some o => (s.setCau (s.cau.setDeferred g none)).offerOwnQ o
  | none => s

/-- The airtime ends (R27): KEY released, "sent", deferred frames, W and idle reference, "space", and the next decision. -/
def State.endTx (s : State) (a : OnAir) : State :=
  let s := (s.setCau { s.cau with onAir := none }).resumeHunt
  let s := s.sentNotice a.entry
  let s := ((s.offerDeferred .class0).offerDeferred .tally).offerDeferred .beacon
  let s := s.setCau { s.cau with w := 4, idleRef := if s.pins.cd then s.cau.idleRef else some s.now }
  ((s.spaceThen id).decide false).sentFollowUp a.entry

end Sys2Proof.Machine
end

