-- ==== Sys2Proof/Machine/Flags.lean ====
section
/-! DEFINITION. Codes the host sees, the status byte (R180), and the levels of the output pins (R1, R111, R191). -/

namespace Sys2Proof.Machine

/-! ## Codes of the command port (R184, 11.5, 11.6) -/

/-- Completion codes (R184). -/
inductive Completion where
  | ok | invalid | state | range | full | protected_ | notFound | tooLate | badCode | limit
  deriving DecidableEq, Repr

/-- The byte of a completion code (R184). -/
def Completion.code : Completion → Byte
  | .ok => 0x00
  | .invalid => 0x01
  | .state => 0x02
  | .range => 0x03
  | .full => 0x04
  | .protected_ => 0x05
  | .notFound => 0x06
  | .tooLate => 0x07
  | .badCode => 0x08
  | .limit => 0x09

/-- Event kind codes (11.6). -/
def EventKind.code : EventKind → Nat
  | .start => 1
  | .offerNew => 2
  | .offerWon => 3
  | .offerLost => 4
  | .jobYielded => 5
  | .jobCancelled => 6
  | .takeConflict => 7
  | .noteArrived => 8
  | .noteUrgent => 9
  | .noteDelivered => 10
  | .noteRead => 11
  | .noteFailed => 12
  | .noteRefused => 13
  | .alarmHeard => 14
  | .alarmEnded => 15
  | .alarmSent => 16
  | .channelBlocked => 17
  | .channelClear => 18
  | .idClash => 19
  | .fareLimit => 20

/-- Offer reason codes (11.5). -/
def Reason.code : Reason → Nat
  | .cls => 0
  | .zone => 1
  | .distance => 2
  | .busy => 3
  | .noFix => 4
  | .passed => 5
  | .short => 6
  | .alarm => 7
  | .customer => 8
  | .reOffered => 9
  | .other => 10
  | .noShow => 11
  | .declined => 12
  | .emergency => 13

/-- Fare state codes (R107). -/
def FareState.code : FareState → Nat
  | .vacant => 0
  | .onCall => 1
  | .hired => 2
  | .held => 3
  | .total => 4

/-- Driver status codes (R108). -/
def DriverStatus.code : DriverStatus → Nat
  | .available => 0
  | .onBreak => 1
  | .off => 2

/-- The driver status of a byte; a byte above 2 names none (R108). -/
def DriverStatus.ofCode (c : Nat) : Option DriverStatus :=
  [DriverStatus.available, .onBreak, .off].find? (·.code == c)

/-- Inbox state codes (11.5). -/
def InState.code : InState → Nat
  | .unread => 0
  | .read => 1
  | .deleted => 2

/-- Delete reason codes (11.5). -/
def DelReason.code : DelReason → Nat
  | .host => 0
  | .jobWithdrawn => 1

/-- Outbox state codes (11.5). -/
def OutState.code : OutState → Nat
  | .pending => 0
  | .queued => 1
  | .await => 2
  | .sent => 3
  | .delivered => 4
  | .read => 5
  | .refused => 6
  | .failed => 7

/-- Alarm table state codes (11.5). -/
def HeardState.code : HeardState → Nat
  | .active => 0
  | .silent => 1
  | .ended => 2

/-- Codes of the own alarm as the host sees it; COVERT is shown as QUIET (R162, 11.5). -/
def AlarmState.code : AlarmState → Nat
  | .quiet => 0
  | .arming => 1
  | .alerting => 2
  | .covert => 0
  | .ending => 3

/-- The code of the host-visible state: QUIET while the covert flag is set (R162). -/
def State.visibleAlarm (s : State) : Nat := if s.ret.covert then 0 else s.ret.alarm.code

/-- Part state codes (11.5). -/
def PartState.code : PartState → Nat
  | .config => 0
  | .run => 1

/-- The role of a station id: 0 base, 1 cab (R59, 11.5). -/
def roleCode (id : Nat) : Nat := if isBase id then 0 else 1

/-! ## The status byte and the output pins -/

/-- The status byte (R180), bit 7 READY down to bit 0 RUN. -/
def State.statusByte (s : State) : Byte :=
  byte (flagBits [s.inRun, s.cau.blocked, s.cpt.phaseError, !s.cpt.events.isEmpty, s.cpt.phase == .result,
    s.cpt.phase == .exec, s.cpt.phase == .param, s.cpt.phase == .ready])

/-- ALERT is asserted, low, while the event queue holds entries (R191). -/
def State.alertAsserted (s : State) : Bool := !s.cpt.events.isEmpty

/-- The byte that SDO carries; none while the pin is high impedance, which it is while CSN is high (R179). A part without its main
supply drives nothing (assumption 28). -/
def State.sdoPin (s : State) : Option Byte := if s.powered && s.pins.csnLow then some s.cpt.sdo else none

/-- KEY is asserted while an entry is on air (R1, R25). -/
def State.keyPin (s : State) : Bool := s.cau.onAir.isSome

/-- The bits of a run of bytes, each byte most significant bit first (R1). -/
def bitAt (l : List Byte) (i : Nat) : Bool := (l.getD (i / 8) 0).getLsbD (7 - i % 8)

/-- TXD carries the bit of the on-air frame at this moment, one bit per bit period, and is low between frames (R1). -/
def State.txdLevel (s : State) : Bool :=
  match s.cau.onAir with
  | some a => bitAt a.entry.frame.onAirBytes ((s.now - a.start) / bitPeriod)
  | none => false

/-- SIGN is LIT by the flash pattern while it is requested, and otherwise while availability is FREE (R111, R163). -/
def State.signLit (s : State) : Bool :=
  match s.emu.flash with
  | some f => f.lit
  | none => s.fre.avail == some .free

end Sys2Proof.Machine
end

