-- ==== Sys2Proof/Machine/Results.lean ====
section
/-! DEFINITION. The result bytes of the reading commands, after the completion code, in the layouts of R192. -/

namespace Sys2Proof.Machine

/-! ## Fields -/

/-- A station id or any two-byte number that may be absent: zero when it is (R192). -/
def put16? (n : Option Nat) : List Byte := put16 (n.getD 0)

/-- A one-byte field that may be absent. -/
def put8? (n : Option Nat) : List Byte := put8 (n.getD 0)

/-- A time as seconds since GO (R192). -/
def State.putSince (s : State) (t : Nat) : List Byte := put32 (s.sinceGo t)

/-- A time that may be absent, as seconds since GO. -/
def State.putSince? (s : State) (t : Option Nat) : List Byte := put32 ((t.map s.sinceGo).getD 0)

/-- Whole milliseconds until a time, 0 when it has passed (assumption 17). -/
def State.msUntil (s : State) (t : Nat) : Nat := (t - s.now) / ms

/-- A job key that may be absent: base id, then job id. -/
def putKey? (k : Option JobKey) : List Byte := put16? (k.map (·.base)) ++ put16? (k.map (·.job))

/-- A position that may be absent, with its fix flag. -/
def putFix? (f : Option Fix) : List Byte :=
  put16? (f.map (·.pos.east)) ++ put16? (f.map (·.pos.north)) ++ put8? (f.map (·.valid.toNat))

/-- The distance from the own held position to a reported one, when both are present (R65, R178). -/
def State.distanceTo (s : State) (f : Option Fix) : Option Nat :=
  match s.ppu.position, f with
  | some p, some f => some (distance p f.pos)
  | _, _ => none

/-! ## Port (R190, R191, R47) -/

/-- READ-STATUS (R191). -/
def State.statusResult (s : State) : List Byte :=
  put8 s.cpt.part.code
    ++ putFlags [s.cpt.config.isSome, s.cpt.overflow, s.pins.tprotOpen, s.cau.blocked, s.ret.retainedLost]
    ++ put8 s.cpt.events.length ++ put16 s.ownId ++ put8 s.ownFleet

/-- SENSE-EVENT: the entry removed, or NONE, with the overflow flag as it stood and the entries left (R190). -/
def eventResult (e : Option Event) (overflow : Bool) (left : Nat) : List Byte :=
  put8? (e.map (·.kind.code)) ++ put16? (e.map (·.subject)) ++ put8? (e.map (·.count)) ++ put8? (e.map (·.detail))
    ++ putFlags [overflow] ++ put8 left

/-- READ-CHANNEL-STATS (R47). -/
def Stats.result (t : Stats) : List Byte :=
  put16 t.good ++ put16 t.checkFailures ++ put16 t.truncated ++ put16 t.malformed ++ put16 t.copies
    ++ put16 t.relaysSent ++ put16 t.relaysCancelled ++ put16 t.relaysDropped ++ put16 t.ownRefused ++ put16 t.idClashes

/-! ## Position and peers (R65) -/

/-- SET-POSITION: current zone and fix flag (R50). -/
def State.positionResult (s : State) : List Byte := put8 s.ppu.zone ++ put8 s.ppu.fix.toNat

/-- READ-PEER (R65). -/
def State.peerResult (s : State) (p : Peer) : List Byte :=
  let status := p.report.bind (·.status)
  let vclass := p.report.bind (·.vclass)
  let d := s.distanceTo p.position
  putFlags [p.position.isSome, p.report.isSome, status.isSome, vclass.isSome, d.isSome]
    ++ put16 p.id ++ put8 (roleCode p.id) ++ put8 p.hop ++ s.putSince p.lastHeard ++ put16 p.frames
    ++ putFix? p.position ++ put8? (status.map (·.code)) ++ put8? (p.report.map (·.zone)) ++ put8? vclass
    ++ put16? d ++ put8 s.ppu.fix.toNat

/-! ## Offers (R80) -/

/-- READ-OFFER and SCAN-OFFERS of an entry (R80). -/
def State.offerResult (s : State) (slot : Nat) (e : BoardEntry) : List Byte :=
  put8 slot ++ putKey e.key ++ put8 e.state.code ++ put8? (e.reason.map (·.code))
    ++ s.putSince e.received ++ s.putSince e.close ++ put16 (s.msUntil e.close)
    ++ putPoint e.pickup ++ put8 e.zone ++ put8 e.mask.toNat
    ++ putFlags [e.account, e.viaRelay, e.claimMark.isSome, e.takeMark.isSome, e.dropMark.isSome, e.repeatUsed]
    ++ putFlags [e.reason.isSome, e.score.isSome, e.rank.isSome, e.acceptTime.isSome, e.takenBy.isSome]
    ++ put16? e.score ++ put8? e.rank ++ s.putSince? e.acceptTime
    ++ put16? (e.takenBy.map (·.id)) ++ put16? (e.takenBy.map (·.score))
    ++ put8 e.claims.length ++ e.claims.flatMap (fun c => put16 c.id ++ put16 c.score)
    ++ put8 e.note.length ++ packText e.note

/-- READ-OFFER of slot 255: live, terminal and free slots, and the board-full count (R80). -/
def Ofb.summary (o : Ofb) : List Byte :=
  let es := slotEntries o.slots
  put8 (es.filter (·.state.live)).length ++ put8 (es.filter fun e => !e.state.live).length
    ++ put8 (o.slots.filter (·.isNone)).length ++ put16 o.boardFull

/-! ## Fare and totals (R128, R131, R144) -/

/-- A trip's flags (R192). -/
def TripFlags.result (f : TripFlags) : List Byte := putFlags [f.fareLimit, f.overspeed, f.interrupted, f.lateCancel]

/-- The extras as eight amounts, those not entered as zero (R192). -/
def extrasResult (l : List Nat) : List Byte := (l ++ List.replicate (8 - l.length) 0).flatMap put16

/-- The figures of a trip in READ-FARE, tariff number to flags and key (R128). -/
def Trip.result (t : Trip) : List Byte :=
  put8 t.tariff ++ put16 t.dp ++ put32 t.theta ++ put32 t.acc ++ put16 t.units ++ put32 t.meter ++ put32 t.surchSum
    ++ [Config.appliedCode t.applied] ++ put8 t.extras.length ++ extrasResult t.extras ++ put32 t.extras.sum
    ++ put32 t.total ++ put32 t.dist ++ put32 t.hiredS ++ put32 t.heldS ++ put32 t.hireTime
    ++ put32 (t.stopTime.getD 0) ++ t.flags.result ++ putKey? t.jobKey

/-- The trip part of READ-FARE: zeros when no trip is in progress (R192). -/
def tripResult (t : Option Trip) : List Byte := (t.map (·.result)).getD (List.replicate 72 0)

/-- READ-FARE (R128). -/
def State.fareResult (s : State) : List Byte :=
  let t := s.ret.trip
  put8 s.ret.fare.code ++ put8 s.fre.driver.code ++ put8 (s.fre.avail.getD .noFix).code ++ put16 s.idleSeconds
    ++ put32 s.ret.totalDist ++ put16? s.ret.k
    ++ putFlags [s.ret.k.isSome, t.isSome, (t.bind (·.stopTime)).isSome, (t.bind (·.jobKey)).isSome]
    ++ tripResult t

/-- READ-TRIP (R131). The flags byte has the bit order that R192 gives that of READ-FARE (assumption 29). -/
def TripRecord.result (r : TripRecord) : List Byte :=
  put16 r.number ++ put8 r.tariff ++ put32 r.hireTime ++ put32 r.stopTime ++ put32 r.dist ++ put32 r.hiredS
    ++ put32 r.heldS ++ put32 r.meter ++ put32 r.surcharges ++ put32 r.extras ++ put8 r.extraCount ++ put32 r.total
    ++ put8 r.payment ++ putFlags [r.jobKey.isSome] ++ putKey? r.jobKey ++ r.flags.result

/-- The ten shift totals (R144). -/
def ShiftTotals.result (t : ShiftTotals) : List Byte :=
  put32 t.trips ++ put32 t.fare ++ put32 t.extras ++ put32 t.surcharges ++ put32 t.cash ++ put32 t.card
    ++ put32 t.account ++ put32 t.hiredDist ++ put32 t.totalDist ++ put32 t.hiredS

/-- The four lifetime totals (R144). -/
def LifeTotals.result (t : LifeTotals) : List Byte :=
  put32 t.trips ++ put32 t.fare ++ put32 t.hiredDist ++ put32 t.totalDist

/-- READ-TOTALS (R144). -/
def Retained.totalsResult (r : Retained) : List Byte :=
  [Config.shiftStateCode r.shiftOpen] ++ put32 r.shiftTime ++ put16 r.tripCounter ++ r.shift.result ++ r.life.result

/-! ## Notes (R153, R154, R160) -/

/-- The READ-NOTE fields up to the arrival of the words: word index and the number of words that follow (R153). -/
def State.noteHead (s : State) (r : InNote) (word count : Nat) : List Byte :=
  put16 r.origin ++ put8 r.toAll.toNat ++ put8 r.id
    ++ putFlags [r.urgent, r.wanted, r.key.isSome, r.storedMark.isSome, r.readMark.isSome]
    ++ putFlags [r.key.isSome, r.delReason.isSome] ++ putKey? r.key ++ s.putSince r.arrival ++ put8 r.state.code
    ++ put8? (r.delReason.map (·.code)) ++ put8 r.text.length ++ put8 word ++ put8 count

/-- READ-NOTE from a word index (R153). -/
def State.noteResult (s : State) (r : InNote) (word : Nat) : List Byte :=
  s.noteHead r word (textWords r.text.length - word) ++ (packText r.text).drop (2 * word)

/-- READ-OUTBOX of a record (R160). -/
def State.outResult (s : State) (r : OutNote) : List Byte :=
  put16 r.dest ++ put8 r.id ++ putFlags [r.wanted, r.urgent, r.key.isSome, r.mark.isSome]
    ++ putFlags [r.key.isSome, r.retryAt.isSome, r.termTime.isSome] ++ putKey? r.key ++ put8 r.state.code ++ put8 r.made
    ++ put16? (r.retryAt.map s.msUntil) ++ s.putSince? r.termTime ++ put8 r.text.length ++ packText r.text

/-- READ-OUTBOX of slot 255: the note store summary (R160). -/
def State.notesSummary (s : State) : List Byte :=
  let ins := slotEntries s.nts.inbox
  let outs := slotEntries s.nts.outbox
  put8 (ins.filter (·.state == .unread)).length ++ put8 (ins.filter (·.state == .read)).length
    ++ put8 (ins.filter (·.state == .deleted)).length ++ put8 (s.nts.inbox.filter (·.isNone)).length
    ++ put8 (outs.filter (·.state.live)).length ++ put8 (outs.filter fun r => !r.state.live).length
    ++ put8 (s.nts.outbox.filter (·.isNone)).length ++ put8 s.nts.refusals.length ++ put16 s.nts.refusalsLost
    ++ put8 s.ret.noteId

/-! ## Alarms (R178) -/

/-- READ-ALARM of a table entry (R178). -/
def State.alarmResult (s : State) (slot : Nat) (a : AlarmEntry) : List Byte :=
  let d := s.distanceTo a.position
  put8 slot ++ put16 a.origin ++ put8 a.serial ++ put8 a.state.code ++ s.putSince a.firstHeard
    ++ s.putSince a.lastHeard ++ s.putSince? a.endedTime
    ++ putFlags [a.endedTime.isSome, a.position.isSome, d.isSome] ++ putFix? a.position ++ putFlags [a.duress]
    ++ put8 a.hop ++ put8 a.repeats ++ put8 a.lastCount ++ put16? d ++ put8 s.ppu.fix.toNat

/-- READ-ALARM of index 255: the own alarm as the host sees it; that of QUIET while the covert flag is set (R178). Repeats made
are shown as they are held, in QUIET those of the last alarm (assumption 32). -/
def State.ownAlarmResult (s : State) : List Byte :=
  let repeatAt := if s.ret.covert then none else s.emu.repeatAt
  put8 s.visibleAlarm ++ put8 s.ret.serial ++ put8 (if s.ret.covert then 0 else s.emu.repeats)
    ++ putFlags [repeatAt.isSome] ++ put16? (repeatAt.map s.msUntil)

end Sys2Proof.Machine
end

