-- ==== Sys2Proof/Machine/ActsConfig.lean ====
section
/-! DEFINITION. What the commands accepted in CONFIG and in any state do once they execute (R55, R113, R114, R186, R187, R190, R191, R47). -/

namespace Sys2Proof.Machine

/-- A command's act: the state after it, and its result bytes, the completion code first (R183, R184). -/
abbrev Act := State → State × List Byte

/-- A refusal: one completion code, and nothing in the part is changed (R184). -/
def refuse (c : Completion) : Act := fun s => (s, [c.code])

/-- OK with result bytes (R184). -/
def done (s : State) (bytes : List Byte) : State × List Byte := (s, Completion.ok.code :: bytes)

/-! ## CONFIGURE (R186) -/

/-- A field whose default bit is set is taken at its default, otherwise as sent. -/
def orDefault (defaults : Byte) (bit dflt sent : Nat) : Nat := if defaults.getLsbD bit then dflt else sent

/-- The station values of a CONFIGURE, defaults filled in (R186). -/
def stationOf (stationId : BitVec 16) (fleet home vclass bidMode defaults : Byte) (maxDist : BitVec 16)
    (penalty idleCap beacon : Byte) (cancelCode duressCode : BitVec 16) (covertSign : Byte) : Station where
  id := stationId.toNat
  fleet := fleet.toNat
  home := home.toNat
  vclass := vclass.toNat
  bidMode := if bidMode == 1 then .confirm else .auto
  maxDist := orDefault defaults 0 500 maxDist.toNat
  penalty := orDefault defaults 1 20 penalty.toNat
  idleCap := orDefault defaults 2 40 idleCap.toNat
  beacon := orDefault defaults 3 30 beacon.toNat
  cancelCode := cancelCode.toNat
  duressCode := duressCode.toNat
  covertSign := covertSign == 1

/-- The ranges of R186 on the values as taken; the bid mode, defaults and covert sign bytes are judged as sent. -/
def Station.inRange (c : Station) : Bool :=
  isCab c.id && 1 ≤ c.fleet && c.fleet ≤ 254 && c.home ≤ 31 && c.vclass ≤ 3 && 10 ≤ c.beacon && c.beacon ≤ 120
    && c.cancelCode ≤ 9999 && c.duressCode ≤ 9999 && c.cancelCode != c.duressCode

/-- CONFIGURE (R186); the flash request follows the covert sign enable at once (R163). -/
def actConfigure (c : Station) (bidMode defaults covertSign : Byte) : Act := fun s =>
  if c.inRange && bidMode.toNat ≤ 1 && defaults.toNat < 16 && covertSign.toNat ≤ 1 then
    done (s.setCpt { s.cpt with config := some c }).flashUpdate []
  else refuse .range s

/-! ## LOAD-ZONE (R55) -/

/-- The neighbour array: the first byte holds zones 0..7, bit 0 for zone 0 (R55). -/
def neighbourSet : List Byte → BitVec 64
  | [] => 0
  | b :: l => b.setWidth 64 ||| (neighbourSet l <<< 8)

/-- The zone the bytes after the length byte describe (R55). -/
def zoneOfBytes (b : List Byte) : Zone where
  eastMin := at16 b 1
  eastMax := at16 b 3
  northMin := at16 b 5
  northMax := at16 b 7
  surcharge := at8 b 9
  neighbours := neighbourSet (b.drop 10)

/-- LOAD-ZONE (R55). -/
def actLoadZone (b : List Byte) : Act := fun s =>
  let z := zoneOfBytes b
  if 10 ≤ b.length && b.length ≤ 18 && at8 b 0 ≤ 63 && z.eastMin ≤ z.eastMax && z.northMin ≤ z.northMax
      && z.surcharge ≤ 3 then
    done (s.setPpu { s.ppu with zones := slotPut s.ppu.zones (at8 b 0) z }) []
  else refuse .range s

/-! ## Meter figures (R112 to R114) -/

/-- The figures of a tariff are in range (R112). -/
def Tariff.inRange (t : Tariff) : Bool :=
  1 ≤ t.incAmount && t.incAmount ≤ 9999 && 10 ≤ t.incDist && t.incDist ≤ 9999 && 1 ≤ t.incTime && t.incTime ≤ 999
    && t.n0 ≤ 99

/-- The Dp of a tariff under a held k does not exceed 65535; without k it is not tested (R113). -/
def Tariff.dpOk (k : Option Nat) (t : Tariff) : Bool :=
  match k with
  | some k => pulsesPerIncrement t.incDist k ≤ dpMax
  | none => true

/-- LOAD-TARIFF, with TPROT as read at the command (R113). -/
def actLoadTariff (slot : Nat) (t : Tariff) : Act := fun s =>
  if !s.pins.tprotOpen then refuse .protected_ s
  else if 1 ≤ slot && slot ≤ 8 && t.inRange && t.dpOk s.ret.k then
    done (s.setRet { s.ret with tariffs := slotPut s.ret.tariffs (slot - 1) t }) []
  else refuse .range s

/-- LOAD-SURCHARGE (R114). -/
def actLoadSurcharge (index amount : Nat) : Act := fun s =>
  if !s.pins.tprotOpen then refuse .protected_ s
  else if 1 ≤ index && index ≤ 3 then
    done (s.setRet { s.ret with surcharges := s.ret.surcharges.set (index - 1) amount }) []
  else refuse .range s

/-- SET-PULSE-CONSTANT: k is written and both distance remainders are set to 0 (R114). -/
def actSetPulse (k : Nat) : Act := fun s =>
  if !s.pins.tprotOpen then refuse .protected_ s
  else if 500 ≤ k && k ≤ 65000 && (slotEntries s.ret.tariffs).all (·.dpOk (some k)) then
    done (s.setRet { s.ret with k := some k, totalRem := 0, trip := s.ret.trip.map fun t => { t with rem := 0 } }) []
  else refuse .range s

/-! ## GO (R187) -/

/-- The CAU at GO: the idle reference or the 2000 ms measure, by the level of CD (R22, R28). -/
def State.cauGo (s : State) : State :=
  s.setCau { s.cau with
    idleRef := if s.pins.cd then none else some s.now
    blockedAt := if s.pins.cd then some (s.now + 2000 * ms) else none }

/-- The TTL at GO: START with the retained-lost flag, which is cleared (R142). -/
def State.startEvent (s : State) : State :=
  let s' := s.raiseEvent .start 0 s.ret.retainedLost.toNat
  if s.ret.retainedLost then s'.setRet { s'.ret with retainedLost := false } else s'

/-- The part state becomes RUN and every block starts as its chapter states (R187). -/
def State.goRun (s : State) : State :=
  ((((s.setCpt { s.cpt with part := .run, goTime := s.now }).cauGo).resumeHunt.firstBeacon).startEvent).alarmGo

/-- GO (R187). -/
def actGo : Act := fun s => if s.cpt.config.isSome then done s.goRun [] else refuse .state s

/-! ## Any state (R190, R191, R47) -/

/-- SENSE-EVENT: the oldest entry is removed and the overflow flag cleared (R190). -/
def actSense : Act := fun s =>
  done (s.setCpt { s.cpt with events := s.cpt.events.tail, overflow := false })
    (eventResult s.cpt.events.head? s.cpt.overflow s.cpt.events.tail.length)

/-- READ-STATUS (R191). -/
def actReadStatus : Act := fun s => done s s.statusResult

/-- READ-CHANNEL-STATS (R47). -/
def actReadStats : Act := fun s => done s s.rru.stats.result

end Sys2Proof.Machine
end

