-- ==== Sys2Proof/Machine/ActsCab.lean ====
section
/-! DEFINITION. What the operating commands of the position unit, the fare engine and the totals do (R50, R51, R65, R108, R117 to R128, R131, R137, R138, R144). -/

namespace Sys2Proof.Machine

/-! ## Position and peers -/

/-- SET-POSITION (R50, R51). -/
def actSetPosition (p : Point) (fix : Nat) : Act := fun s =>
  if fix == 1 then done (s.validFix p) (s.validFix p).positionResult
  else if fix == 0 then done s.invalidFix s.invalidFix.positionResult
  else refuse .range s

/-- READ-PEER (R65). -/
def actReadPeer (slot : Nat) : Act := fun s =>
  if 31 < slot then refuse .range s
  else
    match slotGet s.ppu.peers slot with
    | some p => done s (s.peerResult p)
    | none => refuse .notFound s

/-! ## Driver status and trips -/

/-- The driver status is set; the idle timer and the availability follow (R88, R108). -/
def State.setDriver (s : State) (d : DriverStatus) : State := ((s.setFre { s.fre with driver := d }).idleUpdate).recompute

/-- SET-DRIVER-STATUS (R108). -/
def actSetDriver (status : Nat) : Act := fun s =>
  match DriverStatus.ofCode status with
  | none => refuse .range s
  | some d => if d == .available && !s.ret.shiftOpen then refuse .state s else done (s.setDriver d) []

/-- The trip record HIRE writes (R116, R117). -/
def newTrip (tariff : Nat) (t : Tariff) (k shiftTime : Nat) : Trip where
  tariff := tariff
  flagFall := t.flagFall
  incAmount := t.incAmount
  incTime := t.incTime
  n0 := t.n0
  dp := pulsesPerIncrement t.incDist k
  theta := pulsesPerIncrement t.incDist k * t.incTime
  acc := 0
  units := 0
  bucket := 0
  dist := 0
  rem := 0
  hiredS := 0
  heldS := 0
  applied := 0
  surchSum := 0
  extras := []
  flags := ⟨false, false, false, false⟩
  hireTime := shiftTime
  stopTime := none
  jobKey := none

/-- Change the trip in progress, when there is one. -/
def State.modTrip (s : State) (f : Trip → Trip) : State := s.setRet { s.ret with trip := s.ret.trip.map f }

/-- The board is told of a HIRE from ON-CALL, and its key goes into the trip (R103, R117). -/
def State.hireNotice (s : State) : State :=
  let r := s.hireBoard
  r.1.modTrip fun t => { t with jobKey := r.2 }

/-- The trip starts: record, fare state, job key, surcharge test, second timer, availability (R117). -/
def State.startTrip (s : State) (t : Trip) : State :=
  let s' := s.setRet { s.ret with fare := .hired, trip := some t }
  let s' := if s.ret.fare == .onCall then s'.hireNotice else s'
  (s'.idleUpdate.surchargeTest.startSecond).recompute

/-- The fare states, the alarm state and the shift state that bar a HIRE (R117). -/
def State.hireBarred (s : State) : Bool :=
  s.ret.fare == .hired || s.ret.fare == .held || s.ret.fare == .total || s.ret.alarm == .alerting || !s.ret.shiftOpen

/-- HIRE (R117). -/
def actHire (tariff : Nat) : Act := fun s =>
  if tariff < 1 || 8 < tariff then refuse .range s
  else if s.hireBarred then refuse .state s
  else
    match s.tariffSlot tariff, s.ret.k with
    | some t, some k => done (s.startTrip (newTrip tariff t k s.ret.shiftTime)) []
    | _, _ => refuse .range s

/-- The total of the trip in progress (R121). -/
def State.tripTotal (s : State) : Nat := (s.ret.trip.map (·.total)).getD 0

/-- The end of a STOP: timer stopped, stop time written, fare state TOTAL (R123). -/
def State.stopTrip (s : State) : State :=
  ((s.stopSecond).modTrip fun t => { t with stopTime := some s.ret.shiftTime }).setFare .total

/-- STOP (R123). -/
def actStop : Act := fun s =>
  match s.ret.fare, s.ret.trip with
  | .hired, some t =>
    let s' := (s.setEarned t (t.settlePart s.partSecond)).stopTrip
    done s' (put32 s'.tripTotal)
  | .held, some t =>
    let s' := (s.setTrip (t.addHeld s.partSecond)).stopTrip
    done s' (put32 s'.tripTotal)
  | _, _ => refuse .state s

/-- The trip continues: HELD while ALERTING, otherwise HIRED (R124). -/
def State.resumeTrip (s : State) : State :=
  let s' := s.setRet { s.ret with
    fare := if s.ret.alarm == .alerting then .held else .hired
    trip := s.ret.trip.map fun t => { t with bucket := 0 } }
  (s'.startSecond.surchargeTest).recompute

/-- RESUME (R124). -/
def actResume : Act := fun s => if s.ret.fare == .total then done s.resumeTrip [] else refuse .state s

/-- The finished trip as the TTL's record, under a trip number (R125, R130). -/
def Trip.record (t : Trip) (number payment : Nat) : TripRecord where
  number := number
  tariff := t.tariff
  hireTime := t.hireTime
  stopTime := t.stopTime.getD 0
  dist := t.dist
  hiredS := t.hiredS
  heldS := t.heldS
  meter := t.meter
  surcharges := t.surchSum
  extras := t.extras.sum
  extraCount := t.extras.length
  total := t.total
  payment := payment
  jobKey := t.jobKey
  flags := t.flags

/-- The trip is settled: booked, a TALLY built, the trip absent and the fare state VACANT (R125, R136). -/
def State.settleTrip (s : State) (r : TripRecord) : State :=
  let s := (s.bookTrip r).tallyIfHome
  (s.setRet { s.ret with trip := none }).setFare .vacant

/-- SETTLE (R125). -/
def actSettle (payment : Nat) : Act := fun s =>
  if 2 < payment then refuse .range s
  else
    match s.ret.fare, s.ret.trip with
    | .total, some t =>
      let number := nextTrip s.ret.tripCounter
      done (s.settleTrip (t.record number payment)) (put16 number)
    | _, _ => refuse .state s

/-- The fare state admits an extra (R122). -/
def FareState.running (f : FareState) : Bool := f == .hired || f == .held || f == .total

/-- ADD-EXTRA (R122). -/
def actAddExtra (amount : Nat) : Act := fun s =>
  if amount < 1 || 9999 < amount then refuse .range s
  else if !s.ret.fare.running then refuse .state s
  else
    match s.ret.trip with
    | none => refuse .state s
    | some t =>
      if 8 ≤ t.extras.length then refuse .limit s
      else
        let s' := s.setPriced { t with extras := t.extras ++ [amount] }
        done s' (put32 s'.tripTotal)

/-- READ-FARE (R128). -/
def actReadFare : Act := fun s => done s s.fareResult

/-! ## Shift and trip log -/

/-- The shift opens: shift totals and shift time 0, the shift clock started, the fare engine told (R137). -/
def State.openShift (s : State) : State :=
  let s := s.setRet { s.ret with shift := .zero, shiftTime := 0, shiftOpen := true }
  (s.setTtl { s.ttl with shiftTickAt := some (s.now + 1000 * ms) }).recompute

/-- START-SHIFT (R137). -/
def actStartShift : Act := fun s =>
  if s.ret.fare != .vacant || s.ret.shiftOpen || s.shiftEndTally then refuse .state s else done s.openShift []

/-- The shift closes: the shift clock stops, the fare engine is told, and a shift-end TALLY is built (R138). -/
def State.closeShift (s : State) : State :=
  let s := s.setRet { s.ret with shiftOpen := false }
  ((s.setTtl { s.ttl with shiftTickAt := none }).recompute).tallyIfHome

/-- END-SHIFT (R138). -/
def actEndShift : Act := fun s =>
  if s.ret.fare != .vacant || !s.ret.shiftOpen then refuse .state s else done s.closeShift []

/-- READ-TOTALS (R144). -/
def actReadTotals : Act := fun s => done s s.ret.totalsResult

/-- READ-TRIP (R131). -/
def actReadTrip (n : Nat) : Act := fun s =>
  if 15 < n then refuse .range s
  else
    match s.ret.tripLog[n]? with
    | some r => done s r.result
    | none => refuse .notFound s

end Sys2Proof.Machine
end

