-- ==== Sys2Proof/Machine/ActsNet.lean ====
section
/-! DEFINITION. What the operating commands of the offer board, the note store and the emergency unit do (R80 to R84, R150 to R160, R166, R170, R178). -/

namespace Sys2Proof.Machine

/-! ## Offers -/

/-- READ-OFFER (R80). -/
def actReadOffer (slot : Nat) : Act := fun s =>
  if slot == 255 then done s s.ofb.summary
  else if 15 < slot then refuse .range s
  else
    match slotGet s.ofb.slots slot with
    | some e => done s (s.offerResult slot e)
    | none => refuse .notFound s

/-- The three criteria of SCAN-OFFERS (R81). -/
def BoardEntry.scanned (e : BoardEntry) (mask : BitVec 24) (maxScore zone : Nat) : Bool :=
  mask.getLsbD e.state.code && (maxScore == 1023 || (e.score.map fun n => decide (n ≤ maxScore)).getD false)
    && (zone == 255 || zone == e.zone)

/-- The first slot of a scan whose record has the property, with the record (R81, R154). -/
def scanSlots (l : List (Option α)) (start : Nat) (p : α → Bool) : Option (Nat × α) :=
  (scanOrder start l.length).findSome? fun i => ((slotGet l i).filter p).map fun x => (i, x)

/-- SCAN-OFFERS (R81). -/
def actScanOffers (start : Nat) (mask : BitVec 24) (maxScore zone : Nat) : Act := fun s =>
  if 15 < start || 2 ^ 17 ≤ mask.toNat || 1023 < maxScore then refuse .range s
  else
    match scanSlots s.ofb.slots start (·.scanned mask maxScore zone) with
    | some (i, e) => done s (s.offerResult i e)
    | none => refuse .notFound s

/-- The entry as accepted now: accept time, and the later of it and the computed claim point (R82, R89). -/
def BoardEntry.accepted (e : BoardEntry) (now : Nat) : BoardEntry :=
  { e with acceptTime := some now, claimPoint := some (max now e.computedPoint) }

/-- An OPEN entry is accepted for the first time; when its computed claim point has already passed it claims in the same act
(R82, R90). At that instant itself the claim point is due, beside the latest claim point when the two are one (R92).
DEDUCED: the same holds when the command comes together with the latest claim point and is taken first. A computed point that
lies before that instant makes the entry claim in this act (R90), where R82 also says that the latest claim point then finds it
OPEN and accepted. It is the model's choice (assumption 34). -/
def State.acceptEntry (s : State) (slot : Nat) (e : BoardEntry) : State :=
  if e.computedPoint < s.now then s.claim slot (e.accepted s.now) else s.putEntry slot (e.accepted s.now)

/-- ACCEPT-OFFER (R82). -/
def actAcceptOffer (slot : Nat) : Act := fun s =>
  if 15 < slot then refuse .range s
  else
    match slotGet s.ofb.slots slot with
    | none => refuse .notFound s
    | some e =>
      if s.bidMode == .auto then refuse .state s
      else if e.state == .opened then
        if e.acceptTime.isSome then done s [] else done (s.acceptEntry slot e) []
      else if e.state == .unanswered then refuse .tooLate s
      else refuse .state s

/-- The entry passed by the driver: WATCH with reason PASSED, its claim mark cleared (R83). DEDUCED: its own score stays, as in
`BoardEntry.toWatch` (R70, R87). It is the model's choice (assumption 33). -/
def BoardEntry.pass (e : BoardEntry) : BoardEntry := { e with state := .watch, reason := some .passed, claimMark := none }

/-- PASS-OFFER (R83). -/
def actPassOffer (slot : Nat) : Act := fun s =>
  if 15 < slot then refuse .range s
  else
    match slotGet s.ofb.slots slot with
    | none => refuse .notFound s
    | some e =>
      if e.state == .opened || e.state == .claimPending then done ((s.putEntry slot e.pass).dropClaim e) []
      else refuse .state s

/-- RELEASE-JOB (R84). -/
def actReleaseJob (reason : Nat) : Act := fun s =>
  if 1 < reason then refuse .range s
  else
    match s.jobEntry with
    | some (slot, e) => done (s.dropJob slot e (if reason == 0 then .noShow else .declined)) []
    | none => refuse .state s

/-! ## Notes -/

/-- The fields of a POST-NOTE after its length byte (R156): the flags byte is laid out as in the NOTE body (assumption 18). -/
structure Posted where
  dest : Nat
  flags : Nat
  base : Nat
  job : Nat
  n : Nat
  text : List Byte
  deriving DecidableEq, Repr

/-- Take the fields of a POST-NOTE apart. -/
def postedOf (b : List Byte) : Posted where
  dest := at16 b 0
  flags := at8 b 2
  base := at16 b 3
  job := at16 b 5
  n := at8 b 7
  text := (b.drop 8).take (at8 b 7)

/-- The job reference flag of a POST-NOTE. -/
def Posted.hasRef (p : Posted) : Bool := p.flags.testBit 2

/-- Step 1 of R156 on the fields and the number the length byte states. -/
def State.postOk (s : State) (p : Posted) (length : Nat) : Bool :=
  length == 8 + 2 * textWords p.n && 1 ≤ p.n && p.n ≤ 40 && 1 ≤ p.dest && p.dest ≤ 4095 && p.dest != s.ownId
    && p.flags < 8 && (!p.hasRef || isBase p.base) && p.text.all printable

/-- The record POST-NOTE writes (R156); it is QUEUED or PENDING when the queue has answered. -/
def Posted.record (p : Posted) (id : Nat) : OutNote where
  dest := p.dest
  id := id
  wanted := p.flags.testBit 0
  urgent := p.flags.testBit 1
  key := if p.hasRef then some ⟨p.base, p.job⟩ else none
  text := p.text
  made := 0
  retryAt := none
  mark := none
  state := .queued
  termTime := none

/-- The note is posted: id given, record written, NOTE offered (R155, R156). -/
def State.postNote (s : State) (slot : Nat) (p : Posted) : State :=
  let s' := s.nextDraw.setRet { s.ret with noteId := next8 s.ret.noteId }
  (s'.putOut slot (p.record s.ret.noteId)).offer (.note slot)

/-- POST-NOTE (R156). -/
def actPostNote (b : List Byte) : Act := fun s =>
  let p := postedOf b
  if !s.postOk p b.length then refuse .range s
  else
    match s.outboxSlot with
    | none => refuse .full s
    | some slot => done (s.postNote slot p) (put8 slot ++ put8 s.ret.noteId)

/-- READ-NOTE (R153). -/
def actReadNote (slot word : Nat) : Act := fun s =>
  if 11 < slot || 19 < word then refuse .range s
  else
    match slotGet s.nts.inbox slot with
    | some r => done s (s.noteResult r word)
    | none => refuse .notFound s

/-- The three criteria of SCAN-NOTES (R154). -/
def InNote.scanned (r : InNote) (mask urgentOnly origin : Nat) : Bool :=
  mask.testBit r.state.code && (urgentOnly == 0 || r.urgent) && (origin == 0 || origin == r.origin)

/-- SCAN-NOTES (R154). -/
def actScanNotes (start mask urgentOnly origin : Nat) : Act := fun s =>
  if 11 < start || 7 < mask || 1 < urgentOnly || 4094 < origin then refuse .range s
  else
    match scanSlots s.nts.inbox start (·.scanned mask urgentOnly origin) with
    | some (i, r) => done s (put8 i ++ s.noteHead r 0 0)
    | none => refuse .notFound s

/-- A note is marked read; a READ receipt is offered when the note asks this cab for one (R150). -/
def State.markNote (s : State) (slot : Nat) (r : InNote) : State :=
  let s := s.putIn slot { r with state := .read }
  if !r.toAll && r.wanted then s.sendReceipt .read r.origin r.id else s

/-- MARK-READ (R150). -/
def actMarkRead (slot : Nat) : Act := fun s =>
  if 11 < slot then refuse .range s
  else
    match slotGet s.nts.inbox slot with
    | none => refuse .notFound s
    | some r =>
      match r.state with
      | .unread => done (s.markNote slot r) []
      | .read => done s []
      | .deleted => refuse .state s

/-- DELETE-NOTE (R151). -/
def actDeleteNote (slot : Nat) : Act := fun s =>
  if 11 < slot then refuse .range s
  else
    match slotGet s.nts.inbox slot with
    | none => refuse .notFound s
    | some r =>
      if r.state == .deleted then done s []
      else done (s.putIn slot { r with state := .deleted, delReason := some .host }) []

/-- READ-OUTBOX (R160). -/
def actReadOutbox (slot : Nat) : Act := fun s =>
  if slot == 255 then done s s.notesSummary
  else if 3 < slot then refuse .range s
  else
    match slotGet s.nts.outbox slot with
    | some r => done s (s.outResult r)
    | none => refuse .notFound s

/-- The outbox with every terminal record freed (R160). -/
def clearedOutbox (l : List (Option OutNote)) : List (Option OutNote) := l.map fun r => r.filter (·.state.live)

/-- CLEAR-OUTBOX (R160). -/
def actClearOutbox : Act := fun s =>
  done (s.setNts { s.nts with outbox := clearedOutbox s.nts.outbox })
    (put8 ((slotEntries s.nts.outbox).filter fun r => !r.state.live).length)

/-! ## Alarms -/

/-- RAISE-ALARM (R166). -/
def actRaiseAlarm : Act := fun s =>
  if s.ret.alarm == .quiet then done s.enterAlerting (put8 s.enterAlerting.ret.serial) else refuse .state s

/-- The cancel code of the last accepted CONFIGURE. -/
def State.isCancel (s : State) (code : Nat) : Bool := (s.cpt.config.map (·.cancelCode)) == some code

/-- The duress code of the last accepted CONFIGURE. -/
def State.isDuress (s : State) (code : Nat) : Bool := (s.cpt.config.map (·.duressCode)) == some code

/-- The outcome of an accepted code: the cancel code ends the alarm, the duress code makes an open one covert (R170). -/
def State.codeGiven (s : State) (code : Nat) : State :=
  if s.isCancel code then s.enterEnding
  else if s.ret.alarm == .alerting then s.enterCovert
  else s

/-- CANCEL-ALARM (R170). -/
def actCancelAlarm (code : Nat) : Act := fun s =>
  if 9999 < code then refuse .range s
  else if s.ret.alarm != .alerting && s.ret.alarm != .covert then refuse .state s
  else if s.isCancel code || s.isDuress code then done (s.codeGiven code) (put8 (s.codeGiven code).visibleAlarm)
  else refuse .badCode s

/-- READ-ALARM (R178). -/
def actReadAlarm (index : Nat) : Act := fun s =>
  if index == 255 then done s s.ownAlarmResult
  else if 3 < index then refuse .range s
  else
    match slotGet s.emu.table index with
    | some a => done s (s.alarmResult index a)
    | none => refuse .notFound s

end Sys2Proof.Machine
end

