-- ==== Sys2Proof/Machine/Resets.lean ====
section
/-! DEFINITION. Resets and the supplies (R11, R129, R141 to R143, R173, R188), each block taking the state of its chapter. -/

namespace Sys2Proof.Machine

/-! ## Recovery of the retained state (R129, R173) -/

/-- A trip found HIRED or HELD at a reset: INTERRUPTED, bucket discarded, stop time written unless one is held (R129). -/
def Trip.interrupt (t : Trip) : Trip :=
  { t with
    bucket := 0
    flags := { t.flags with interrupted := true }
    stopTime := some (t.stopTime.getD (min cap32 (t.hireTime + t.hiredS + t.heldS))) }

/-- The fare engine's part of the store after the recovery (R129). -/
def Retained.recoverFare (r : Retained) : Retained :=
  match r.fare with
  | .hired => { r with fare := .total, trip := r.trip.map (·.interrupt) }
  | .held => { r with fare := .total, trip := r.trip.map (·.interrupt) }
  | .onCall => { r with fare := .vacant }
  | _ => r

/-- The emergency unit's part of the store after the recovery: ARMING returns as QUIET (R173). -/
def Retained.recoverAlarm (r : Retained) : Retained :=
  if r.alarm == .arming then { r with alarm := .quiet } else r

/-- The store after the recoveries of its owners (R129, R143, R173). -/
def Retained.recover (r : Retained) : Retained := r.recoverFare.recoverAlarm

/-! ## The reset (R11, R188) -/

/-- Every block at the value of its chapter, before the fare engine computes an availability; the level of PANIC in force is
the level of the pin, and a transaction in progress is muted (R30, R48, R69, R86, R129, R143, R161, R164, R173, R188). -/
def State.volatileReset (s : State) : State :=
  { s with
    cau := .reset
    rru := .reset
    ppu := .reset
    ofb := .reset
    fre := .reset
    ttl := ⟨none, if s.ret.shiftOpen then some (s.now + 1000 * ms) else none⟩
    nts := .reset
    emu := .reset s.pins.panicLow
    cpt := .reset s.pins.csnLow }

/-- A reset of a powered part: recovery of the store, every block reset, the first availability computed and notified (R129). -/
def State.resetPart (s : State) : State := (s.setRet s.ret.recover).volatileReset.recompute

/-- The level of PANIC that a reset row finds on the pin (R164; assumption 13). -/
def State.samplePanic (s : State) (panicLow : Bool) : State :=
  if panicLow != s.pins.panicLow then s.panicPin panicLow else s

/-! ## The supplies (R141, R142) -/

/-- The store is bad: its check word is not that of its content, or both supplies have been absent (R141). -/
def State.storeBad (s : State) : Bool := s.storeLost || s.check != storeCheck s.ret

/-- The store check at power-on: a bad store is cleared, with the retained-lost flag set and a fresh check word (R142). -/
def State.checkStore (s : State) : State :=
  if s.storeBad then { (s.setRet .cleared) with storeLost := false } else s

/-- The main supply comes up (R142). -/
def State.powerUp (s : State) : State := ({ s.checkStore with powered := true }).resetPart

/-- The main supply fails: all volatile state is lost; the store is lost with it when VBK is absent too (R141). -/
def State.powerDown (s : State) (vbk : Bool) : State :=
  { s.volatileReset with
    powered := false
    storeLost := s.storeLost || !vbk
    ttl := .reset }

end Sys2Proof.Machine
end

