-- ==== Sys2Proof/Machine/Port.lean ====
section
/-! DEFINITION. The command port: phases, bytes and transactions (R179 to R185), and the decoding of collected bytes (R192). -/

namespace Sys2Proof.Machine

/-! ## Execution (R183, R185) -/

/-- The three groups of R185. -/
inductive CmdGroup where
  | config | any | operating
  deriving DecidableEq, Repr

/-- The part states that accept a group (R185). -/
def CmdGroup.accepts (g : CmdGroup) (p : PartState) : Bool :=
  match g with
  | .config => p == .config
  | .any => true
  | .operating => p == .run

/-- The port enters EXEC with the command buffer taken (R183). -/
def Cpt.enterExec (c : Cpt) : Cpt := { c with phase := .exec, code := 0, params := [], abandonAt := none }

/-- The port enters RESULT with a result buffer (R183). -/
def Cpt.enterResult (c : Cpt) (result : List Byte) : Cpt := { c with phase := .result, result := result }

/-- A command executes: the part state is judged first, then its block acts, and the answer fills the result buffer (R183, R185). -/
def State.runAct (s : State) (g : CmdGroup) (act : Act) : State :=
  let s := s.setCpt s.cpt.enterExec
  let r := if g.accepts s.cpt.part then act s else refuse .state s
  r.1.setCpt (r.1.cpt.enterResult r.2)

/-! ## Command codes (R192) -/

/-- The parameter bytes of a command: a fixed number, or a length byte and as many as it states (R182). -/
inductive ParamShape where
  | fixed (n : Nat)
  | counted
  deriving DecidableEq, Repr

/-- The command codes with their parameter bytes (R192). -/
def commandTable : List (Nat × ParamShape) :=
  [(0x01, .fixed 17), (0x02, .counted), (0x03, .fixed 10), (0x04, .fixed 3), (0x05, .fixed 2), (0x0F, .fixed 0),
   (0x10, .fixed 0), (0x11, .fixed 0), (0x12, .fixed 0), (0x13, .fixed 0),
   (0x20, .fixed 5), (0x21, .fixed 1), (0x22, .fixed 1),
   (0x30, .fixed 1), (0x31, .fixed 7), (0x32, .fixed 1), (0x33, .fixed 1), (0x34, .fixed 1),
   (0x40, .fixed 1), (0x41, .fixed 0), (0x42, .fixed 0), (0x43, .fixed 1), (0x44, .fixed 2), (0x45, .fixed 0),
   (0x46, .fixed 0), (0x47, .fixed 0), (0x48, .fixed 0), (0x49, .fixed 1),
   (0x50, .counted), (0x51, .fixed 2), (0x52, .fixed 5), (0x53, .fixed 1), (0x54, .fixed 1), (0x55, .fixed 1),
   (0x56, .fixed 0), (0x60, .fixed 0), (0x61, .fixed 2), (0x62, .fixed 1)]

/-- The parameter bytes of a code; none for a code that names no command (R181). -/
def shapeOf (code : Byte) : Option ParamShape := commandTable.lookup code.toNat

/-- The collected bytes are all that the command takes (R182). -/
def ParamShape.complete (sh : ParamShape) (p : List Byte) : Bool :=
  match sh with
  | .fixed n => p.length == n
  | .counted => 1 ≤ p.length && p.length == 1 + at8 p 0

/-- The parameter byte at offset i. -/
def pb (p : List Byte) (i : Nat) : Byte := p.getD i 0

/-- The two-byte parameter at offset i, high byte first (R192). -/
def pw (p : List Byte) (i : Nat) : BitVec 16 := pb p i ++ pb p (i + 1)

/-- The two bytes of a two-byte parameter, high byte first (R192). -/
def wordBytes (w : BitVec 16) : List Byte := [w.extractLsb' 8 8, w.extractLsb' 0 8]

/-- The group and the act of a command code with its parameter bytes (R185, R192). RESTART is not among them: it has no result. -/
def actOf (code : Nat) (p : List Byte) : Option (CmdGroup × Act) :=
  match code with
  | 0x01 =>
    some (.config, actConfigure
      (stationOf (pw p 0) (pb p 2) (pb p 3) (pb p 4) (pb p 5) (pb p 6) (pw p 7) (pb p 9) (pb p 10) (pb p 11) (pw p 12)
        (pw p 14) (pb p 16)) (pb p 5) (pb p 6) (pb p 16))
  | 0x02 => some (.config, actLoadZone p.tail)
  | 0x03 => some (.config, actLoadTariff (at8 p 0) ⟨at16 p 1, at16 p 3, at16 p 5, at16 p 7, at8 p 9⟩)
  | 0x04 => some (.config, actLoadSurcharge (at8 p 0) (at16 p 1))
  | 0x05 => some (.config, actSetPulse (at16 p 0))
  | 0x0F => some (.config, actGo)
  | 0x10 => some (.any, actSense)
  | 0x11 => some (.any, actReadStatus)
  | 0x13 => some (.any, actReadStats)
  | 0x20 => some (.operating, actSetPosition ⟨at16 p 0, at16 p 2⟩ (at8 p 4))
  | 0x21 => some (.operating, actSetDriver (at8 p 0))
  | 0x22 => some (.operating, actReadPeer (at8 p 0))
  | 0x30 => some (.operating, actReadOffer (at8 p 0))
  | 0x31 => some (.operating, actScanOffers (at8 p 0) (pb p 1 ++ pb p 2 ++ pb p 3) (at16 p 4) (at8 p 6))
  | 0x32 => some (.operating, actAcceptOffer (at8 p 0))
  | 0x33 => some (.operating, actPassOffer (at8 p 0))
  | 0x34 => some (.operating, actReleaseJob (at8 p 0))
  | 0x40 => some (.operating, actHire (at8 p 0))
  | 0x41 => some (.operating, actStop)
  | 0x42 => some (.operating, actResume)
  | 0x43 => some (.operating, actSettle (at8 p 0))
  | 0x44 => some (.operating, actAddExtra (at16 p 0))
  | 0x45 => some (.operating, actReadFare)
  | 0x46 => some (.operating, actStartShift)
  | 0x47 => some (.operating, actEndShift)
  | 0x48 => some (.operating, actReadTotals)
  | 0x49 => some (.operating, actReadTrip (at8 p 0))
  | 0x50 => some (.operating, actPostNote p.tail)
  | 0x51 => some (.operating, actReadNote (at8 p 0) (at8 p 1))
  | 0x52 => some (.operating, actScanNotes (at8 p 0) (at8 p 1) (at8 p 2) (at16 p 3))
  | 0x53 => some (.operating, actMarkRead (at8 p 0))
  | 0x54 => some (.operating, actDeleteNote (at8 p 0))
  | 0x55 => some (.operating, actReadOutbox (at8 p 0))
  | 0x56 => some (.operating, actClearOutbox)
  | 0x60 => some (.operating, actRaiseAlarm)
  | 0x61 => some (.operating, actCancelAlarm (at16 p 0))
  | 0x62 => some (.operating, actReadAlarm (at8 p 0))
  | _ => none

/-- A collected command executes. RESTART resets the part and has no result phase (R188). -/
def State.runCommand (s : State) (code : Byte) (p : List Byte) : State :=
  if code == 0x12 then s.resetPart
  else
    match actOf code.toNat p with
    | some a => s.runAct a.1 a.2
    | none => s.setCpt (s.cpt.enterExec.enterResult [Completion.invalid.code])

/-! ## Bytes (R179 to R184) -/

/-- The part sends the status byte, sampled now (R179, R180). -/
def State.sendStatus (s : State) : State := s.setCpt { s.cpt with sdo := s.statusByte }

/-- Set PHASE-ERROR (R180). -/
def State.phaseErr (s : State) : State := s.setCpt { s.cpt with phaseError := true }

/-- PHASE-ERROR is set by a byte other than the null byte (R183, R184). -/
def State.discard (s : State) (b : Byte) : State := if b == 0 then s else s.phaseErr

/-- The abandonment time: 100 ms from now (R182). -/
def State.abandonTime (s : State) : Nat := s.now + 100 * ms

/-- The port collects parameters of a code; PHASE-ERROR is cleared by the known code (R181, R182). -/
def State.enterParam (s : State) (code : Byte) : State :=
  s.setCpt { s.cpt with phase := .param, code := code, params := [], phaseError := false, abandonAt := some s.abandonTime }

/-- A host byte in READY (R181). -/
def State.readyByte (s : State) (b : Byte) : State :=
  if b == 0 then s
  else
    match shapeOf b with
    | none => s.setCpt (s.cpt.enterResult [Completion.invalid.code])
    | some (.fixed 0) => (s.setCpt { s.cpt with phaseError := false }).runCommand b []
    | some _ => s.enterParam b

/-- A host byte in PARAM (R182). -/
def State.paramByte (s : State) (b : Byte) : State :=
  let p := s.cpt.params ++ [b]
  if ((shapeOf s.cpt.code).map (·.complete p)).getD true then s.runCommand s.cpt.code p
  else s.setCpt { s.cpt with params := p, abandonAt := some s.abandonTime }

/-- A byte exchanged in RESULT: the first of a transaction sends the status byte, a later one the next result byte;
after the last the port is READY (R179, R184). -/
def State.resultByte (s : State) (first : Bool) (b : Byte) : State :=
  if first then s.sendStatus.discard b
  else
    match s.cpt.result with
    | [] => (s.setCpt { s.cpt with phase := .ready, result := [] }).discard b
    | r :: l =>
      (s.setCpt { s.cpt with sdo := r, result := l, phase := if l.isEmpty then .ready else .result }).discard b

/-- The level of CSN, low while a transaction is in progress (R179). -/
def State.setCsn (s : State) (low : Bool) : State := s.setPins { s.pins with csnLow := low }

/-- CSN rises: the transaction ends (R179), and with it the muting of one older than a reset (R188). -/
def State.csnRise (s : State) : State := (s.setCsn false).setCpt { s.cpt with muted := .off }

/-- CSN rises after a byte that is the last of its transaction (R179). -/
def State.afterByte (s : State) (last : Bool) : State := if last then s.csnRise else s

/-- A byte taken by the phase of the port (R179 to R184). -/
def State.phaseByte (s : State) (first : Bool) (b : Byte) : State :=
  match s.cpt.phase with
  | .ready => s.sendStatus.readyByte b
  | .param => s.sendStatus.paramByte b
  | .exec => s.sendStatus.discard b
  | .result => s.resultByte first b

/-- Eight clocks come while CSN is high: CSN has not fallen for them, and no transaction in progress at the last reset can hold
them (R179; assumption 12). -/
def State.clockedHigh (s : State) (first : Bool) : Bool := !first && !s.pins.csnLow && s.cpt.muted == .off

/-- One byte exchanged on the port with CSN low (R179, R188): `first` when CSN has fallen for it. A byte of a transaction that no
byte since the last reset has opened is discarded, and 0x00 sent for it. -/
def State.lowByte (s : State) (first : Bool) (b : Byte) : State :=
  let s := s.setCsn true
  if !s.powered then s
  else if !first && s.cpt.muted != .off then s.setCpt { s.cpt with muted := .on, sdo := 0 }
  else (s.setCpt { s.cpt with muted := .off }).phaseByte first b

/-- Eight clocks of SCLK with this byte on SDI: ignored while CSN is high, one byte exchanged while it is low (R179). -/
def State.hostByte (s : State) (first : Bool) (b : Byte) : State :=
  if s.clockedHigh first then s else s.lowByte first b

/-- The bytes after the first of a transaction. -/
def State.laterBytes (s : State) (l : List Byte) : State := l.foldl (fun s b => s.hostByte false b) s

/-- A transaction that carries these bytes, then CSN rises (R179). -/
def State.transaction (s : State) (l : List Byte) : State :=
  match l with
  | [] => s
  | b :: l => ((s.hostByte true b).laterBytes l).csnRise

/-! ## A whole command in a transaction of its own (assumption 9) -/

/-- The port as it stands when the last byte of a command has been collected: PHASE-ERROR cleared by the code, the status
byte last sent sampled in READY for a code alone and in PARAM otherwise (R179, R181). -/
def State.collected (s : State) (params : List Byte) : State :=
  let s := s.setCpt { s.cpt with muted := .off }
  if params.isEmpty then s.sendStatus.setCpt { s.sendStatus.cpt with phaseError := false }
  else
    let c := s.setCpt { s.cpt with phase := .param, phaseError := false }
    s.setCpt { s.cpt with sdo := c.statusByte, phaseError := false }

/-- A host command in a transaction of its own: a READY port collects it and runs its act, and CSN rises; in every other phase
its bytes are taken as the phase takes them. -/
def State.hostCommand (s : State) (code : Byte) (params : List Byte) (g : CmdGroup) (act : Act) : State :=
  if s.powered && s.cpt.phase == .ready then ((s.collected params).runAct g act).csnRise
  else s.transaction (code :: params)

/-- TPROT as read at a command (R113, R191; assumption 13). -/
def State.sampleTprot (s : State) (tprotOpen : Bool) : State := s.setPins { s.pins with tprotOpen := tprotOpen }

end Sys2Proof.Machine
end

