-- ==== Sys2Proof/WellFormed.lean ====
section
/-! DEFINITION. Which rows can come about: the operand ranges that the port, the channel and the tables of the part admit. -/

namespace Sys2Proof

open Sys2Proof.Machine

/-! ## Frames -/

/-- A position of the fleet grid (00, Positions and distances). -/
def Machine.Point.wellFormed (p : Point) : Bool := p.east ≤ 0xFFFF && p.north ≤ 0xFFFF

/-- A zone as R9 leaves it: 0..63, or 255. -/
def zoneOk (z : Nat) : Bool := z ≤ 63 || z == 255

/-- A vehicle class 0..3, or absent. -/
def classOk (c : Option Nat) : Bool := c.all (· ≤ 3)

/-- A job key whose base is a base station. -/
def keyOk (k : JobKey) : Bool := isBase k.base && k.job ≤ 0xFFFF

/-- The fields of a body lie in the ranges of section 1.4 and R9. -/
def Machine.Body.wellFormed (b : Body) : Bool :=
  match b with
  | .beacon pos _ _ zone vclass => pos.wellFormed && zoneOk zone && classOk vclass
  | .offer o =>
    o.job ≤ 0xFFFF && o.pickup.wellFormed && zoneOk o.zone && o.window ≤ 0xFF && o.note.length ≤ 24 && o.note.all printable
  | .claim key score vclass => keyOk key && score ≤ 1023 && classOk vclass
  | .take key score rank _ => keyOk key && score ≤ 1023 && rank ≤ 0xFF
  | .drop key reason => keyOk key && reason ≤ 0xFF
  | .cancel job reason => job ≤ 0xFFFF && reason ≤ 2
  | .note n =>
    1 ≤ n.dest && n.dest ≤ 4095 && n.id ≤ 0xFF && n.ref.all (fun k => k.base ≤ 4095 && k.job ≤ 0xFFFF)
      && 1 ≤ n.text.length && n.text.length ≤ 40 && n.text.all printable
  | .receipt dest id _ => isStation dest && id ≤ 0xFF
  | .alarm serial count _ _ pos => serial ≤ 0xFF && count ≤ 0xFF && pos.wellFormed
  | .alarmEnd serial pos => serial ≤ 0xFF && pos.wellFormed
  | .tally t =>
    isBase t.dest && t.trips ≤ 0xFFFF && t.fare ≤ cap32 && t.extras ≤ cap32 && t.hired ≤ cap32 && t.dist ≤ cap32
      && t.lastTrip ≤ 0xFFFF

/-- The header fields lie in the ranges of section 1.2 and R8. -/
def Machine.Frame.wellFormed (f : Frame) : Bool :=
  f.fleet ≤ 0xFF && originOk f.body.kind f.origin && isStation f.sender && f.hops ≤ 3 && f.seq ≤ 0xFF
    && f.body.wellFormed

/-! ## Rows -/

/-- The operands of a row lie in what can come about. A host command may carry any parameter bytes; the bytes after a
length byte are at most 255 (R182); an INVALID code names no command and is not the null byte (R181); a received frame
is whole with at most eight further bits (R7), a fall of CD comes before the eighth; slots, holds and kinds exist. -/
def Instr.wellFormed : Instr → Bool
  | .loadZone bytes => bytes.length ≤ 255
  | .postNote bytes => bytes.length ≤ 255
  | .invalid code _ => code != 0 && (shapeOf code).isNone
  | .frameReceived bytes further => frameWhole bytes && further ≤ 8
  | .overlongLength len => maxBody < len.toNat
  | .cdFall _ further => further ≤ 7
  | .cacheExpiry origin kind seq => origin ≤ 4095 && (Kind.ofCode kind).isSome && seq ≤ 255
  | .relayHoldRelease hold => hold < 4
  | .peerAging slot => slot < 32
  | .claimPoint slot => slot < 16
  | .latestClaimPoint slot => slot < 16
  | .close slot => slot < 16
  | .takeTurn slot => slot < 16
  | .watchClose slot => slot < 16
  | .entryRetentionEnd slot => slot < 16
  | .noteRetry slot => slot < 4
  | .alarmTableAging slot => slot < 4
  | .powerOn _ => true
  | .resetPin _ => true
  | .configure _ _ _ _ _ _ _ _ _ _ _ _ _ => true
  | .loadTariff _ _ _ _ _ _ _ => true
  | .loadSurcharge _ _ _ => true
  | .setPulseConstant _ _ => true
  | .go => true
  | .senseEvent => true
  | .readStatus _ => true
  | .restart _ => true
  | .readChannelStats => true
  | .setPosition _ _ _ => true
  | .setDriverStatus _ => true
  | .readPeer _ => true
  | .readOffer _ => true
  | .scanOffers _ _ _ _ => true
  | .acceptOffer _ => true
  | .passOffer _ => true
  | .releaseJob _ => true
  | .hire _ => true
  | .stop => true
  | .resume => true
  | .settle _ => true
  | .addExtra _ => true
  | .readFare => true
  | .startShift => true
  | .endShift => true
  | .readTotals => true
  | .readTrip _ => true
  | .readNote _ _ => true
  | .scanNotes _ _ _ _ => true
  | .markRead _ => true
  | .deleteNote _ => true
  | .readOutbox _ => true
  | .clearOutbox => true
  | .raiseAlarm => true
  | .cancelAlarm _ => true
  | .readAlarm _ => true
  | .abandonmentTimer => true
  | .execByteDiscard _ => true
  | .resultByte _ _ _ => true
  | .partialByte _ => true
  | .cdRise => true
  | .channelBlocked => true
  | .channelClear => true
  | .backoffEnd => true
  | .transmissionEnd => true
  | .alarmEndGap => true
  | .fixStale => true
  | .beaconInterval => true
  | .beaconChangeTimer => true
  | .pulse => true
  | .secondTick => true
  | .shiftTimeTick => true
  | .panicPress => true
  | .panicRelease => true
  | .holdTimer => true
  | .alarmRepeat => true
  | .signFlashToggle => true
  | .syncWordMatch => true
  | .panicLevelChange _ => true
  | .mainSupplyLoss _ => true

end Sys2Proof
end

