-- ==== Sys2Proof/Decode.lean ====
section
/-! DEFINITION. Rows from words: spec/opcode_table.json gives its rows no bits, so no word spells a row. -/

namespace Sys2Proof

/-- The row a word spells by the table's bits. The table lists no bits for any of its 79 rows ("fields" is empty in
each), so no word spells one; the bytes of the command port are decoded in Machine/Port.lean. -/
def decodeTableWord (_nbits _w : Nat) : Option Instr := none

end Sys2Proof
end

