-- ==== Sys2Proof/Machine/Commands.lean ====
section
/-! DEFINITION. Meanings of the host commands: each is its code and parameter bytes (R192), its group (R185) and its act. -/

namespace Sys2Proof.Machine

/-- What a meaning answers. -/
abbrev Out := Host.Outcome State Fault Refusal

/-! ## Configuration commands -/

/-- CONFIGURE (R186). -/
def execConfigure (stationId : BitVec 16) (fleet home vclass bidMode defaults : Byte) (maxDist : BitVec 16)
    (penalty idleCap beacon : Byte) (cancelCode duressCode : BitVec 16) (covertSign : Byte) (s : State) : Out :=
  .next (s.hostCommand 0x01
    (wordBytes stationId ++ [fleet, home, vclass, bidMode, defaults] ++ wordBytes maxDist ++ [penalty, idleCap, beacon]
      ++ wordBytes cancelCode ++ wordBytes duressCode ++ [covertSign])
    .config (actConfigure
      (stationOf stationId fleet home vclass bidMode defaults maxDist penalty idleCap beacon cancelCode duressCode
        covertSign) bidMode defaults covertSign))

/-- LOAD_ZONE (R55); the length byte states the number of the bytes. -/
def execLoadZone (bytes : List Byte) (s : State) : Out :=
  .next (s.hostCommand 0x02 (byte bytes.length :: bytes) .config (actLoadZone bytes))

/-- LOAD_TARIFF (R113). -/
def execLoadTariff (slot : Byte) (flagFall incAmount incDist incTime : BitVec 16) (n0 : Byte) (tprotOpen : Bool)
    (s : State) : Out :=
  .next ((s.sampleTprot tprotOpen).hostCommand 0x03
    ([slot] ++ wordBytes flagFall ++ wordBytes incAmount ++ wordBytes incDist ++ wordBytes incTime ++ [n0]) .config
    (actLoadTariff slot.toNat ⟨flagFall.toNat, incAmount.toNat, incDist.toNat, incTime.toNat, n0.toNat⟩))

/-- LOAD_SURCHARGE (R114). -/
def execLoadSurcharge (index : Byte) (amount : BitVec 16) (tprotOpen : Bool) (s : State) : Out :=
  .next ((s.sampleTprot tprotOpen).hostCommand 0x04 ([index] ++ wordBytes amount) .config
    (actLoadSurcharge index.toNat amount.toNat))

/-- SET_PULSE_CONSTANT (R114). -/
def execSetPulseConstant (k : BitVec 16) (tprotOpen : Bool) (s : State) : Out :=
  .next ((s.sampleTprot tprotOpen).hostCommand 0x05 (wordBytes k) .config (actSetPulse k.toNat))

/-- GO (R187). -/
def execGo (s : State) : Out := .next (s.hostCommand 0x0F [] .config actGo)

/-! ## Commands of any part state -/

/-- SENSE_EVENT (R190). -/
def execSenseEvent (s : State) : Out := .next (s.hostCommand 0x10 [] .any actSense)

/-- READ_STATUS (R191). -/
def execReadStatus (tprotOpen : Bool) (s : State) : Out :=
  .next ((s.sampleTprot tprotOpen).hostCommand 0x11 [] .any actReadStatus)

/-- RESTART (R188): its byte, in a transaction of its own; taken as a command code it resets the part. -/
def execRestart (panicLow : Bool) (s : State) : Out :=
  .next ((s.samplePanic panicLow).transaction [0x12])

/-- READ_CHANNEL_STATS (R47). -/
def execReadChannelStats (s : State) : Out := .next (s.hostCommand 0x13 [] .any actReadStats)

/-! ## Position, fare and totals -/

/-- SET_POSITION (R50, R51). -/
def execSetPosition (east north : BitVec 16) (fix : Byte) (s : State) : Out :=
  .next (s.hostCommand 0x20 (wordBytes east ++ wordBytes north ++ [fix]) .operating
    (actSetPosition ⟨east.toNat, north.toNat⟩ fix.toNat))

/-- SET_DRIVER_STATUS (R108). -/
def execSetDriverStatus (status : Byte) (s : State) : Out :=
  .next (s.hostCommand 0x21 [status] .operating (actSetDriver status.toNat))

/-- READ_PEER (R65). -/
def execReadPeer (slot : Byte) (s : State) : Out :=
  .next (s.hostCommand 0x22 [slot] .operating (actReadPeer slot.toNat))

/-- HIRE (R117). -/
def execHire (tariff : Byte) (s : State) : Out := .next (s.hostCommand 0x40 [tariff] .operating (actHire tariff.toNat))

/-- STOP (R123). -/
def execStop (s : State) : Out := .next (s.hostCommand 0x41 [] .operating actStop)

/-- RESUME (R124). -/
def execResume (s : State) : Out := .next (s.hostCommand 0x42 [] .operating actResume)

/-- SETTLE (R125). -/
def execSettle (payment : Byte) (s : State) : Out :=
  .next (s.hostCommand 0x43 [payment] .operating (actSettle payment.toNat))

/-- ADD_EXTRA (R122). -/
def execAddExtra (amount : BitVec 16) (s : State) : Out :=
  .next (s.hostCommand 0x44 (wordBytes amount) .operating (actAddExtra amount.toNat))

/-- READ_FARE (R128). -/
def execReadFare (s : State) : Out := .next (s.hostCommand 0x45 [] .operating actReadFare)

/-- START_SHIFT (R137). -/
def execStartShift (s : State) : Out := .next (s.hostCommand 0x46 [] .operating actStartShift)

/-- END_SHIFT (R138). -/
def execEndShift (s : State) : Out := .next (s.hostCommand 0x47 [] .operating actEndShift)

/-- READ_TOTALS (R144). -/
def execReadTotals (s : State) : Out := .next (s.hostCommand 0x48 [] .operating actReadTotals)

/-- READ_TRIP (R131). -/
def execReadTrip (n : Byte) (s : State) : Out := .next (s.hostCommand 0x49 [n] .operating (actReadTrip n.toNat))

/-! ## Offers -/

/-- READ_OFFER (R80). -/
def execReadOffer (slot : Byte) (s : State) : Out :=
  .next (s.hostCommand 0x30 [slot] .operating (actReadOffer slot.toNat))

/-- SCAN_OFFERS (R81). -/
def execScanOffers (start : Byte) (mask : BitVec 24) (maxScore : BitVec 16) (zone : Byte) (s : State) : Out :=
  .next (s.hostCommand 0x31
    ([start, mask.extractLsb' 16 8, mask.extractLsb' 8 8, mask.extractLsb' 0 8] ++ wordBytes maxScore ++ [zone])
    .operating (actScanOffers start.toNat mask maxScore.toNat zone.toNat))

/-- ACCEPT_OFFER (R82). -/
def execAcceptOffer (slot : Byte) (s : State) : Out :=
  .next (s.hostCommand 0x32 [slot] .operating (actAcceptOffer slot.toNat))

/-- PASS_OFFER (R83). -/
def execPassOffer (slot : Byte) (s : State) : Out :=
  .next (s.hostCommand 0x33 [slot] .operating (actPassOffer slot.toNat))

/-- RELEASE_JOB (R84). -/
def execReleaseJob (reason : Byte) (s : State) : Out :=
  .next (s.hostCommand 0x34 [reason] .operating (actReleaseJob reason.toNat))

/-! ## Notes -/

/-- POST_NOTE (R156); the length byte states the number of the bytes. -/
def execPostNote (bytes : List Byte) (s : State) : Out :=
  .next (s.hostCommand 0x50 (byte bytes.length :: bytes) .operating (actPostNote bytes))

/-- READ_NOTE (R153). -/
def execReadNote (slot word : Byte) (s : State) : Out :=
  .next (s.hostCommand 0x51 [slot, word] .operating (actReadNote slot.toNat word.toNat))

/-- SCAN_NOTES (R154). -/
def execScanNotes (start mask urgentOnly : Byte) (origin : BitVec 16) (s : State) : Out :=
  .next (s.hostCommand 0x52 ([start, mask, urgentOnly] ++ wordBytes origin) .operating
    (actScanNotes start.toNat mask.toNat urgentOnly.toNat origin.toNat))

/-- MARK_READ (R150). -/
def execMarkRead (slot : Byte) (s : State) : Out :=
  .next (s.hostCommand 0x53 [slot] .operating (actMarkRead slot.toNat))

/-- DELETE_NOTE (R151). -/
def execDeleteNote (slot : Byte) (s : State) : Out :=
  .next (s.hostCommand 0x54 [slot] .operating (actDeleteNote slot.toNat))

/-- READ_OUTBOX (R160). -/
def execReadOutbox (slot : Byte) (s : State) : Out :=
  .next (s.hostCommand 0x55 [slot] .operating (actReadOutbox slot.toNat))

/-- CLEAR_OUTBOX (R160). -/
def execClearOutbox (s : State) : Out := .next (s.hostCommand 0x56 [] .operating actClearOutbox)

/-! ## Alarms -/

/-- RAISE_ALARM (R166). -/
def execRaiseAlarm (s : State) : Out := .next (s.hostCommand 0x60 [] .operating actRaiseAlarm)

/-- CANCEL_ALARM (R170). -/
def execCancelAlarm (code : BitVec 16) (s : State) : Out :=
  .next (s.hostCommand 0x61 (wordBytes code) .operating (actCancelAlarm code.toNat))

/-- READ_ALARM (R178). -/
def execReadAlarm (index : Byte) (s : State) : Out :=
  .next (s.hostCommand 0x62 [index] .operating (actReadAlarm index.toNat))

end Sys2Proof.Machine
end

