-- ==== Sys2Proof/Machine/PortEvents.lean ====
section
/-! DEFINITION. Meanings of the resets, the supplies and the events of the command port (R141, R142, R11, R179 to R184). -/

namespace Sys2Proof.Machine

/-! ## Resets and supplies -/

/-- POWER_ON (R142). -/
def execPowerOn (panicLow : Bool) (s : State) : Out := .next (s.samplePanic panicLow).powerUp

/-- RESET_PIN (R11, R188); a part without its main supply is not running. -/
def execResetPin (panicLow : Bool) (s : State) : Out :=
  .next (if s.powered then (s.samplePanic panicLow).resetPart else s.samplePanic panicLow)

/-- MAIN_SUPPLY_LOSS (R141). -/
def execMainSupplyLoss (vbk : Bool) (s : State) : Out := .next (s.powerDown vbk)

/-! ## Bytes and the abandonment timer -/

/-- INVALID (R181): a code byte that opens a transaction. -/
def execInvalid (code : Byte) (s : State) (last : Bool := false) : Out := .next ((s.hostByte true code).afterByte last)

/-- RESULT_BYTE (R179, R184): one byte exchanged on the port. -/
def execResultByte (first : Bool) (mosi : Byte) (s : State) (last : Bool := false) : Out :=
  .next ((s.hostByte first mosi).afterByte last)

/-- A byte other than the null byte comes while a command executes: the part sends the status byte, sampled in EXEC, and
sets PHASE-ERROR (R179, R180, R183). -/
def State.execByte (s : State) : State :=
  ((s.setCsn true).setCpt { s.cpt with sdo := (s.setCpt { s.cpt with phase := .exec }).statusByte }).phaseErr

/-- EXEC_BYTE_DISCARD (R183; assumption 10). -/
def execExecByteDiscard (s : State) (last : Bool := false) : Out :=
  .next ((if s.powered then s.execByte else s.setCsn true).afterByte last)

/-- CSN rises inside a byte, and the byte is dropped with PHASE-ERROR (R179); without it when the transaction of the byte was
in progress at the last reset (R188). A port that has seen a transaction since that reset has no such byte (assumption 12). -/
def State.partialByte (s : State) (older : Bool) : State :=
  if !s.powered || (older && s.cpt.muted != .off) then s.csnRise else s.csnRise.phaseErr

/-- PARTIAL_BYTE (R179, R188). -/
def execPartialByte (s : State) (older : Bool := false) : Out := .next (s.partialByte older)

/-- The collected bytes are discarded: READY, with PHASE-ERROR (R182). -/
def Cpt.abandon (c : Cpt) : Cpt :=
  { c with phase := .ready, code := 0, params := [], abandonAt := none, phaseError := true }

/-- ABANDONMENT_TIMER (R182). -/
def execAbandonmentTimer (s : State) : Out :=
  .next (if s.powered && s.cpt.phase == .param && due s.cpt.abandonAt s.now then s.setCpt s.cpt.abandon else s)

end Sys2Proof.Machine
end

