-- ==== Sys2Proof/Machine/ChannelEvents.lean ====
section
/-! DEFINITION. Meanings of the events on the fleet channel (R7, R22, R24, R27 to R29, R31 to R33, R41, R44, R172). -/

namespace Sys2Proof.Machine

/-! ## Carrier (R22, R28, R31, R32) -/

/-- Level of CD on the pin. -/
def State.setCd (s : State) (cd : Bool) : State := s.setPins { s.pins with cd := cd }

/-- The CAU at a rise of CD in RUN: the 20 ms measure stops, and the 2000 ms measure starts outside the blocked condition (R28). -/
def State.cauRise (s : State) : State :=
  s.setCau { s.cau with
    clearAt := none
    blockedAt := if s.cau.blocked then none else some (s.now + 2000 * ms) }

/-- A rise of CD: the measures, and the sync hunt (R28, R31). -/
def State.cdRise (s : State) : State :=
  let s := s.setCd true
  if s.powered && s.inRun then s.cauRise.resumeHunt else s

/-- CD_RISE (R28, R31): a rise from the level CD already has is none. -/
def execCdRise (s : State) : Out := .next (if s.pins.cd then s else s.cdRise)

/-- The CAU at a fall of CD in RUN: idle reference unless KEY is asserted, the 2000 ms measure stopped, and the 20 ms
measure started in the blocked condition (R22, R28). -/
def State.cauFall (s : State) : State :=
  s.setCau { s.cau with
    idleRef := if s.cau.onAir.isSome then s.cau.idleRef else some s.now
    blockedAt := none
    clearAt := if s.cau.blocked then some (s.now + 20 * ms) else none }

/-- The end of the last check bit of a frame (R7): its bytes follow the sync word, at the bit period of R2, from the match on.
A row that brings the frame earlier than that has its own moment as the end (assumption 5). -/
def State.lastBit (s : State) (bytes : List Byte) : Nat := min s.now (s.rru.syncAt + bytes.length * 8 * bitPeriod)

/-- The frame being taken at a fall of CD: judged when it is whole, malformed when its length byte is above 52, and
otherwise truncated (R7, R32, R33). -/
def State.fallFrame (s : State) (taken : List Byte) (further : Nat) : State :=
  if s.rru.rx != .taking then s
  else if frameOverlong taken then s.countMalformed
  else if frameWhole taken then s.judgeFrame taken (8 ≤ further) (s.lastBit taken)
  else s.truncate

/-- A fall of CD (R22, R28, R32). -/
def State.cdFall (s : State) (taken : List Byte) (further : Nat) : State :=
  let s := s.setCd false
  if s.powered && s.inRun then (s.cauFall.fallFrame taken further).resumeHunt else s

/-- CD_FALL (R22, R32, R7). -/
def execCdFall (taken : List Byte) (further : Nat) (s : State) : Out :=
  .next (if s.pins.cd then s.cdFall taken further else s)

/-! ## The blocked channel (R28, R29) -/

/-- The blocked condition is entered; a class-0 head is keyed over the carrier (R28, R29). -/
def State.enterBlocked (s : State) : State :=
  ((s.setCau { s.cau with blocked := true, blockedAt := none }).raiseEvent .channelBlocked 0 0).kick

/-- CHANNEL_BLOCKED (R28). -/
def execChannelBlocked (s : State) : Out :=
  .next (if s.powered && due s.cau.blockedAt s.now then s.enterBlocked else s)

/-- The blocked condition ends (R28). -/
def State.leaveBlocked (s : State) : State :=
  (s.setCau { s.cau with blocked := false, clearAt := none }).raiseEvent .channelClear 0 0

/-- CHANNEL_CLEAR (R28). -/
def execChannelClear (s : State) : Out :=
  .next (if s.powered && due s.cau.clearAt s.now then s.leaveBlocked else s)

/-! ## Reception (R7, R31, R33) -/

/-- The bits last clocked from RXD are those of the sync word: a window that does not hold them yet takes them, and at its
match the hunt ends and a frame is taken. The bits before them are forgotten and counted nowhere (R31; assumption 5). -/
def RxState.sync (rx : RxState) : RxState :=
  let rx := if rx.matched then rx else syncBits.foldl (fun r b => r.clock b) rx
  if rx.matched then .taking else rx

/-- The match ends a hunt, and its moment is held for the frame that follows (R7, R31). -/
def State.syncMatch (s : State) : State :=
  match s.rru.rx with
  | .hunting _ => s.setRru { s.rru with rx := s.rru.rx.sync, syncAt := s.now }
  | _ => s

/-- SYNC_WORD_MATCH (R31). -/
def execSyncWordMatch (s : State) : Out := .next s.syncMatch

/-- OVERLONG_LENGTH (R7). -/
def execOverlongLength (len : Byte) (s : State) : Out :=
  .next (if s.rru.rx == .taking && maxBody < len.toNat then s.countMalformed.resumeHunt else s)

/-- A whole frame is judged, with the end of its last check bit as its time (R7, R33). -/
def State.frameTaken (s : State) (bytes : List Byte) (further : Nat) : State :=
  (s.judgeFrame bytes (8 ≤ further) (s.lastBit bytes)).resumeHunt

/-- FRAME_RECEIVED (R33); a run of bytes that is no whole frame is not one. -/
def execFrameReceived (bytes : List Byte) (further : Nat) (s : State) : Out :=
  .next (if s.rru.rx == .taking && frameWhole bytes then s.frameTaken bytes further else s)

/-! ## Cache and relay holds (R41, R44) -/

/-- The entry expires: 60 s since it was first heard, and no relay mark (R41). -/
def CacheEntry.expired (c : CacheEntry) (now : Nat) : Bool := c.mark == .none && c.firstHeard + cacheLife ≤ now

/-- The cache entry of this key leaves when it has expired (R41). -/
def State.expireKey (s : State) (k : FrameKey) : State :=
  s.setRru { s.rru with cache := s.rru.cache.filter fun c => !(c.key == k && c.expired s.now) }

/-- CACHE_EXPIRY (R41). -/
def execCacheExpiry (origin kind seq : Nat) (s : State) : Out :=
  .next (match Kind.ofCode kind with
    | some k => s.expireKey ⟨origin, k, seq⟩
    | none => s)

/-- RELAY_HOLD_RELEASE (R44). -/
def execRelayHoldRelease (hold : Nat) (s : State) : Out :=
  .next (match slotGet s.rru.holds hold with
    | some h => if h.release ≤ s.now then s.releaseHold hold h else s
    | none => s)

/-! ## Transmission (R24, R27) -/

/-- A wait ends: the unit decides on the head of the moment, or goes to rest (R24). -/
def State.backoffEnd (s : State) : State := s.decide true

/-- BACKOFF_END (R24). -/
def execBackoffEnd (s : State) : Out :=
  .next (match s.cau.au with
    | .waiting till => if till ≤ s.now then s.backoffEnd else s
    | .rest => s)

/-- TRANSMISSION_END (R27). -/
def execTransmissionEnd (s : State) : Out :=
  .next (match s.cau.onAir with
    | some a => if a.stop ≤ s.now then s.endTx a else s
    | none => s)

end Sys2Proof.Machine
end

