-- ==== Sys2Proof/Machine/TimerEvents.lean ====
section
/-! DEFINITION. Meanings of the timers and lines of the position unit, the offer board, the fare engine, the totals, the note store and the emergency unit. A timer's row acts when its timer has reached its expiry, and has no effect otherwise (assumption 2). -/

namespace Sys2Proof.Machine

/-! ## Position and peers (R52, R64, R66, R67) -/

/-- The held fix is 30,000 ms old and the position is not stale yet (R52). -/
def State.fixExpired (s : State) : Bool := !s.ppu.stale && due (s.ppu.fixTime.map (· + fixLife)) s.now

/-- FIX_STALE (R52). -/
def execFixStale (s : State) : Out := .next (if s.fixExpired then s.turnStale else s)

/-- Free a peer slot. -/
def State.freePeer (s : State) (slot : Nat) : State := s.setPpu { s.ppu with peers := slotFree s.ppu.peers slot }

/-- PEER_AGING (R64). -/
def execPeerAging (slot : Nat) (s : State) : Out :=
  .next (match slotGet s.ppu.peers slot with
    | some p => if p.lastHeard + peerLife ≤ s.now then s.freePeer slot else s
    | none => s)

/-- BEACON_INTERVAL (R66). -/
def execBeaconInterval (s : State) : Out := .next (if due s.ppu.intervalAt s.now then s.sendBeacon else s)

/-- BEACON_CHANGE_TIMER (R67). -/
def execBeaconChangeTimer (s : State) : Out := .next (if due s.ppu.changeAt s.now then s.sendBeacon else s)

/-! ## Offer board (R73, R90 to R97) -/

/-- CLAIM_POINT (R90). -/
def execClaimPoint (slot : Nat) (s : State) : Out :=
  .next (match slotGet s.ofb.slots slot with
    | some e => if e.state == .opened && due e.claimPoint s.now then s.claim slot e else s
    | none => s)

/-- LATEST_CLAIM_POINT (R92). -/
def execLatestClaimPoint (slot : Nat) (s : State) : Out :=
  .next (match slotGet s.ofb.slots slot with
    | some e => if !e.latestTaken && e.latestPoint ≤ s.now then s.latestPoint slot e else s
    | none => s)

/-- CLOSE (R95). -/
def execClose (slot : Nat) (s : State) : Out :=
  .next (match slotGet s.ofb.slots slot with
    | some e => if !e.closeTaken && e.close ≤ s.now then s.closeEntry slot e else s
    | none => s)

/-- TAKE_TURN of a RANKED entry (R95, R97); the take turn of rank 0 is at its close. -/
def execTakeTurn (slot : Nat) (s : State) : Out :=
  .next (match slotGet s.ofb.slots slot with
    | some e => if e.state == .ranked && e.turnTime ≤ s.now then s.takeTurn slot e else s
    | none => s)

/-- WATCH_CLOSE (R96). -/
def execWatchClose (slot : Nat) (s : State) : Out :=
  .next (match slotGet s.ofb.slots slot with
    | some e => if e.state == .watch && e.watchEnd ≤ s.now then s.putEntry slot (e.finish .closed s.now) else s
    | none => s)

/-- The retention of a terminal entry has ended and has not been taken yet (R73). -/
def BoardEntry.retained (e : BoardEntry) (now : Nat) : Bool :=
  !e.state.live && !e.retentionPassed && due (e.termTime.map (· + retention)) now

/-- ENTRY_RETENTION_END (R73). -/
def execEntryRetentionEnd (slot : Nat) (s : State) : Out :=
  .next (match slotGet s.ofb.slots slot with
    | some e => if e.retained s.now then s.endRetention slot e else s
    | none => s)

/-! ## Fare engine and totals (R115, R119, R120, R135) -/

/-- PULSE (R115), counted in every part state of a powered part. -/
def execPulse (s : State) : Out := .next (if s.powered then s.pulse else s)

/-- SECOND_TICK (R119, R120). -/
def execSecondTick (s : State) : Out := .next (if due s.fre.secondAt s.now then s.secondTick else s)

/-- One second of shift time (R135). -/
def State.shiftSecond (s : State) : State :=
  (s.setTtl { s.ttl with shiftTickAt := s.ttl.shiftTickAt.map (· + 1000 * ms) }).setRet
    { s.ret with shiftTime := satAdd cap32 s.ret.shiftTime 1 }

/-- SHIFT_TIME_TICK (R135). -/
def execShiftTimeTick (s : State) : Out := .next (if due s.ttl.shiftTickAt s.now then s.shiftSecond else s)

/-! ## Notes (R158) -/

/-- NOTE_RETRY (R158). -/
def execNoteRetry (slot : Nat) (s : State) : Out :=
  .next (match slotGet s.nts.outbox slot with
    | some r => if r.state == .await && due r.retryAt s.now then s.retryNote slot r else s
    | none => s)

/-! ## Emergency unit (R163 to R168, R172, R177) -/

/-- PANIC_PRESS: the filter counts the low level that the pin has held (R164, R165). -/
def execPanicPress (s : State) : Out := .next (if s.filterDue && s.pins.panicLow then s.panicLevel true else s)

/-- PANIC_RELEASE: the filter counts the high level that the pin has held (R164, R165). -/
def execPanicRelease (s : State) : Out := .next (if s.filterDue && !s.pins.panicLow then s.panicLevel false else s)

/-- PANIC_LEVEL_CHANGE (R164): the pin takes another level; at the level it has, the filter counts that level when its time
has come, whatever the own alarm state (assumption 13). -/
def execPanicLevelChange (low : Bool) (s : State) : Out :=
  .next (if low != s.pins.panicLow then s.panicPin low else if s.filterDue then s.panicLevel low else s)

/-- HOLD_TIMER: the hold is complete with PANIC still low (R165). -/
def execHoldTimer (s : State) : Out :=
  .next (if s.ret.alarm == .arming && due s.emu.holdAt s.now && s.emu.panicLow then s.enterAlerting else s)

/-- The repeat timer expires: one more repeat, offered, and the timer started again (R168). -/
def State.alarmRepeat (s : State) : State :=
  ((s.setEmu { s.emu with repeats := satAdd cap8 s.emu.repeats 1 }).offer .alarm).startRepeat

/-- ALARM_REPEAT (R168). -/
def execAlarmRepeat (s : State) : Out :=
  .next (if (s.ret.alarm == .alerting || s.ret.alarm == .covert) && due s.emu.repeatAt s.now then s.alarmRepeat else s)

/-- The gap ends: the second ALARM-END is offered (R172). -/
def State.alarmGap (s : State) : State := (s.setEmu { s.emu with ending := some .second, gapAt := none }).offer .alarmEnd

/-- ALARM_END_GAP (R172). -/
def execAlarmEndGap (s : State) : Out :=
  .next (if s.emu.ending == some .gap && due s.emu.gapAt s.now then s.alarmGap else s)

/-- ALARM_TABLE_AGING (R177). -/
def execAlarmTableAging (slot : Nat) (s : State) : Out :=
  .next (match slotGet s.emu.table slot with
    | some a => if a.agesAt ≤ s.now then s.ageAlarm slot a else s
    | none => s)

/-- The roof sign changes level (R163). -/
def State.flashToggle (s : State) : State :=
  s.setEmu { s.emu with flash := s.emu.flash.map fun f => ⟨!f.lit, f.toggleAt + flashHalf⟩ }

/-- SIGN_FLASH_TOGGLE (R163). -/
def execSignFlashToggle (s : State) : Out :=
  .next (if due (s.emu.flash.map (·.toggleAt)) s.now then s.flashToggle else s)

end Sys2Proof.Machine
end

