-- ==== Sys2Proof/Machine/Tick.lean ====
section
/-! DEFINITION. The internal timebase on an empty queue (assumption 1): a timer that has reached its expiry puts its row into the queue, and otherwise one unit of time passes. -/

namespace Sys2Proof.Machine

/-- The row of a timer, when it is due. -/
def ifDue (t : Option Nat) (now : Nat) (i : Instr) : List Instr := if due t now then [i] else []

/-- The rows that the occupied slots of a table are due for. -/
def slotRows (l : List (Option α)) (rows : Nat → α → List Instr) : List Instr :=
  (slotList l 0).flatMap fun p => rows p.1 p.2

/-- The timers of a board entry. -/
def BoardEntry.dueRows (e : BoardEntry) (now slot : Nat) : List Instr :=
  (if e.state == .opened then ifDue e.claimPoint now (.claimPoint slot) else [])
    ++ (if !e.latestTaken then ifDue (some e.latestPoint) now (.latestClaimPoint slot) else [])
    ++ (if !e.closeTaken then ifDue (some e.close) now (.close slot) else [])
    ++ (if e.state == .ranked then ifDue (some e.turnTime) now (.takeTurn slot) else [])
    ++ (if e.state == .watch then ifDue (some e.watchEnd) now (.watchClose slot) else [])
    ++ (if e.retained now then [.entryRetentionEnd slot] else [])

/-- The timers of the port and the channel access unit, and a match in the hunt (R31). -/
def State.dueChannel (s : State) : List Instr :=
  (if s.cpt.phase == .param then ifDue s.cpt.abandonAt s.now .abandonmentTimer else [])
    ++ ifDue s.cau.blockedAt s.now .channelBlocked ++ ifDue s.cau.clearAt s.now .channelClear
    ++ ifDue (match s.cau.au with
        | .waiting t => some t
        | .rest => none) s.now .backoffEnd
    ++ ifDue (s.cau.onAir.map (·.stop)) s.now .transmissionEnd
    ++ (if s.rru.rx.matched then [.syncWordMatch] else [])
    ++ slotRows s.rru.holds (fun i h => ifDue (some h.release) s.now (.relayHoldRelease i))
    ++ (s.rru.cache.filter (·.expired s.now)).map (fun c => .cacheExpiry c.key.origin c.key.kind.code c.key.seq)

/-- The row at which the filter counts the level of PANIC (R164, R165). -/
def State.filterRow (s : State) : Instr :=
  if s.pins.panicLow && s.ret.alarm == .quiet then .panicPress
  else if !s.pins.panicLow && s.ret.alarm == .arming then .panicRelease
  else .panicLevelChange s.pins.panicLow

/-- The timers of the other blocks. -/
def State.dueBlocks (s : State) : List Instr :=
  (if s.fixExpired then [.fixStale] else [])
    ++ slotRows s.ppu.peers (fun i p => ifDue (some (p.lastHeard + peerLife)) s.now (.peerAging i))
    ++ ifDue s.ppu.intervalAt s.now .beaconInterval ++ ifDue s.ppu.changeAt s.now .beaconChangeTimer
    ++ slotRows s.ofb.slots (fun i e => e.dueRows s.now i)
    ++ ifDue s.fre.secondAt s.now .secondTick ++ ifDue s.ttl.shiftTickAt s.now .shiftTimeTick
    ++ slotRows s.nts.outbox (fun i r => if r.state == .await then ifDue r.retryAt s.now (.noteRetry i) else [])
    ++ (if s.filterDue then [s.filterRow] else [])
    ++ (if s.ret.alarm == .arming && s.emu.panicLow then ifDue s.emu.holdAt s.now .holdTimer else [])
    ++ (if s.ret.alarm == .alerting || s.ret.alarm == .covert then ifDue s.emu.repeatAt s.now .alarmRepeat else [])
    ++ (if s.emu.ending == some .gap then ifDue s.emu.gapAt s.now .alarmEndGap else [])
    ++ slotRows s.emu.table (fun i a => ifDue (some a.agesAt) s.now (.alarmTableAging i))
    ++ ifDue (s.emu.flash.map (·.toggleAt)) s.now .signFlashToggle

/-- The rows whose timers have reached their expiry at this moment, and the match of a hunt. -/
def State.dueRows (s : State) : List Instr := s.dueChannel ++ s.dueBlocks

/-- The timebase runs: of the rows that are due one, chosen by a free value, enters the queue; when none is due, one unit of
time passes, at the end of which RXD may be clocked. -/
def tick (s : State) : State :=
  match s.dueRows with
  | [] => (s.setNow (s.now + 1)).clockRxd
  | r :: l => (s.nextDraw).setPending [((r :: l)[Config.free s.draws % (l.length + 1)]?).getD r]

end Sys2Proof.Machine
end

