-- ==== Sys2Proof/Machine/Dispatch.lean ====
section
/-! DEFINITION. One arm for each constructor of Instr. -/

namespace Sys2Proof.Machine

/-- The effect of a row of spec/opcode_table.json on everything but the queue. -/
def exec (i : Instr) (s : State) : Host.Outcome State Fault Refusal :=
  match i with
  | .powerOn panicLow => Sys2Proof.Machine.execPowerOn panicLow s
  | .resetPin panicLow => Sys2Proof.Machine.execResetPin panicLow s
  | .configure stationId fleet home vclass bidMode defaults maxDist penalty idleCap beacon cancelCode duressCode covertSign => Sys2Proof.Machine.execConfigure stationId fleet home vclass bidMode defaults maxDist penalty idleCap beacon cancelCode duressCode covertSign s
  | .loadZone bytes => Sys2Proof.Machine.execLoadZone bytes s
  | .loadTariff slot flagFall incAmount incDist incTime n0 tprotOpen => Sys2Proof.Machine.execLoadTariff slot flagFall incAmount incDist incTime n0 tprotOpen s
  | .loadSurcharge index amount tprotOpen => Sys2Proof.Machine.execLoadSurcharge index amount tprotOpen s
  | .setPulseConstant k tprotOpen => Sys2Proof.Machine.execSetPulseConstant k tprotOpen s
  | .go => Sys2Proof.Machine.execGo s
  | .senseEvent => Sys2Proof.Machine.execSenseEvent s
  | .readStatus tprotOpen => Sys2Proof.Machine.execReadStatus tprotOpen s
  | .restart panicLow => Sys2Proof.Machine.execRestart panicLow s
  | .readChannelStats => Sys2Proof.Machine.execReadChannelStats s
  | .setPosition east north fix => Sys2Proof.Machine.execSetPosition east north fix s
  | .setDriverStatus status => Sys2Proof.Machine.execSetDriverStatus status s
  | .readPeer slot => Sys2Proof.Machine.execReadPeer slot s
  | .readOffer slot => Sys2Proof.Machine.execReadOffer slot s
  | .scanOffers start mask maxScore zone => Sys2Proof.Machine.execScanOffers start mask maxScore zone s
  | .acceptOffer slot => Sys2Proof.Machine.execAcceptOffer slot s
  | .passOffer slot => Sys2Proof.Machine.execPassOffer slot s
  | .releaseJob reason => Sys2Proof.Machine.execReleaseJob reason s
  | .hire tariff => Sys2Proof.Machine.execHire tariff s
  | .stop => Sys2Proof.Machine.execStop s
  | .resume => Sys2Proof.Machine.execResume s
  | .settle payment => Sys2Proof.Machine.execSettle payment s
  | .addExtra amount => Sys2Proof.Machine.execAddExtra amount s
  | .readFare => Sys2Proof.Machine.execReadFare s
  | .startShift => Sys2Proof.Machine.execStartShift s
  | .endShift => Sys2Proof.Machine.execEndShift s
  | .readTotals => Sys2Proof.Machine.execReadTotals s
  | .readTrip n => Sys2Proof.Machine.execReadTrip n s
  | .postNote bytes => Sys2Proof.Machine.execPostNote bytes s
  | .readNote slot word => Sys2Proof.Machine.execReadNote slot word s
  | .scanNotes start mask urgentOnly origin => Sys2Proof.Machine.execScanNotes start mask urgentOnly origin s
  | .markRead slot => Sys2Proof.Machine.execMarkRead slot s
  | .deleteNote slot => Sys2Proof.Machine.execDeleteNote slot s
  | .readOutbox slot => Sys2Proof.Machine.execReadOutbox slot s
  | .clearOutbox => Sys2Proof.Machine.execClearOutbox s
  | .raiseAlarm => Sys2Proof.Machine.execRaiseAlarm s
  | .cancelAlarm code => Sys2Proof.Machine.execCancelAlarm code s
  | .readAlarm index => Sys2Proof.Machine.execReadAlarm index s
  | .invalid code last => Sys2Proof.Machine.execInvalid code s last
  | .abandonmentTimer => Sys2Proof.Machine.execAbandonmentTimer s
  | .execByteDiscard last => Sys2Proof.Machine.execExecByteDiscard s last
  | .resultByte first mosi last => Sys2Proof.Machine.execResultByte first mosi s last
  | .partialByte older => Sys2Proof.Machine.execPartialByte s older
  | .cdRise => Sys2Proof.Machine.execCdRise s
  | .cdFall taken further => Sys2Proof.Machine.execCdFall taken further s
  | .channelBlocked => Sys2Proof.Machine.execChannelBlocked s
  | .channelClear => Sys2Proof.Machine.execChannelClear s
  | .frameReceived bytes further => Sys2Proof.Machine.execFrameReceived bytes further s
  | .overlongLength len => Sys2Proof.Machine.execOverlongLength len s
  | .cacheExpiry origin kind seq => Sys2Proof.Machine.execCacheExpiry origin kind seq s
  | .relayHoldRelease hold => Sys2Proof.Machine.execRelayHoldRelease hold s
  | .backoffEnd => Sys2Proof.Machine.execBackoffEnd s
  | .transmissionEnd => Sys2Proof.Machine.execTransmissionEnd s
  | .alarmEndGap => Sys2Proof.Machine.execAlarmEndGap s
  | .fixStale => Sys2Proof.Machine.execFixStale s
  | .peerAging slot => Sys2Proof.Machine.execPeerAging slot s
  | .beaconInterval => Sys2Proof.Machine.execBeaconInterval s
  | .beaconChangeTimer => Sys2Proof.Machine.execBeaconChangeTimer s
  | .claimPoint slot => Sys2Proof.Machine.execClaimPoint slot s
  | .latestClaimPoint slot => Sys2Proof.Machine.execLatestClaimPoint slot s
  | .close slot => Sys2Proof.Machine.execClose slot s
  | .takeTurn slot => Sys2Proof.Machine.execTakeTurn slot s
  | .watchClose slot => Sys2Proof.Machine.execWatchClose slot s
  | .entryRetentionEnd slot => Sys2Proof.Machine.execEntryRetentionEnd slot s
  | .pulse => Sys2Proof.Machine.execPulse s
  | .secondTick => Sys2Proof.Machine.execSecondTick s
  | .shiftTimeTick => Sys2Proof.Machine.execShiftTimeTick s
  | .noteRetry slot => Sys2Proof.Machine.execNoteRetry slot s
  | .panicPress => Sys2Proof.Machine.execPanicPress s
  | .panicRelease => Sys2Proof.Machine.execPanicRelease s
  | .holdTimer => Sys2Proof.Machine.execHoldTimer s
  | .alarmRepeat => Sys2Proof.Machine.execAlarmRepeat s
  | .alarmTableAging slot => Sys2Proof.Machine.execAlarmTableAging slot s
  | .signFlashToggle => Sys2Proof.Machine.execSignFlashToggle s
  | .syncWordMatch => Sys2Proof.Machine.execSyncWordMatch s
  | .panicLevelChange low => Sys2Proof.Machine.execPanicLevelChange low s
  | .mainSupplyLoss vbk => Sys2Proof.Machine.execMainSupplyLoss vbk s

end Sys2Proof.Machine
end

