-- ==== Sys2Proof/Safety.lean ====
section
/-! DEFINITION. What counts as a safe state: the laws of the device that the manual states, and the ranges its tables keep. -/

namespace Sys2Proof.Machine

/-! ## The retained store and the totals (R130, R131, R133, R141) -/

/-- The store is good: its check word is the check of its content (R141). -/
abbrev State.storeLaw (s : State) : Prop := s.check = storeCheck s.ret

/-- Each lifetime totaliser is at least its shift counterpart, and fits 32 bits (R133). -/
abbrev Retained.totalsLaw (r : Retained) : Prop :=
  r.shift.trips ≤ r.life.trips ∧ r.life.trips ≤ cap32
    ∧ r.shift.fare ≤ r.life.fare ∧ r.life.fare ≤ cap32
    ∧ r.shift.hiredDist ≤ r.life.hiredDist ∧ r.life.hiredDist ≤ cap32
    ∧ r.shift.totalDist ≤ r.life.totalDist ∧ r.life.totalDist ≤ cap32

/-- The log holds at most sixteen records and the counters stand in their widths (R4, R130, R131, R155, R162). -/
abbrev Retained.countersLaw (r : Retained) : Prop :=
  r.tripLog.length ≤ 16 ∧ r.tripCounter ≤ cap16 ∧ r.seq ≤ cap8 ∧ r.noteId ≤ cap8 ∧ r.serial ≤ cap8

/-! ## The event queue and the port (R180, R189) -/

/-- Two events share kind and subject. -/
abbrev Event.clash (a b : Event) : Prop := a.kind = b.kind ∧ a.subject = b.subject

/-- At most sixteen entries, no two with the same kind and subject, repeat counts 1..255 (R189). -/
abbrev Cpt.eventLaw (c : Cpt) : Prop :=
  c.events.length ≤ 16 ∧ c.events.Pairwise (fun a b => ¬ a.clash b) ∧ ∀ e ∈ c.events, 1 ≤ e.count ∧ e.count ≤ cap8

/-- Between rows the port is in READY with empty buffers, in PARAM with a running abandonment timer, or in RESULT with
result bytes unread; never in EXEC (R180 to R184; assumption 10). -/
abbrev Cpt.phaseLaw (c : Cpt) : Prop :=
  c.phase ≠ .exec ∧ (c.phase = .result ↔ c.result ≠ []) ∧ (c.phase = .param ↔ c.abandonAt.isSome = true)
    ∧ (c.phase ≠ .param → c.code = 0 ∧ c.params = [])

/-! ## The transmit queue (R12, R24) -/

/-- Own frames of a group in the queue, the on-air entry counted. -/
def Cau.groupCount (c : Cau) (g : Group) : Nat :=
  (c.queue.filter (·.owner.inGroup g)).length + ((c.onAir.map (·.entry.owner.inGroup g)).getD false).toNat

/-- At most eight frames, and at most one own frame of each group: BEACON, TALLY and class 0 (R12, R16, R17). -/
abbrev Cau.queueLaw (c : Cau) : Prop :=
  c.count ≤ queueMax ∧ c.groupCount .beacon ≤ 1 ∧ c.groupCount .tally ≤ 1 ∧ c.groupCount .class0 ≤ 1

/-- W takes the values 4, 8, 16, 32 and 64 (R24). -/
abbrev Cau.windowLaw (c : Cau) : Prop := c.w ∈ [4, 8, 16, 32, 64]

/-- The access unit takes no decision when a frame joins the queue: it is keying, or it waits out a backoff outside the
blocked condition (R23, R24, R29). -/
abbrev Cau.waits (c : Cau) : Prop := c.onAir.isSome = true ∨ ((∃ t, c.au = .waiting t) ∧ c.blocked = false)

/-- The receiver outside a frame: it hunts in RUN while CD is active and KEY is not asserted (R31). -/
abbrev State.rxOpen (s : State) (cd : Bool) : RxState :=
  if s.inRun && cd && s.cau.onAir.isNone then .hunting [] else .idle

/-- The window of the hunt holds at most 16 bits (R31). -/
abbrev Rru.windowLaw (r : Rru) : Prop := ∀ w, r.rx = .hunting w → w.length ≤ 16

/-- A transaction is muted only while it is in progress (R188). -/
abbrev State.csnLaw (s : State) : Prop := s.cpt.muted = .on → s.pins.csnLow = true

/-- The filter of PANIC runs exactly while a powered part finds the pin at another level than the one in force (R164). -/
abbrev State.filterLaw (s : State) : Prop :=
  s.emu.filterAt.isSome = true ↔ s.powered = true ∧ s.pins.panicLow ≠ s.emu.panicLow

/-! ## The tables (R54, R59, R70, R145, R155, R174, R38, R43) -/

/-- The sizes of the slot tables and the limits of the lists. -/
abbrev State.sizeLaw (s : State) : Prop :=
  s.ppu.zones.length = 64 ∧ s.ppu.peers.length = 32 ∧ s.ofb.slots.length = 16 ∧ s.nts.inbox.length = 12
    ∧ s.nts.outbox.length = 4 ∧ s.nts.refusals.length ≤ 4 ∧ s.emu.table.length = 4 ∧ s.rru.holds.length = 4
    ∧ s.rru.cache.length ≤ 16 ∧ s.ret.tariffs.length = 8 ∧ s.ret.surcharges.length = 3

/-- No two entries of a slot table share a key. -/
abbrev slotsDistinct {α κ : Type} (key : α → κ) (l : List (Option α)) : Prop :=
  (slotEntries l).Pairwise fun a b => key a ≠ key b

/-- No two board entries share (base id, job id) (R74). -/
abbrev Ofb.keyLaw (o : Ofb) : Prop := slotsDistinct (·.key) o.slots

/-- No two inbox notes share (origin, note id) (R145). -/
abbrev Nts.keyLaw (n : Nts) : Prop := slotsDistinct (fun r : InNote => (r.origin, r.id)) n.inbox

/-- No two alarm-table entries share an origin (R174). -/
abbrev Emu.keyLaw (e : Emu) : Prop := slotsDistinct (·.origin) e.table

/-- No two peer entries share a station id, and none has the own id (R59); in CONFIG the table is empty (R64). -/
abbrev State.peerLaw (s : State) : Prop :=
  slotsDistinct (·.id) s.ppu.peers ∧ (∀ p ∈ slotEntries s.ppu.peers, p.id ≠ s.ownId)
    ∧ (s.cpt.part = .config → slotEntries s.ppu.peers = [])

/-- A claim list holds at most four records, in order, no two of one station (R71), with scores in 0..1023 (R92). -/
abbrev claimsLaw (l : List Claim) : Prop :=
  l.length ≤ 4 ∧ l.Pairwise (fun a b => a.better b = true) ∧ l.Pairwise (fun a b => a.id ≠ b.id)
    ∧ ∀ c ∈ l, c.score ≤ 1023

/-- Every claim list of the board keeps R71, and every own score lies in 0..1023 (R92). -/
abbrev Ofb.claimLaw (o : Ofb) : Prop :=
  ∀ e ∈ slotEntries o.slots, claimsLaw e.claims ∧ e.score.getD 0 ≤ 1023

/-! ## Availability, jobs and alarms (R72, R110, R127) -/

/-- The availability held is the one its inputs give, and the board and the PPU were notified of it (R109, R110). -/
abbrev State.availLaw (s : State) : Prop :=
  s.fre.avail = some s.availNow ∧ s.ofb.avail = some s.availNow ∧ s.ppu.avail = some s.availNow

/-- The entries that hold a job: TAKING or TAKEN (R72). -/
def Ofb.jobs (o : Ofb) : List BoardEntry := (slotEntries o.slots).filter (·.state.holdsJob)

/-- At most one entry is in TAKING or TAKEN, and the fare engine is in ON-CALL exactly when one is (R72); an entry past
its retention is terminal (R73). -/
abbrev State.jobLaw (s : State) : Prop :=
  s.ofb.jobs.length = (if s.ret.fare = .onCall then 1 else 0)
    ∧ ∀ e ∈ slotEntries s.ofb.slots, e.retentionPassed = true → e.state.live = false

/-- While ALERTING, the fare engine is neither HIRED nor ON-CALL, and no entry is OPEN, CLAIM-PENDING, TAKING or TAKEN (R127). -/
abbrev State.alarmLaw (s : State) : Prop :=
  s.ret.alarm = .alerting →
    s.ret.fare ≠ .hired ∧ s.ret.fare ≠ .onCall
      ∧ ∀ e ∈ slotEntries s.ofb.slots,
        e.state ≠ .opened ∧ e.state ≠ .claimPending ∧ e.state ≠ .taking ∧ e.state ≠ .taken

/-- Entries are OPEN or CLAIM-PENDING only while the availability last notified is FREE (R78, R90). -/
abbrev State.openLaw (s : State) : Prop :=
  s.ofb.avail ≠ some .free → ∀ e ∈ slotEntries s.ofb.slots, e.state ≠ .opened ∧ e.state ≠ .claimPending

/-- The laws that tie the fare engine, the board and the emergency unit together, on a part with its supply. -/
abbrev State.deviceLaw (s : State) : Prop := s.powered = true → s.availLaw ∧ s.jobLaw ∧ s.openLaw ∧ s.alarmLaw

/-! ## The trip in progress (R112, R116, R121) -/

/-- The meter figures held are in range (R112). -/
abbrev Retained.figuresLaw (r : Retained) : Prop :=
  (∀ k ∈ r.k, 500 ≤ k ∧ k ≤ 65000) ∧ ∀ t ∈ slotEntries r.tariffs, t.inRange = true ∧ t.dpOk r.k = true

/-- A trip's accumulator, units, bucket and extras are in range, and Θ is positive (R116). -/
abbrev Trip.law (t : Trip) : Prop :=
  1 ≤ t.theta ∧ t.acc < t.theta ∧ t.units ≤ cap16 ∧ t.bucket ≤ 4000 ∧ t.extras.length ≤ 8

/-- A trip is in progress exactly in HIRED, HELD and TOTAL, and keeps its ranges (R116). -/
abbrev Retained.tripLaw (r : Retained) : Prop :=
  r.figuresLaw ∧ (r.trip.isSome = r.fare.running) ∧ ∀ t ∈ r.trip, t.law

/-! ## Relayed frames (R35, R42) -/

/-- No relayed frame in the queue or in a hold has the own station id as its origin, and its hops fit the field (R35);
in CONFIG nothing is queued, held or being taken (R30, R48). -/
abbrev State.relayLaw (s : State) : Prop :=
  (s.cpt.part = .config → s.cau.queue = [] ∧ slotEntries s.rru.holds = [] ∧ s.rru.rx = .idle) ∧
  (∀ e ∈ s.cau.queue, e.owner = .relay → e.frame.origin ≠ s.ownId ∧ e.frame.hops ≤ 2)
    ∧ ∀ h ∈ slotEntries s.rru.holds, h.frame.origin ≠ s.ownId ∧ 1 ≤ h.frame.hops ∧ h.frame.hops ≤ 3

/-! ## Records without their marks -/

/-- A board entry without its pending marks. -/
def BoardEntry.unmark (e : BoardEntry) : BoardEntry := { e with claimMark := none, takeMark := none, dropMark := none }

/-- An inbox record without its receipt marks. -/
def InNote.unmark (r : InNote) : InNote := { r with storedMark := none, readMark := none }

/-- An outbox record without what the queue's answers change: its mark and, while it is live, its state (R157). -/
def OutNote.unmark (r : OutNote) : OutNote :=
  { r with mark := none, state := if r.state.live then .queued else r.state }

/-- A cache entry without its relay mark. -/
def CacheEntry.unmark (c : CacheEntry) : CacheEntry := { c with mark := .none }

/-- Counts a queue operation may raise left aside: truncated frames, relays dropped, own frames refused (R19, R32, R45). -/
def Stats.unqueued (x : Stats) : Stats := { x with truncated := 0, relaysDropped := 0, ownRefused := 0 }

/-- What a queue operation leaves alone: the timebase, the supplies, the pins, the PPU, FRE, EMU and CPT, the retained
store but for the sequence counter, the records of the board, the note store and the tally but for their marks, the
holds, the cache but for relay marks and entries whose mark has ended, and the counts that are not the queue's. -/
structure QueueFrame (s t : State) : Prop where
  now : t.now = s.now
  powered : t.powered = s.powered
  storeLost : t.storeLost = s.storeLost
  pins : t.pins = s.pins
  ppu : t.ppu = s.ppu
  fre : t.fre = s.fre
  emu : t.emu = s.emu
  cpt : t.cpt = s.cpt
  pending : t.pending = s.pending
  ret : t.ret = { s.ret with seq := t.ret.seq }
  store : s.check = storeCheck s.ret → t.check = storeCheck t.ret
  board : t.ofb.slots.map (·.map (·.unmark)) = s.ofb.slots.map (·.map (·.unmark))
  boardFull : t.ofb.boardFull = s.ofb.boardFull
  boardAvail : t.ofb.avail = s.ofb.avail
  inbox : t.nts.inbox.map (·.map (·.unmark)) = s.nts.inbox.map (·.map (·.unmark))
  outbox : t.nts.outbox.map (·.map (·.unmark)) = s.nts.outbox.map (·.map (·.unmark))
  holds : t.rru.holds = s.rru.holds
  clash : t.rru.clashReported = s.rru.clashReported
  sync : t.rru.syncAt = s.rru.syncAt
  cache : (t.rru.cache.map (·.unmark)).Sublist (s.rru.cache.map (·.unmark))
  stats : t.rru.stats.unqueued = s.rru.stats.unqueued
  tally : t.ttl.tally.map (·.body) = s.ttl.tally.map (·.body)
  shiftTick : t.ttl.shiftTickAt = s.ttl.shiftTickAt

/-- OPEN and CLAIM-PENDING taken to WATCH. -/
def OfferState.calm : OfferState → OfferState
  | .opened => .watch
  | .claimPending => .watch
  | st => st

/-- A board entry up to its marks, with OPEN and CLAIM-PENDING taken to WATCH and a WATCH entry's reason left out: what R78 cannot change. -/
def BoardEntry.calm (e : BoardEntry) : BoardEntry :=
  { e.unmark with
    state := e.state.calm
    reason := if e.state.calm = .watch then none else e.reason }

/-- What a recomputation leaves alone (R78, R110). -/
structure AvailFrame (s t : State) : Prop where
  now : t.now = s.now
  powered : t.powered = s.powered
  storeLost : t.storeLost = s.storeLost
  pins : t.pins = s.pins
  ppu : t.ppu = { s.ppu with avail := t.ppu.avail, changeAt := t.ppu.changeAt }
  fre : t.fre = { s.fre with avail := t.fre.avail }
  emu : t.emu = s.emu
  cpt : t.cpt = s.cpt
  pending : t.pending = s.pending
  ret : t.ret = { s.ret with seq := t.ret.seq }
  store : s.check = storeCheck s.ret → t.check = storeCheck t.ret
  board : t.ofb.slots.map (·.map (·.calm)) = s.ofb.slots.map (·.map (·.calm))
  boardFull : t.ofb.boardFull = s.ofb.boardFull
  inbox : t.nts.inbox.map (·.map (·.unmark)) = s.nts.inbox.map (·.map (·.unmark))
  outbox : t.nts.outbox.map (·.map (·.unmark)) = s.nts.outbox.map (·.map (·.unmark))
  holds : t.rru.holds = s.rru.holds
  clash : t.rru.clashReported = s.rru.clashReported
  sync : t.rru.syncAt = s.rru.syncAt
  cache : (t.rru.cache.map (·.unmark)).Sublist (s.rru.cache.map (·.unmark))
  stats : t.rru.stats.unqueued = s.rru.stats.unqueued
  tally : t.ttl.tally.map (·.body) = s.ttl.tally.map (·.body)
  shiftTick : t.ttl.shiftTickAt = s.ttl.shiftTickAt

/-! ## Frames joining the queue, slots chosen and written -/

/-- No slot of the table holds a record with the property. -/
def noSlot {α : Type} (l : List (Option α)) (p : α → Prop) : Prop := ∀ i x, slotGet l i = some x → ¬ p x

/-- The slot holds a record with the property, and every other such record has a later time. -/
def firstSlot {α : Type} (l : List (Option α)) (p : α → Prop) (time : α → Nat) (slot : Nat) : Prop :=
  ∃ x, slotGet l slot = some x ∧ p x ∧ ∀ i y, i ≠ slot → slotGet l i = some y → p y → time x < time y

/-- In RUN, a place is free and the access unit takes no decision: an own frame without a group simply joins the queue. -/
abbrev State.room (s : State) : Prop := s.cpt.part = .run ∧ s.cau.count < 8 ∧ s.cau.waits

/-- The entry of an own frame accepted for the first time at this moment (R3, R4, R13, R15). -/
def State.ownEntry (s : State) (r : OwnRef) (b : Body) : QEntry where
  frame := {
    fleet := s.ownFleet
    origin := s.ownId
    hops := b.kind.budget
    relayed := false
    sender := s.ownId
    seq := s.ret.seq
    body := b }
  cls := r.cls
  enq := s.now
  owner := .own r
  endOfCopy := none
  mark := none

/-- The board with an entry written into a slot. -/
def State.withEntry (s : State) (slot : Nat) (e : BoardEntry) : State :=
  { s with ofb := { s.ofb with slots := s.ofb.slots.set slot (some e) } }

/-- The retained store with a new content and its check word (R141). -/
def State.withRet (s : State) (r : Retained) : State := { s with ret := r, check := storeCheck r }

/-- The idle timer counts from `now` when it starts, keeps counting, or stands at 0 (R88). -/
def State.idleFrom (s : State) (fare : FareState) (driver : DriverStatus) : Option Nat :=
  if fare = .vacant ∧ driver = .available then some (s.fre.idleSince.getD s.now) else none

/-- A head of this class may be keyed now: CD is inactive and the guard time has passed since the idle reference (R22, R23), or it
is of class 0 in blocked operation (R29). -/
abbrev State.clearFor (s : State) (cls : Nat) : Prop :=
  (s.pins.cd = false ∧ ∃ t, s.cau.idleRef = some t ∧ t + (if cls = 0 then 20 else 60) * ms ≤ s.now)
    ∨ (s.cau.blocked = true ∧ cls = 0)

/-- The state with this entry keyed now for its airtime, `rest` unsent, reception off, and a frame being taken truncated
(R2, R25, R32). -/
def State.airing (s : State) (e : QEntry) (rest : List QEntry) : State :=
  { s with
    cau := { s.cau with
      queue := rest
      onAir := some { entry := e, start := s.now, stop := s.now + (16 + e.frame.body.bytes.length) * 8 * 5 }
      au := .rest }
    rru := { s.rru with
      rx := .idle
      stats := if s.rru.rx = .taking then { s.rru.stats with truncated := inc16 s.rru.stats.truncated } else s.rru.stats } }

/-- The state with these entries unsent and the access unit waiting out that many slots of 30 ms, drawn now (R24). -/
def State.backingOff (s : State) (queue : List QEntry) (slots : Nat) : State :=
  { s with
    draws := s.draws + 1
    cau := { s.cau with queue := queue, au := .waiting (s.now + slots * (30 * ms)) } }

/-! ## The port as a command finds and leaves it (R179 to R185) -/

/-- A powered part in this part state, with the port in READY. -/
abbrev State.ready (s : State) (p : PartState) : Prop :=
  s.powered = true ∧ s.cpt.phase = .ready ∧ s.cpt.part = p

/-- The status byte sent with the last byte of a command: in READY for a code alone, and in PARAM with PHASE-ERROR
cleared when parameters are collected (R179 to R182). -/
def State.lastStatus (s : State) (collecting : Bool) : Byte :=
  byte (flagBits [s.inRun, s.cau.blocked, !collecting && s.cpt.phaseError, !s.cpt.events.isEmpty, false, false,
    collecting, !collecting])

/-- The state `u` with the port as it stands after a command taken at `s`: RESULT with these bytes to read, empty command
buffer, PHASE-ERROR clear, and CSN high again (R179, R181 to R184). -/
def State.answering (u s : State) (collecting : Bool) (result : List Byte) : State :=
  (u.setPins { u.pins with csnLow := false }).setCpt { u.cpt with
    phase := .result
    code := 0
    params := []
    abandonAt := none
    result := result
    phaseError := false
    muted := .off
    sdo := s.lastStatus collecting }

end Sys2Proof.Machine

namespace Sys2Proof

open Sys2Proof.Machine

/-- A host command as the port carries it: its group (R185), its code byte and its parameter bytes (R192). No other row is one. -/
def Instr.command : Instr → Option (CmdGroup × Byte × List Byte)
  | .configure id fleet home vclass bid dflt dist pen idle beacon cancel duress sign =>
    some (.config, 0x01, wordBytes id ++ [fleet, home, vclass, bid, dflt] ++ wordBytes dist ++ [pen, idle, beacon]
      ++ wordBytes cancel ++ wordBytes duress ++ [sign])
  | .loadZone l => some (.config, 0x02, byte l.length :: l)
  | .loadTariff slot fall amount dist time n0 _ =>
    some (.config, 0x03, [slot] ++ wordBytes fall ++ wordBytes amount ++ wordBytes dist ++ wordBytes time ++ [n0])
  | .loadSurcharge index amount _ => some (.config, 0x04, index :: wordBytes amount)
  | .setPulseConstant k _ => some (.config, 0x05, wordBytes k)
  | .go => some (.config, 0x0F, [])
  | .senseEvent => some (.any, 0x10, [])
  | .readStatus _ => some (.any, 0x11, [])
  | .restart _ => some (.any, 0x12, [])
  | .readChannelStats => some (.any, 0x13, [])
  | .setPosition east north fix => some (.operating, 0x20, wordBytes east ++ wordBytes north ++ [fix])
  | .setDriverStatus status => some (.operating, 0x21, [status])
  | .readPeer slot => some (.operating, 0x22, [slot])
  | .readOffer slot => some (.operating, 0x30, [slot])
  | .scanOffers start mask score zone =>
    some (.operating, 0x31, [start, mask.extractLsb' 16 8, mask.extractLsb' 8 8, mask.extractLsb' 0 8]
      ++ wordBytes score ++ [zone])
  | .acceptOffer slot => some (.operating, 0x32, [slot])
  | .passOffer slot => some (.operating, 0x33, [slot])
  | .releaseJob reason => some (.operating, 0x34, [reason])
  | .hire tariff => some (.operating, 0x40, [tariff])
  | .stop => some (.operating, 0x41, [])
  | .resume => some (.operating, 0x42, [])
  | .settle payment => some (.operating, 0x43, [payment])
  | .addExtra amount => some (.operating, 0x44, wordBytes amount)
  | .readFare => some (.operating, 0x45, [])
  | .startShift => some (.operating, 0x46, [])
  | .endShift => some (.operating, 0x47, [])
  | .readTotals => some (.operating, 0x48, [])
  | .readTrip n => some (.operating, 0x49, [n])
  | .postNote l => some (.operating, 0x50, byte l.length :: l)
  | .readNote slot word => some (.operating, 0x51, [slot, word])
  | .scanNotes start mask urgentOnly origin =>
    some (.operating, 0x52, [start, mask, urgentOnly] ++ wordBytes origin)
  | .markRead slot => some (.operating, 0x53, [slot])
  | .deleteNote slot => some (.operating, 0x54, [slot])
  | .readOutbox slot => some (.operating, 0x55, [slot])
  | .clearOutbox => some (.operating, 0x56, [])
  | .raiseAlarm => some (.operating, 0x60, [])
  | .cancelAlarm code => some (.operating, 0x61, wordBytes code)
  | .readAlarm index => some (.operating, 0x62, [index])
  | _ => none

/-- The pins as a row finds them: TPROT at a command that reads it, PANIC at a reset (assumption 13). -/
def Instr.sampled : Instr → Machine.State → Machine.State
  | .loadTariff _ _ _ _ _ _ tp, s => s.setPins { s.pins with tprotOpen := tp }
  | .loadSurcharge _ _ tp, s => s.setPins { s.pins with tprotOpen := tp }
  | .setPulseConstant _ tp, s => s.setPins { s.pins with tprotOpen := tp }
  | .readStatus tp, s => s.setPins { s.pins with tprotOpen := tp }
  | .restart low, s => s.samplePanic low
  | _, s => s

end Sys2Proof
end

