-- ==== Sys2Proof/Certificates/Slice0/Obligations.lean ====
section
/-! DEFINITION. The statements for the provers: the manual's rules about the part, one Prop each. -/

open Sys2Proof Sys2Proof.Machine

/-! ## The queue of rows -/

/-- A step takes the row at the front of the queue and runs it on the state with the queue's rest. -/
def Obligations.StepRunsTheFrontRow : Prop :=
  ∀ (c : Instr) (rest : List Instr) (s : State), s.pending = c :: rest → step s = exec c (s.setPending rest)

/-- MODEL'S CHOICE, log entries 1, 3 and 5: on an empty queue the internal timebase runs. A unit of time passes when no row is
due, and at a period of RCLK a hunting receiver clocks the bit on RXD, a free value, into its window of the last sixteen
bits (R31); otherwise one of the due rows enters the queue. Errors of the part are completion codes, PHASE-ERROR, counts and
events (R47, R180, R184, R189): every row answers a next state, and leaves the queue of waiting rows alone. -/
def Obligations.EmptyQueueRunsTheTimebaseAndRowsNeverStop : Prop :=
  (∀ s : State, s.pending = [] →
     (s.dueRows = [] →
       ((∀ w, s.rru.rx ≠ .hunting w) ∨ (s.now + 1) % 5 ≠ 0 → step s = .next { s with now := s.now + 1 })
       ∧ ∀ w, s.rru.rx = .hunting w → (s.now + 1) % 5 = 0 → ∃ bit : Bool, step s = .next { s with
         now := s.now + 1
         draws := s.draws + 1
         rru := { s.rru with rx := .hunting ((w ++ [bit]).drop (w.length - 15)) } })
     ∧ (s.dueRows ≠ [] → ∃ r ∈ s.dueRows, step s = .next { s with draws := s.draws + 1, pending := [r] }))
  ∧ (∀ (c : Instr) (s : State), ∃ t, exec c s = .next t ∧ t.pending = s.pending)

/-! ## Frames as bytes and their reception (chapters 1 and 3) -/

/-- A frame the layouts of section 1.4 admit is read back field by field from its header and body bytes (R3, R6, R8, R9), and
its bytes are whole and pass the check. The tests of R8 and the values of R9, kind by kind, of header and body bytes as
section 1.4 lays them out: the bytes are read as a frame exactly when every test holds, and the frame then carries these
values; of all other bytes nothing is read. A job reference whose base id is outside 1..31 is absent for the receiver (R9).
The check of R5 over header, body and the two check bytes ends with the register at zero, whatever the bytes. Where it rests
on the model's choice, log entry 6 says so. -/
def Obligations.FrameBytesReadBack : Prop :=
  (∀ f : Frame, f.wellFormed = true →
     readFrame f.content = some f ∧ frameWhole f.bytes = true ∧ checkGood f.bytes = true
       ∧ at8 f.bytes 1 = f.fleet)
  ∧ ((∀ (l : List Byte) (f : Frame),
       let c (i : Nat) : Byte := l.getD i 0
       let n (i : Nat) : Nat := (c i).toNat
       let w (i : Nat) : Nat := n i * 256 + n (i + 1)
       let d (i : Nat) : Nat := w i * 65536 + w (i + 2)
       let id (i : Nat) : Nat := w i % 4096
       let key (i : Nat) : JobKey := ⟨id i, w (i + 2)⟩
       let point (i : Nat) : Point := ⟨w i, w (i + 2)⟩
       let text (i : Nat) : List Byte := (l.drop i).map fun x => if 0x20 ≤ x.toNat ∧ x.toNat ≤ 0x7E then x else 0x3F
       let base (i : Nat) : Prop := 1 ≤ i ∧ i ≤ 31
       let cab (i : Nat) : Prop := 32 ≤ i ∧ i ≤ 4094
       let station (i : Nat) : Prop := 1 ≤ i ∧ i ≤ 4094
       let zone (i : Nat) : Nat := if i ≤ 63 then i else 255
       let vclass (i : Nat) : Option Nat := if i ≤ 3 then some i else none
       let avail (i : Nat) : Option Avail := [Avail.free, .noFix, .onCall, .hired, .total, .onBreak, .off, .alarm][i]?
       let receipt (i : Nat) : Option ReceiptKind := [ReceiptKind.stored, .read, .refusedFull][i]?
       let reads (kind length : Nat) (origin : Nat → Prop) (body : Body) : Prop :=
         n 0 = kind ∧ l.length = 8 + length ∧ origin (id 2) ∧ f.body = body
       readFrame l = some f ↔
         f.fleet = n 1 ∧ f.origin = id 2 ∧ f.hops = n 2 / 64 ∧ f.relayed = (c 2).getLsbD 5 ∧ f.sender = id 4 ∧ f.seq = n 6
         ∧ station (id 4)
         ∧ (reads 0x01 7 station (.beacon (point 8) ((c 12).getLsbD 7) (avail (n 12 % 16)) (zone (n 13)) (vclass (n 14)))
           ∨ (reads 0x10 (11 + n 18) base (.offer {
               job := w 8, pickup := point 10, zone := zone (n 14), window := min (n 15) 300, mask := (c 16).extractLsb' 0 4
               account := (c 17).getLsbD 0, note := text 19 }) ∧ n 18 ≤ 24)
           ∨ (reads 0x11 7 cab (.claim (key 8) (min (w 12) 1023) (vclass (n 14))) ∧ base (id 8))
           ∨ (reads 0x12 8 cab (.take (key 8) (min (w 12) 1023) (n 14) ((c 15).getLsbD 0)) ∧ base (id 8))
           ∨ (reads 0x13 5 cab (.drop (key 8) (n 12)) ∧ base (id 8))
           ∨ reads 0x14 3 base (.cancel (w 8) (min (n 10) 2))
           ∨ (reads 0x20 (5 + n 12) station (.note {
               dest := id 8, id := n 10, wanted := (c 11).getLsbD 0, urgent := (c 11).getLsbD 1, ref := none
               text := text 13 }) ∧ (c 11).getLsbD 2 = false ∧ id 8 ≠ 0 ∧ 1 ≤ n 12 ∧ n 12 ≤ 40)
           ∨ (reads 0x20 (9 + n 16) station (.note {
               dest := id 8, id := n 10, wanted := (c 11).getLsbD 0, urgent := (c 11).getLsbD 1, ref := some (key 12)
               text := text 17 }) ∧ (c 11).getLsbD 2 = true ∧ id 8 ≠ 0 ∧ 1 ≤ n 16 ∧ n 16 ≤ 40)
           ∨ (∃ kind, receipt (n 11) = some kind ∧ reads 0x21 4 station (.receipt (id 8) (n 10) kind) ∧ station (id 8))
           ∨ reads 0x30 7 cab (.alarm (n 8) (n 9) ((c 10).getLsbD 0) ((c 10).getLsbD 1) (point 11))
           ∨ reads 0x31 5 cab (.alarmEnd (n 8) (point 9))
           ∨ (reads 0x40 23 cab (.tally {
               dest := id 8, shiftEnd := (c 10).getLsbD 0, trips := w 11, fare := d 13, extras := d 17, hired := d 21
               dist := d 25, lastTrip := w 29 }) ∧ base (id 8))))
     ∧ ∀ (x : NoteBody) (k : JobKey), x.jobKey = some k ↔ x.ref = some k ∧ 1 ≤ k.base ∧ k.base ≤ 31)
  ∧ (∀ l : List Byte, crc16 (l ++ crcBytes l) = 0)

/-- The filters of R33 from the check to the own origin: what a whole frame that fails one brings. Nothing else in the part
changes, and the receiver returns to the hunt. A good frame of the own fleet from another station (R36, R37, R39): one good
frame, the peer notice, and then the delivery to the block of its kind. A BEACON or a CLAIM is delivered at every copy;
another kind, when it is new, is cached and delivered, and then the relay decision is made. A good frame of any relayable
kind beside a cached one (R36, R39, R40): a copy counts, and delivers nothing; the second further copy of a held frame frees
its hold and cancels its relay. A new frame that finds the cache full evicts the entry first heard earliest of those without
a relay mark. Where it rests on the model's choices, log entries 3 and 5 say so. -/
def Obligations.ReceivedFramesAreFilteredAndDelivered : Prop :=
  (∀ (bytes : List Byte) (further : Nat) (s : State), s.rru.rx = .taking → frameWhole bytes = true →
     let rx := s.rxOpen s.pins.cd
     let malformed := { s.rru.stats with malformed := inc16 s.rru.stats.malformed }
     (checkGood bytes = false →
       exec (.frameReceived bytes further) s = .next { s with
         rru := { s.rru with rx := rx, stats := { s.rru.stats with checkFailures := inc16 s.rru.stats.checkFailures } } })
     ∧ (checkGood bytes = true → 8 ≤ further →
       exec (.frameReceived bytes further) s = .next { s with rru := { s.rru with rx := rx, stats := malformed } })
     ∧ (checkGood bytes = true → further < 8 → at8 bytes 1 ≠ s.ownFleet →
       exec (.frameReceived bytes further) s = .next { s with rru := { s.rru with rx := rx } })
     ∧ (checkGood bytes = true → further < 8 → at8 bytes 1 = s.ownFleet →
       readFrame (bytes.take (bytes.length - 2)) = none →
       exec (.frameReceived bytes further) s = .next { s with rru := { s.rru with rx := rx, stats := malformed } })
     ∧ ∀ f, checkGood bytes = true → further < 8 → at8 bytes 1 = s.ownFleet →
       readFrame (bytes.take (bytes.length - 2)) = some f →
       (f.sender = s.ownId →
         exec (.frameReceived bytes further) s = .next { s with
           rru := { s.rru with
             rx := rx
             stats := { s.rru.stats with idClashes := inc16 s.rru.stats.idClashes }
             clashReported := true }
           cpt := if s.rru.clashReported then s.cpt
             else { s.cpt with
               events := (raiseIn s.cpt.events s.cpt.overflow .idClash f.origin 0).1
               overflow := (raiseIn s.cpt.events s.cpt.overflow .idClash f.origin 0).2 } })
       ∧ (f.sender ≠ s.ownId → f.origin = s.ownId →
         exec (.frameReceived bytes further) s = .next { s with rru := { s.rru with rx := rx } }))
  ∧ (∀ (f : Frame) (further : Nat) (s : State), f.wellFormed = true → f.sender ≠ s.ownId → f.origin ≠ s.ownId →
       f.fleet = s.ownFleet → s.rru.rx = .taking → further < 8 →
       let ended := min s.now (s.rru.syncAt + f.bytes.length * 8 * bitPeriod)
       let u := { s with rru := { s.rru with
         stats := { s.rru.stats with good := inc16 s.rru.stats.good } } }.peerNotice f ended
       (f.body.kind = .beacon ∨ f.body.kind = .claim →
         exec (.frameReceived f.bytes further) s = .next (u.deliver f ended).resumeHunt)
       ∧ (f.body.kind ≠ .beacon → f.body.kind ≠ .claim → (∀ c ∈ s.rru.cache, c.key ≠ f.key) → s.rru.cache.length < 16 →
         let v := { u with
           draws := u.draws + 1
           rru := { u.rru with cache := s.rru.cache ++ [(⟨f.key, ended, 1, .none⟩ : CacheEntry)] } }.deliver f ended
         exec (.frameReceived f.bytes further) s = .next (if v.shouldRelay f then v.holdFrame f ended else v).resumeHunt))
  ∧ (∀ (f : Frame) (further : Nat) (s : State), f.wellFormed = true → f.sender ≠ s.ownId → f.origin ≠ s.ownId →
       f.fleet = s.ownFleet → s.rru.rx = .taking → further < 8 → f.body.kind ≠ .beacon → f.body.kind ≠ .claim →
       let ended := min s.now (s.rru.syncAt + f.bytes.length * 8 * bitPeriod)
       let stats := { s.rru.stats with good := inc16 s.rru.stats.good }
       let u := { s with rru := { s.rru with stats := stats } }.peerNotice f ended
       let rru := { s.rru with rx := s.rxOpen s.pins.cd }
       (∀ before c after, s.rru.cache = before ++ c :: after → c.key = f.key → (∀ x ∈ before ++ after, x.key ≠ f.key) →
         (c.mark = .none ∨ c.copies ≠ 2 → exec (.frameReceived f.bytes further) s = .next { u with rru := { rru with
           stats := { stats with copies := inc16 s.rru.stats.copies }
           cache := before ++ { c with copies := min 15 (c.copies + 1) } :: after } })
         ∧ ∀ i, c.mark = .hold i → c.copies = 2 → s.now < c.firstHeard + 60000 * ms →
           exec (.frameReceived f.bytes further) s = .next { u with rru := { rru with
             stats := { stats with
               copies := inc16 s.rru.stats.copies, relaysCancelled := inc16 s.rru.stats.relaysCancelled }
             cache := before ++ { c with copies := 3, mark := .none } :: after
             holds := s.rru.holds.set i none } })
       ∧ ∀ before c after, (∀ x ∈ s.rru.cache, x.key ≠ f.key) → s.rru.cache.length = 16 →
         s.rru.cache = before ++ c :: after → c.mark = .none →
         (∀ x ∈ before ++ after, x.mark = .none → c.firstHeard < x.firstHeard) →
         let v := { u with
           draws := u.draws + 1
           rru := { u.rru with cache := before ++ after ++ [(⟨f.key, ended, 1, .none⟩ : CacheEntry)] } }.deliver f ended
         exec (.frameReceived f.bytes further) s = .next (if v.shouldRelay f then v.holdFrame f ended else v).resumeHunt)

/-- A BEACON heard straight from its origin: one good frame, and the station's peer entry is updated (R36, R60, R62) or made in
the lowest free slot (R59, R60). Nothing else changes. The peer notice (R60 to R63). A copy sent by another station than its
origin updates the sender with hop 0, and the origin, whose hop 0 stands for 60,000 ms after its last direct copy and is 1
otherwise; a BEACON or an ALARM writes the origin's position, a BEACON its report. A new station takes the lowest free slot,
or in a full table that of the entry heard longest ago whose station has no alarm ACTIVE or SILENT; without such an entry it
is not entered. Where it rests on the model's choices, log entries 3, 5, 22 and 27 say so. -/
def Obligations.BeaconHeardUpdatesThePeerTable : Prop :=
  (∀ (f : Frame) (further : Nat) (s : State) (pos : Point) (fix : Bool) (status : Option Avail) (zone : Nat)
     (vclass : Option Nat), f.wellFormed = true → f.body = .beacon pos fix status zone vclass → f.sender = f.origin →
     f.sender ≠ s.ownId → f.fleet = s.ownFleet → s.rru.rx = .taking → further < 8 →
     let ended := min s.now (s.rru.syncAt + f.bytes.length * 8 * bitPeriod)
     let rru := { s.rru with
       rx := s.rxOpen s.pins.cd, stats := { s.rru.stats with good := inc16 s.rru.stats.good } }
     (∀ slot p, s.peer f.sender = some (slot, p) →
       exec (.frameReceived f.bytes further) s = .next { s with
         rru := rru
         ppu := { s.ppu with peers := s.ppu.peers.set slot (some { p with
           hop := 0
           lastHeard := ended
           lastDirect := some ended
           frames := min 65535 (p.frames + 1)
           position := some ⟨pos, fix⟩
           report := some ⟨status, zone, vclass⟩ }) } })
     ∧ ∀ slot, s.peer f.sender = none → lowestFree s.ppu.peers = some slot →
       exec (.frameReceived f.bytes further) s = .next { s with
         draws := s.draws + 1
         rru := rru
         ppu := { s.ppu with peers := s.ppu.peers.set slot (some {
           id := f.sender
           hop := 0
           lastHeard := ended
           lastDirect := some ended
           frames := 1
           position := some ⟨pos, fix⟩
           report := some ⟨status, zone, vclass⟩ }) } })
  ∧ (∀ (s : State) (f : Frame) (t : Nat),
       let sender (p : Peer) : Peer :=
         { p with hop := 0, lastHeard := t, lastDirect := some t, frames := min 65535 (p.frames + 1) }
       let hop (p : Peer) : Nat := match p.lastDirect with
         | some d => if p.hop = 0 ∧ t ≤ d + 60000 * ms then 0 else 1
         | none => 1
       let origin (p : Peer) : Peer := { p with hop := hop p, lastHeard := t, frames := min 65535 (p.frames + 1) }
       let reported (p : Peer) : Peer := match f.body with
         | .beacon pos fix status zone vclass =>
           { p with position := some ⟨pos, fix⟩, report := some ⟨status, zone, vclass⟩ }
         | .alarm _ _ fix _ pos => { p with position := some ⟨pos, fix⟩ }
         | _ => p
       let fresh (id hop : Nat) : Peer := ⟨id, hop, 0, none, 0, none, none⟩
       let put (n : Nat) (peers : List (Option Peer)) : State :=
         { s with draws := s.draws + n, ppu := { s.ppu with peers := peers } }
       let unprotected (p : Peer) : Prop :=
         ∀ a ∈ slotEntries s.emu.table, a.origin = p.id → a.state ≠ .active ∧ a.state ≠ .silent
       (∀ i p j q, f.sender ≠ f.origin → s.peer f.sender = some (i, p) → s.peer f.origin = some (j, q) →
         s.peerNotice f t = put 0 ((s.ppu.peers.set i (some (sender p))).set j (some (reported (origin q)))))
       ∧ (∀ i p j, f.sender ≠ f.origin → s.peer f.sender = some (i, p) → s.peer f.origin = none →
         lowestFree s.ppu.peers = some j → s.peerNotice f t
           = put 1 ((s.ppu.peers.set i (some (sender p))).set j (some (reported (origin (fresh f.origin 1))))))
       ∧ (∀ j, f.sender = f.origin → s.peer f.origin = none → lowestFree s.ppu.peers = none →
         firstSlot s.ppu.peers unprotected (·.lastHeard) j → s.peerNotice f t
           = put 1 (s.ppu.peers.set j (some (reported (sender (fresh f.origin 0))))))
       ∧ (f.sender = f.origin → s.peer f.origin = none → lowestFree s.ppu.peers = none →
         noSlot s.ppu.peers unprotected → s.peerNotice f t = s))

/-- A whole, good CANCEL of the own fleet (R36, R39, R42, R43): a new one for no job of the board is cached and taken into the
lowest free hold with a delay of 40..400 ms; a copy only counts (R40), and the second further copy of a held frame cancels
its relay. Beyond the receive unit, only the peer table and the use of free values change. The second further copy of a
frame whose relayed copy is in the queue (R21, R40): the copy leaves the queue, the relay counts as cancelled, and its mark
ends. The release of a relay hold (R43, R44): the hold is freed; with a place in the queue the copy, with own sender, one
hop fewer and the relayed flag set, becomes its last entry and the cache mark QUEUED, and a resting access unit keys it when
its guard time is met, or as class 0 in blocked operation, but for an OFFER, which R26 tests first, and else draws a backoff
(R23, R24, R29); refused, the relay counts as dropped and the mark ends (R45). The relay decision (R42): every kind but
BEACON and CLAIM, with a hop left, whose destination is another station of the peer table (a CANCEL, an ALARM, an ALARM-END
and a note to all stations need none), and an OFFER with 20 units or more. Where it rests on the model's choices, log
entries 2, 3 and 5 say so. -/
def Obligations.NewFramesAreHeldReleasedOrCancelled : Prop :=
  (∀ (f : Frame) (further : Nat) (s : State) (job reason : Nat), f.wellFormed = true → f.body = .cancel job reason →
     f.sender ≠ s.ownId → f.origin ≠ s.ownId → f.fleet = s.ownFleet → s.rru.rx = .taking → further < 8 →
     let ended := min s.now (s.rru.syncAt + f.bytes.length * 8 * bitPeriod)
     let with_ (rru : Rru) : Prop := ∃ t, exec (.frameReceived f.bytes further) s = .next t
       ∧ t = { s with draws := t.draws, ppu := { s.ppu with peers := t.ppu.peers }, rru := rru }
     let stats := { s.rru.stats with good := inc16 s.rru.stats.good }
     let rru := { s.rru with rx := s.rxOpen s.pins.cd }
     (∀ i, (∀ c ∈ s.rru.cache, c.key ≠ f.key) → s.rru.cache.length < 16 → s.entry ⟨f.origin, job⟩ = none →
       1 ≤ f.hops → lowestFree s.rru.holds = some i →
       ∃ delay, 40 ≤ delay ∧ delay ≤ 400 ∧ with_ { rru with
         stats := stats
         cache := s.rru.cache ++ [⟨f.key, ended, 1, .hold i⟩]
         holds := s.rru.holds.set i (some ⟨f, ended, s.now + delay * ms⟩) })
     ∧ ∀ before after c, s.rru.cache = before ++ c :: after → c.key = f.key →
       (∀ x ∈ before ++ after, x.key ≠ f.key) →
       ((c.mark = .none ∨ c.copies ≠ 2) → with_ { rru with
         stats := { stats with copies := inc16 s.rru.stats.copies }
         cache := before ++ { c with copies := min 15 (c.copies + 1) } :: after })
       ∧ ∀ i, c.mark = .hold i → c.copies = 2 → s.now < c.firstHeard + 60000 * ms → with_ { rru with
         stats := { stats with
           copies := inc16 s.rru.stats.copies, relaysCancelled := inc16 s.rru.stats.relaysCancelled }
         cache := before ++ { c with copies := 3, mark := .none } :: after
         holds := s.rru.holds.set i none })
  ∧ (∀ (f : Frame) (further : Nat) (s : State) (c : CacheEntry) (before after : List CacheEntry), f.wellFormed = true →
       f.sender ≠ s.ownId → f.origin ≠ s.ownId → f.fleet = s.ownFleet → s.rru.rx = .taking → further < 8 →
       f.body.kind ≠ .beacon → f.body.kind ≠ .claim → s.rru.cache = before ++ c :: after → c.key = f.key →
       (∀ x ∈ before ++ after, x.key ≠ f.key) → c.mark = .queued → c.copies = 2 → s.now < c.firstHeard + 60000 * ms →
       s.cau.waits → s.standingMarks = [] →
       let stats := { s.rru.stats with good := inc16 s.rru.stats.good }
       let u := { s with rru := { s.rru with stats := stats } }.peerNotice f
         (min s.now (s.rru.syncAt + f.bytes.length * 8 * bitPeriod))
       exec (.frameReceived f.bytes further) s = .next { u with
         cau := { s.cau with
           queue := s.cau.queue.filter fun e => !decide (e.owner = Owner.relay ∧ e.frame.key = f.key) }
         rru := { s.rru with
           rx := s.rxOpen s.pins.cd
           stats := { stats with
             copies := inc16 s.rru.stats.copies, relaysCancelled := inc16 s.rru.stats.relaysCancelled }
           cache := before ++ { c with copies := 3, mark := .none } :: after } })
  ∧ (∀ (s : State) (i : Nat) (h : Hold), slotGet s.rru.holds i = some h → h.release ≤ s.now →
       let cls := if h.frame.body.kind = .alarm ∨ h.frame.body.kind = .alarmEnd then 0 else 2
       let e : QEntry := {
         frame := { h.frame with sender := s.ownId, hops := h.frame.hops - 1, relayed := true }
         cls := cls
         enq := s.now
         owner := .relay
         endOfCopy := if h.frame.body.kind = .offer then some h.endOfCopy else none
         mark := none }
       let released : State := { s with rru := { s.rru with
         holds := s.rru.holds.set i none
         cache := s.rru.cache.map fun c => if c.key = h.frame.key then { c with mark := .queued } else c } }
       (s.cau.count < 8 → s.cau.waits →
         exec (.relayHoldRelease i) s = .next { released with cau := { s.cau with queue := s.cau.queue ++ [e] } })
       ∧ (s.cau.queue = [] → s.cau.onAir = none → s.cau.au = .rest → s.cau.windowLaw →
         (s.clearFor cls → h.frame.body.kind ≠ .offer → exec (.relayHoldRelease i) s = .next (released.airing e []))
         ∧ (¬ s.clearFor cls → ∃ slots, 1 ≤ slots ∧ slots ≤ (if cls = 0 then 2 else s.cau.w)
           ∧ exec (.relayHoldRelease i) s = .next (released.backingOff [e] slots)))
       ∧ (8 ≤ s.cau.count → (∀ x ∈ s.cau.queue, x.cls ≤ cls) →
         exec (.relayHoldRelease i) s = .next { s with rru := { s.rru with
           holds := s.rru.holds.set i none
           stats := { s.rru.stats with relaysDropped := inc16 s.rru.stats.relaysDropped }
           cache := (s.rru.cache.map fun c => if c.key = h.frame.key then { c with mark := .none } else c).filter
             fun c => !decide (c.key = h.frame.key ∧ c.firstHeard + 60000 * ms ≤ s.now) } }))
  ∧ (∀ (s : State) (f : Frame),
       let known (id : Nat) : Prop := id ≠ s.ownId ∧ ∃ p ∈ slotEntries s.ppu.peers, p.id = id
       (s.shouldRelay f = true ↔ f.body.kind ≠ .beacon ∧ f.body.kind ≠ .claim ∧ 1 ≤ f.hops
         ∧ (∀ o, f.body = .offer o → 20 ≤ o.window)
         ∧ (∀ n, f.body = .note n → n.dest = 4095 ∨ known n.dest)
         ∧ (∀ dest id kind, f.body = .receipt dest id kind → known dest)
         ∧ (∀ k score rank rep, f.body = .take k score rank rep → known k.base)
         ∧ (∀ k reason, f.body = .drop k reason → known k.base)
         ∧ ∀ t, f.body = .tally t → known t.dest))

/-! ## The transmit queue and the channel (chapter 2) -/

/-- The head of R14 is the unsent entry of the lowest class, and among those of the earliest enqueue time. Displacement from a
full queue (R18): the entry of the greatest class with the latest enqueue time, when its class is greater than the offered
frame's; for an own class-0 frame against class-0 entries alone, the latest relayed one; otherwise none. An own frame
without a group offered in RUN to a full queue (R18, R19): it displaces the entry of R18, counted as an own frame refused or
as a relay dropped, or it is refused and counted, its owner keeping a pending mark with the time. -/
def Obligations.FullQueueDisplacesByClassAndTime : Prop :=
  (∀ q : List QEntry,
     (headOf q = none ↔ q = [])
     ∧ ∀ e, headOf q = some e → e ∈ q ∧ ∀ x ∈ q, e.cls < x.cls ∨ (e.cls = x.cls ∧ e.enq ≤ x.enq))
  ∧ (∀ (cls : Nat) (own : Bool) (q : List QEntry),
       (∀ e, victim cls own q = some e → e ∈ q ∧
         ((cls < e.cls ∧ ∀ x ∈ q, x.cls < e.cls ∨ (x.cls = e.cls ∧ x.enq ≤ e.enq))
           ∨ (cls = 0 ∧ own = true ∧ e.owner = .relay ∧ (∀ x ∈ q, x.cls = 0)
             ∧ ∀ x ∈ q, x.owner = .relay → x.enq ≤ e.enq)))
       ∧ (victim cls own q = none →
         (∀ x ∈ q, x.cls ≤ cls) ∧ (cls = 0 → own = true → ∀ x ∈ q, x.owner ≠ .relay)))
  ∧ (∀ (s : State) (r : OwnRef) (b : Body), s.cpt.part = .run → r.group = none → s.ownBody r = some b →
       8 ≤ s.cau.count → s.cau.waits →
       QueueFrame s (s.offer r)
       ∧ (∀ e, victim r.cls true s.cau.queue = some e →
         (s.offer r).cau = { s.cau with queue := s.cau.queue.erase e ++ [s.ownEntry r b] }
         ∧ (s.offer r).rru.stats = (if e.owner = .relay
           then { s.rru.stats with relaysDropped := inc16 s.rru.stats.relaysDropped }
           else { s.rru.stats with ownRefused := inc16 s.rru.stats.ownRefused }))
       ∧ (victim r.cls true s.cau.queue = none →
         let marked : Prop := (s.offer r).ownMark r = some ⟨s.now, none⟩
         (s.offer r).cau = s.cau ∧ (s.offer r).ret = s.ret
         ∧ (s.offer r).rru.stats = { s.rru.stats with ownRefused := inc16 s.rru.stats.ownRefused }
         ∧ (∀ k slot e, s.entry k = some (slot, e) →
           (r = .claim k → e.state = .claimPending → marked) ∧ (r = .take k → e.state.holdsJob = true → marked)
           ∧ (r = .drop k → marked))
         ∧ (∀ slot x, r = .note slot → slotGet s.nts.outbox slot = some x → x.state.live = true → marked)
         ∧ ∀ origin id p, s.inNote origin id = some p →
           r = .receipt .stored origin id ∨ r = .receipt .read origin id → marked))

/-- An own frame without a group, offered for the first time in RUN to a queue with a place (R4, R13, R15): the entry takes the
next sequence, the class of its kind and the time of its acceptance, stands behind the others, and the sequence counter and
the check word move on; the owner's pending mark is clear. The access unit takes no decision while it waits or keys. A frame
that gives a resting access unit its head (R15, R23, R24): an own frame offered to an empty queue with nothing on air is
accepted as above and decided on at once: keyed now when its guard time is met or it is of class 0 in blocked operation,
else a backoff is drawn with W unchanged, 1 or 2 slots for class 0 and 1..W otherwise. In blocked operation a class-0 frame
that becomes the head is keyed at once, whether the unit rests or waits (R29). A re-offered BEACON, TALLY or class-0 frame
merges into the unsent own entry of its group (R16): the entry keeps its place, its enqueue time and its sequence, and the
counter does not move. A frame of a group that is on air is deferred, and replaces the one deferred before (R17). The
"space" notice with one mark standing (R15, R20): the frame is offered again as a new entry, with the sequence of its
displaced copy when it has one and with its mark time, and the mark is cleared. Where it rests on the model's choices, log
entries 3 and 23 say so. -/
def Obligations.OwnFramesJoinMergeDeferOrReturn : Prop :=
  (∀ (s : State) (r : OwnRef) (b : Body), s.cpt.part = .run → r.group = none → s.ownBody r = some b →
     s.cau.count < 8 → s.cau.waits →
     (s.offer r).cau = { s.cau with queue := s.cau.queue ++ [{
         frame := {
           fleet := s.ownFleet
           origin := s.ownId
           hops := b.kind.budget
           relayed := false
           sender := s.ownId
           seq := s.ret.seq
           body := b }
         cls := r.cls
         enq := s.now
         owner := .own r
         endOfCopy := none
         mark := none }] }
     ∧ (s.offer r).ret = { s.ret with seq := (s.ret.seq + 1) % 256 }
     ∧ (s.offer r).check = storeCheck (s.offer r).ret
     ∧ (s.offer r).ownMark r = none
     ∧ (s.offer r).rru = s.rru ∧ (s.offer r).draws = s.draws ∧ QueueFrame s (s.offer r))
  ∧ (∀ (s : State) (r : OwnRef) (b : Body), s.cpt.part = .run → s.ownBody r = some b → s.cau.onAir = none →
       let e := s.ownEntry r b
       let t := s.offer r
       let accepted : Prop := t.ret = { s.ret with seq := (s.ret.seq + 1) % 256 } ∧ t.check = storeCheck t.ret
         ∧ t.ownMark r = none ∧ QueueFrame s t
       let decided (u : State) : Prop := t.cau = u.cau ∧ t.rru = u.rru ∧ t.draws = u.draws
       (s.cau.queue = [] → s.cau.au = .rest → s.cau.windowLaw →
         accepted ∧ (s.clearFor r.cls → decided (s.airing e []))
         ∧ (¬ s.clearFor r.cls → ∃ slots, 1 ≤ slots ∧ slots ≤ (if r.cls = 0 then 2 else s.cau.w)
           ∧ decided (s.backingOff [e] slots)))
       ∧ (s.cau.blocked = true → r.cls = 0 → s.cau.count < 8 →
         (∀ x ∈ s.cau.queue, 0 < x.cls ∧ x.owner.inGroup .class0 = false) →
         accepted ∧ decided (s.airing e s.cau.queue)))
  ∧ (∀ (s : State) (r : OwnRef) (b : Body) (g : Group) (e : QEntry) (before after : List QEntry), s.cpt.part = .run →
       r.group = some g → s.ownBody r = some b → s.cau.queue = before ++ e :: after → e.owner.inGroup g = true →
       (∀ x ∈ before, x.owner.inGroup g = false ∧ x ≠ e) → e ∉ after → s.cau.waits →
       (s.offer r).cau = { s.cau with queue := before ++ { e with
           frame := {
             fleet := s.ownFleet
             origin := s.ownId
             hops := b.kind.budget
             relayed := false
             sender := s.ownId
             seq := e.frame.seq
             body := b }
           owner := .own r } :: after }
       ∧ (s.offer r).ret = s.ret ∧ QueueFrame s (s.offer r))
  ∧ (∀ (s : State) (r : OwnRef) (b : Body) (g : Group) (a : OnAir), s.cpt.part = .run → r.group = some g →
       s.ownBody r = some b → (∀ x ∈ s.cau.queue, x.owner.inGroup g = false) → s.cau.onAir = some a →
       a.entry.owner.inGroup g = true →
       (s.offer r).cau.deferred g = some { ref := r, body := b, seq := none, mark := none }
       ∧ (s.offer r).cau.queue = s.cau.queue ∧ (s.offer r).cau.onAir = s.cau.onAir ∧ (s.offer r).ret = s.ret
       ∧ (∀ g', g' ≠ g → (s.offer r).cau.deferred g' = s.cau.deferred g') ∧ QueueFrame s (s.offer r))
  ∧ (∀ (s : State) (r : OwnRef) (b : Body) (m : Mark), s.cpt.part = .run → r.group = none → s.ownBody r = some b →
       s.ownMark r = some m → s.standingMarks = [(m.time, r)] → s.cau.count < 8 → s.cau.waits →
       let e := s.ownEntry r b
       s.space.cau = { s.cau with queue := s.cau.queue
         ++ [{ e with frame := { e.frame with seq := m.seq.getD s.ret.seq }, mark := some m.time }] }
       ∧ s.space.ret = (if m.seq.isSome then s.ret else { s.ret with seq := (s.ret.seq + 1) % 256 })
       ∧ s.space.ownMark r = none ∧ QueueFrame s s.space)

/-- A rise and a fall of CD in RUN (R22, R28, R31, R32): the measures, the idle reference, the hunt; a frame being taken that is
neither whole nor overlong is truncated and counted. A fall of CD on a frame being taken (R7, R28, R32, R33): an overlong
one is malformed, and a whole one with fewer than eight further bits is judged as it stands. The sync word turns the hunt,
whatever stands in its window, into a frame being taken, whose bits are counted from that moment, and in every other
condition of the receiver it changes nothing; a window that holds the sync word makes its row due (R31). A length byte above
52 ends a frame being taken as malformed (R7, R33). Where it rests on the model's choices, log entries 5 and 13 say so. -/
def Obligations.CarrierEdgesAndTheReceiver : Prop :=
  (∀ s : State, s.powered = true → s.cpt.part = .run →
     (s.pins.cd = false → exec .cdRise s = .next { s with
       pins := { s.pins with cd := true }
       cau := { s.cau with
         clearAt := none
         blockedAt := if s.cau.blocked then none else some (s.now + 2000 * ms) }
       rru := { s.rru with rx := s.rxOpen true } })
     ∧ (s.pins.cd = true → ∀ (taken : List Byte) (further : Nat),
       (s.rru.rx = .taking → frameWhole taken = false ∧ frameOverlong taken = false) →
       exec (.cdFall taken further) s = .next { s with
         pins := { s.pins with cd := false }
         cau := { s.cau with
           idleRef := if s.cau.onAir.isSome then s.cau.idleRef else some s.now
           blockedAt := none
           clearAt := if s.cau.blocked then some (s.now + 20 * ms) else none }
         rru := { s.rru with
           rx := .idle
           stats := if s.rru.rx = .taking
             then { s.rru.stats with truncated := inc16 s.rru.stats.truncated } else s.rru.stats } }))
  ∧ (∀ (s : State) (taken : List Byte) (further : Nat), s.powered = true → s.cpt.part = .run → s.pins.cd = true →
       s.rru.rx = .taking → further < 8 →
       let u := { s with
         pins := { s.pins with cd := false }
         cau := { s.cau with
           idleRef := if s.cau.onAir.isSome then s.cau.idleRef else some s.now
           blockedAt := none
           clearAt := if s.cau.blocked then some (s.now + 20 * ms) else none } }
       (frameOverlong taken = true → exec (.cdFall taken further) s = .next { u with rru := { s.rru with
         rx := .idle, stats := { s.rru.stats with malformed := inc16 s.rru.stats.malformed } } })
       ∧ (frameWhole taken = true → exec (.cdFall taken further) s = exec (.frameReceived taken further) u))
  ∧ (∀ s : State,
       let sync := [true, true, true, false, false, false, true, false, false, true, false, true, true, false, true, false]
       (∀ w, s.rru.rx = .hunting w → exec .syncWordMatch s = .next { s with
         rru := { s.rru with rx := .taking, syncAt := s.now } })
       ∧ ((∀ w, s.rru.rx ≠ .hunting w) → exec .syncWordMatch s = .next s)
       ∧ (s.rru.rx = .hunting sync → .syncWordMatch ∈ s.dueRows)
       ∧ (s.rru.rx = .taking → ∀ len : Byte, 52 < len.toNat → exec (.overlongLength len) s = .next { s with
         rru := { s.rru with
           rx := s.rxOpen s.pins.cd
           stats := { s.rru.stats with malformed := inc16 s.rru.stats.malformed } } }))

/-- The blocked condition (R28, R29): its entry and its exit raise their events; at the entry a class-0 head is keyed over the
carrier, and a frame being taken then is truncated. Where it rests on the model's choice, log entry 2 says so. -/
def Obligations.BlockedConditionKeysClassZero : Prop :=
  ∀ (s : State) (t : Nat), s.powered = true → t ≤ s.now →
    (s.cau.blockedAt = some t →
      let raised := raiseIn s.cpt.events s.cpt.overflow .channelBlocked 0 0
      let cpt := { s.cpt with events := raised.1, overflow := raised.2 }
      (s.cau.onAir.isSome = true ∨ s.cau.queue = []
          ∨ ((∃ w, s.cau.au = .waiting w) ∧ ∀ x ∈ s.cau.queue, 0 < x.cls) →
        exec .channelBlocked s = .next { s with
          cau := { s.cau with blocked := true, blockedAt := none }, cpt := cpt })
      ∧ ∀ e, s.cau.onAir = none → headOf s.cau.queue = some e → e.cls = 0 → e.endOfCopy = none →
        exec .channelBlocked s = .next { s with
          cau := { s.cau with
            blocked := true
            blockedAt := none
            queue := s.cau.queue.erase e
            onAir := some { entry := e, start := s.now, stop := s.now + (16 + e.frame.body.bytes.length) * 8 * 5 }
            au := .rest }
          rru := { s.rru with
            rx := .idle
            stats := if s.rru.rx = .taking
              then { s.rru.stats with truncated := inc16 s.rru.stats.truncated } else s.rru.stats }
          cpt := cpt })
    ∧ (s.cau.clearAt = some t → exec .channelClear s = .next { s with
        cau := { s.cau with blocked := false, clearAt := none }
        cpt := { s.cpt with
          events := (raiseIn s.cpt.events s.cpt.overflow .channelClear 0 0).1
          overflow := (raiseIn s.cpt.events s.cpt.overflow .channelClear 0 0).2 } })

/-- The end of a wait outside the blocked condition (R24, R25): with no head the unit rests and W stands; a head whose guard
time is met is keyed for its airtime; otherwise W doubles up to 64 and a count of slots of 30 ms is drawn. A relayed OFFER
at its keying (R26, R46): keyed with the remaining window in whole units of 100 ms when that is 20 units or more; below 20
units it leaves the queue unkeyed, and the relay counts as dropped. Where it rests on the model's choices, log entries 2 and
3 say so. -/
def Obligations.WaitEndKeysOrDrawsAgain : Prop :=
  (∀ (s : State) (till : Nat), s.cau.au = .waiting till → till ≤ s.now → s.cau.blocked = false →
     s.cau.windowLaw →
     (s.cau.queue = [] → exec .backoffEnd s = .next { s with cau := { s.cau with au := .rest } })
     ∧ ∀ e, headOf s.cau.queue = some e →
       let idle := if s.pins.cd then 0 else (s.cau.idleRef.map (s.now - ·)).getD 0
       let guard := if e.cls = 0 then 20 * ms else 60 * ms
       (s.pins.cd = false → guard ≤ idle → e.endOfCopy = none →
         exec .backoffEnd s = .next { s with
           cau := { s.cau with
             queue := s.cau.queue.erase e
             onAir := some { entry := e, start := s.now, stop := s.now + (16 + e.frame.body.bytes.length) * 8 * 5 }
             au := .rest }
           rru := { s.rru with
             rx := .idle
             stats := if s.rru.rx = .taking
               then { s.rru.stats with truncated := inc16 s.rru.stats.truncated } else s.rru.stats } })
       ∧ (s.pins.cd = true ∨ idle < guard →
         ∃ slots, 1 ≤ slots ∧ slots ≤ (if e.cls = 0 then 2 else min 64 (2 * s.cau.w))
           ∧ exec .backoffEnd s = .next { s with
             draws := s.draws + 1
             cau := { s.cau with w := min 64 (2 * s.cau.w), au := .waiting (s.now + slots * (30 * ms)) } }))
  ∧ (∀ (s : State) (till ended : Nat) (e : QEntry) (o : OfferBody), s.cau.au = .waiting till → till ≤ s.now →
       s.pins.cd = false → (∃ t, s.cau.idleRef = some t ∧ t + 60 * ms ≤ s.now) → s.cau.queue = [e] → e.owner = .relay →
       e.cls = 2 → e.frame.body = .offer o → e.endOfCopy = some ended → s.rru.rx ≠ .taking →
       let left := (o.window * (100 * ms) - (s.now - ended)) / (100 * ms)
       (20 ≤ left →
         let keyed := { e with frame := { e.frame with body := .offer { o with window := left } } }
         exec .backoffEnd s = .next { s with
           cau := { s.cau with
             queue := []
             onAir := some { entry := keyed, start := s.now, stop := s.now + (16 + keyed.frame.body.bytes.length) * 8 * 5 }
             au := .rest }
           rru := { s.rru with rx := .idle } })
       ∧ (left < 20 → s.standingMarks = [] →
         exec .backoffEnd s = .next { s with
           cau := { s.cau with queue := [], au := .rest }
           rru := { s.rru with
             stats := { s.rru.stats with relaysDropped := inc16 s.rru.stats.relaysDropped }
             cache := (s.rru.cache.map fun c => if c.key = e.frame.key then { c with mark := .none } else c).filter
               fun c => !decide (c.key = e.frame.key ∧ c.firstHeard + 60000 * ms ≤ s.now) } }))

/-- The end of an own transmission (R27): KEY is released, W is 4, the idle reference is set with CD inactive, and the owner's
record takes "sent": a CLAIM makes its entry CLAIMED with the own record placed (R91), a TAKE makes its entry TAKEN (R98), a
NOTE counts and waits or is done (R157), the first ALARM-END starts the 2 s gap (R172), the first ALARM of an alarm raises
ALARM-SENT (R169), a TALLY is no longer in hand (R140), a DROP lets an entry past its retention leave (R73), and a relay is
counted (R45). A frame deferred behind one of its group on air (R17, R27): at the end of the airtime it is offered, takes
the next sequence and is the head, against which, its guard time not met, a backoff with W of 4 is drawn. Where it rests on
the model's choices, log entries 2, 3, 19 and 25 say so. -/
def Obligations.TransmissionEndTellsItsOwner : Prop :=
  (∀ (s : State) (a : OnAir), s.cau.onAir = some a → a.stop ≤ s.now → s.ofb.keyLaw →
     let after (u : State) : Prop := ∃ t, exec .transmissionEnd s = .next t ∧ QueueFrame u t ∧ t.cau.w = 4
       ∧ t.cau.idleRef = (if s.pins.cd then s.cau.idleRef else some s.now)
       ∧ ∀ b, t.cau.onAir = some b → b.start = s.now
     let board (f : BoardEntry → BoardEntry) : State :=
       { s with ofb := { s.ofb with slots := s.ofb.slots.map (·.map f) } }
     (∀ k, a.entry.owner = .own (.claim k) → after (board fun e =>
       if e.key = k ∧ e.state = .claimPending
       then { e with state := .claimed, claims := placeClaim ⟨s.ownId, e.score.getD 0⟩ e.claims } else e))
     ∧ (∀ k, a.entry.owner = .own (.take k) → after (board fun e =>
       if e.key = k ∧ e.state = .taking then { e with state := .taken } else e))
     ∧ (∀ slot r, a.entry.owner = .own (.note slot) → slotGet s.nts.outbox slot = some r → r.state = .queued →
       after { s with nts := { s.nts with outbox := s.nts.outbox.set slot (some
         (if r.dest = 4095 ∨ r.wanted = false then { r with made := r.made + 1, state := .sent, termTime := some s.now }
         else { r with made := r.made + 1, state := .await, retryAt := some (s.now + 8000 * ms) })) } })
     ∧ (a.entry.owner = .own .alarmEnd → s.emu.ending = some .first →
       after { s with emu := { s.emu with ending := some .gap, gapAt := some (s.now + 2000 * ms) } })
     ∧ (a.entry.owner = .own .alarm → s.emu.firstSent = true → s.ret.alarm = .alerting →
       after { s with
         emu := { s.emu with firstSent := false }
         cpt := { s.cpt with
           events := (raiseIn s.cpt.events s.cpt.overflow .alarmSent s.ret.serial 0).1
           overflow := (raiseIn s.cpt.events s.cpt.overflow .alarmSent s.ret.serial 0).2 } })
     ∧ (a.entry.owner = .own .tally → s.cau.deferredTally = none → after { s with ttl := { s.ttl with tally := none } })
     ∧ (∀ k, a.entry.owner = .own (.drop k) → after { s with ofb := { s.ofb with
       slots := s.ofb.slots.map (·.filter fun e => !decide (e.key = k ∧ e.retentionPassed = true)) } })
     ∧ (a.entry.owner = .own .beacon ∨ (∃ kind dest id, a.entry.owner = .own (.receipt kind dest id)) → after s)
     ∧ (a.entry.owner = .relay → after { s with rru := { s.rru with
       stats := { s.rru.stats with relaysSent := inc16 s.rru.stats.relaysSent } } }))
  ∧ (∀ (s : State) (a : OnAir) (o : Offered) (g : Group), s.cau.onAir = some a → a.stop ≤ s.now → s.cpt.part = .run →
       a.entry.owner = .own .beacon ∨ (a.entry.owner = .own .tally ∧ g = .tally)
         ∨ (a.entry.owner = .own .alarm ∧ s.emu.firstSent = false) →
       s.cau.deferred g = some o → (∀ g', g' ≠ g → s.cau.deferred g' = none) → o.ref.group = some g → o.seq = none →
       s.cau.queue = [] → s.cau.blocked = false → s.standingMarks = [] →
       ∃ slots t, 1 ≤ slots ∧ slots ≤ (if g = .class0 then 2 else 4) ∧ exec .transmissionEnd s = .next t
         ∧ QueueFrame s t ∧ t.ret = { s.ret with seq := (s.ret.seq + 1) % 256 }
         ∧ t.cau = { s.cau with
           queue := [{ s.ownEntry o.ref o.body with mark := o.mark }]
           onAir := none
           deferred0 := none
           deferredTally := none
           deferredBeacon := none
           au := .waiting (s.now + slots * (30 * ms))
           w := 4
           idleRef := if s.pins.cd then s.cau.idleRef else some s.now }
         ∧ (o.ref = .tally → t.ttl.tally = s.ttl.tally.map fun x => { x with place := .offered, seq := some s.ret.seq }))

/-! ## Position, zones, peers, beacons (chapter 4) -/

/-- A cache entry without a relay mark leaves 60 s after it was first heard (R41). A peer entry leaves 300,000 ms after it was
last heard (R64), and not before. An alarm table entry ages (R177): ACTIVE turns SILENT after 60,000 ms unheard, SILENT
leaves after 300,000 ms unheard, and ENDED leaves 60,000 ms after its end; not before. WATCH entries close 9000 ms after
their close (R96), and terminal entries leave 60,000 ms after they ended, unless a drop mark or an unsent DROP holds them
(R73). Where it rests on the model's choices, log entries 2 and 25 say so. -/
def Obligations.TableEntriesAgeAtTheirTimes : Prop :=
  (∀ (s : State) (origin seq : Nat) (k : Kind), exec (.cacheExpiry origin k.code seq) s = .next { s with
     rru := { s.rru with
       cache := s.rru.cache.filter fun c =>
         !decide (c.key = ⟨origin, k, seq⟩ ∧ c.mark = .none ∧ c.firstHeard + 60000 * ms ≤ s.now) } })
  ∧ (∀ (s : State) (slot : Nat) (p : Peer), slotGet s.ppu.peers slot = some p →
       (p.lastHeard + 300000 * ms ≤ s.now → exec (.peerAging slot) s = .next { s with
         ppu := { s.ppu with peers := s.ppu.peers.set slot none } })
       ∧ (s.now < p.lastHeard + 300000 * ms → exec (.peerAging slot) s = .next s))
  ∧ (∀ (s : State) (slot : Nat) (a : AlarmEntry), slotGet s.emu.table slot = some a →
       let put (x : Option AlarmEntry) : State := { s with emu := { s.emu with table := s.emu.table.set slot x } }
       (a.state = .active → a.lastHeard + 60000 * ms ≤ s.now →
         exec (.alarmTableAging slot) s = .next (put (some { a with state := .silent })))
       ∧ (a.state = .silent → a.lastHeard + 300000 * ms ≤ s.now → exec (.alarmTableAging slot) s = .next (put none))
       ∧ (∀ e, a.state = .ended → a.endedTime = some e → e + 60000 * ms ≤ s.now →
         exec (.alarmTableAging slot) s = .next (put none))
       ∧ (a.state = .active → s.now < a.lastHeard + 60000 * ms → exec (.alarmTableAging slot) s = .next s)
       ∧ (a.state = .silent → s.now < a.lastHeard + 300000 * ms → exec (.alarmTableAging slot) s = .next s)
       ∧ (∀ e, a.state = .ended → a.endedTime = some e → s.now < e + 60000 * ms → exec (.alarmTableAging slot) s = .next s))
  ∧ (∀ (s : State) (slot : Nat) (e : BoardEntry), slotGet s.ofb.slots slot = some e →
       (e.state = .watch → e.close + 9000 * ms ≤ s.now →
         exec (.watchClose slot) s = .next (s.withEntry slot { e with state := .closed, termTime := some s.now }))
       ∧ (e.state ≠ .watch ∨ s.now < e.close + 9000 * ms → exec (.watchClose slot) s = .next s)
       ∧ ∀ t, e.state.live = false → e.termTime = some t → e.retentionPassed = false →
         (t + 60000 * ms ≤ s.now → e.dropMark = none → s.cau.holds (.drop e.key) = false →
           exec (.entryRetentionEnd slot) s = .next { s with ofb := { s.ofb with slots := s.ofb.slots.set slot none } })
         ∧ (t + 60000 * ms ≤ s.now → e.dropMark ≠ none ∨ s.cau.holds (.drop e.key) = true →
           exec (.entryRetentionEnd slot) s = .next (s.withEntry slot { e with retentionPassed := true }))
         ∧ (s.now < t + 60000 * ms → exec (.entryRetentionEnd slot) s = .next s))

/-- Distance (R58): the larger of the differences of eastings and northings plus three-eighths of the smaller, rounded down, at
most 65535. -/
def Obligations.DistanceAddsThreeEighthsOfTheSmaller : Prop :=
  ∀ p q : Point,
    let dx := ((p.east : Int) - q.east).natAbs
    let dy := ((p.north : Int) - q.north).natAbs
    distance p q = min 65535 (max dx dy + 3 * min dx dy / 8)

/-- The zone looked up is the lowest-numbered defined zone whose inclusive bounds contain the position, or 255 (R56). A pickup
zone lies in the bid set exactly when it is the current zone or a neighbour of it; never with zone 255 (R57). -/
def Obligations.LowestZoneWinsAndBidSetIsItsNeighbourhood : Prop :=
  (∀ (zones : List (Option Zone)) (p : Point), zones.length = 64 →
    let within (n : Nat) : Prop := ∃ z, slotGet zones n = some z ∧ z.eastMin ≤ p.east ∧ p.east ≤ z.eastMax
      ∧ z.northMin ≤ p.north ∧ p.north ≤ z.northMax
    (zoneOf zones p = 255 ∧ ∀ n, ¬ within n)
      ∨ (zoneOf zones p < 64 ∧ within (zoneOf zones p) ∧ ∀ n, n < zoneOf zones p → ¬ within n))
  ∧ ∀ (s : State) (n : Nat), s.ppu.zones.length = 64 →
    (s.inBidSet n = true ↔ n < 64 ∧ ∃ cur, slotGet s.ppu.zones s.ppu.zone = some cur
      ∧ (n = s.ppu.zone ∨ cur.neighbours.getLsbD n = true))

/-- SET-POSITION in RUN (R50, R51): a valid fix writes the record and looks the zone up, and availability follows a change; a
new zone during HIRED or HELD applies its surcharge once a trip (R118, R121); a report without a fix clears the fix flag
alone; another flag byte is refused with RANGE. 30,000 ms after the fix time the position turns stale (R52): fix flag clear,
zone 255, the held position kept, no surcharge in no zone, and the availability follows; the offers of a FREE cab go to
WATCH with reason NO-FIX (R78). Where it rests on the model's choices, log entries 2 and 33 say so. -/
def Obligations.PositionIsSetAndTurnsStale : Prop :=
  (∀ (s : State) (east north : BitVec 16) (fix : Byte), s.ready .run →
     let p : Point := ⟨east.toNat, north.toNat⟩
     let z := zoneOf s.ppu.zones p
     let u := { s with ppu := { s.ppu with position := some p, fix := true, fixTime := some s.now, stale := false, zone := z } }
     (fix = 1 → s.ppu.stale = false → z = s.ppu.zone →
       exec (.setPosition east north fix) s = .next (u.answering s true [0, byte (min z 255), 1]))
     ∧ (fix = 1 → z = s.ppu.zone ∨ (s.ret.fare ≠ .hired ∧ s.ret.fare ≠ .held) →
       s.ppu.stale = true ∨ z ≠ s.ppu.zone →
       ∃ t, exec (.setPosition east north fix) s = .next t
         ∧ AvailFrame (u.answering s true [0, byte (min z 255), 1]) t
         ∧ t.fre.avail = some (availability s.ret.alarm s.ret.fare false s.ret.shiftOpen s.fre.driver))
     ∧ (fix = 1 → z ≠ s.ppu.zone → s.ret.fare = .hired ∨ s.ret.fare = .held → ∀ x, s.ret.trip = some x →
       let moved (v : State) (y : Trip) : Prop := ∃ t, exec (.setPosition east north fix) s = .next t
         ∧ AvailFrame ((v.withRet { s.ret with trip := some y }).answering s true [0, byte (min z 255), 1]) t
         ∧ t.fre.avail = some (availability s.ret.alarm s.ret.fare false s.ret.shiftOpen s.fre.driver)
       let index : Nat := match slotGet s.ppu.zones z with
         | some zone => if zone.surcharge ≤ 3 then zone.surcharge else 0
         | none => 0
       let y := { x with
         applied := x.applied ||| BitVec.ofNat 3 (2 ^ (index - 1))
         surchSum := x.surchSum + s.ret.surcharges.getD (index - 1) 0 }
       let raw := y.flagFall + y.incAmount * (y.units - y.n0) + y.surchSum + y.extras.sum
       (s.check = storeCheck s.ret → index = 0 ∨ x.applied.getLsbD (index - 1) = true → moved u x)
       ∧ (index ≠ 0 → x.applied.getLsbD (index - 1) = false →
         (raw < 999999 ∨ x.flags.fareLimit = true → moved u y)
         ∧ (999999 ≤ raw → x.flags.fareLimit = false →
           moved (u.raiseEvent .fareLimit 0 0) { y with flags := { y.flags with fareLimit := true } })))
     ∧ (fix = 0 → exec (.setPosition east north fix) s = .next
       ({ s with ppu := { s.ppu with fix := false } }.answering s true [0, byte (min s.ppu.zone 255), 0]))
     ∧ (fix ≠ 0 → fix ≠ 1 → exec (.setPosition east north fix) s = .next (s.answering s true [3])))
  ∧ (∀ (s : State) (t : Nat), s.ppu.fixTime = some t → s.ppu.stale = false →
       (t + 30000 * ms ≤ s.now → s.ppu.zones.length = 64 →
         ∃ v, exec .fixStale s = .next v
           ∧ AvailFrame { s with ppu := { s.ppu with fix := false, zone := 255, stale := true } } v
           ∧ v.fre.avail = some (availability s.ret.alarm s.ret.fare true s.ret.shiftOpen s.fre.driver)
           ∧ (s.ret.alarm = .quiet → s.ret.fare = .vacant → s.fre.avail = some .free → s.ofb.avail = some .free →
             ∀ slot e, slotGet s.ofb.slots slot = some e → e.state = .opened ∨ e.state = .claimPending →
             ∃ e', slotGet v.ofb.slots slot = some e'
               ∧ e'.unmark = { e.unmark with state := .watch, reason := some .noFix }))
       ∧ (s.now < t + 30000 * ms → exec .fixStale s = .next s))

/-- At the expiry of the interval timer or the change timer (R66 to R68) a beacon with the state of the moment joins the queue,
the interval timer is drawn afresh in 0.9 I .. 1.1 I, and the change timer stops. Where it rests on the model's choices, log
entries 2 and 3 say so. -/
def Obligations.BeaconTimersOfferABeacon : Prop :=
  ∀ (s : State) (c : Instr) (t : Nat) (st : Station), s.cpt.config = some st → s.cpt.part = .run → t ≤ s.now →
    (c = .beaconInterval ∧ s.ppu.intervalAt = some t) ∨ (c = .beaconChangeTimer ∧ s.ppu.changeAt = some t) →
    ∃ wait, st.beacon * 900 ≤ wait ∧ wait ≤ st.beacon * 1100 ∧
      let u := { s with ppu := { s.ppu with intervalAt := some (s.now + wait * ms), changeAt := none } }
      (∃ v, exec c s = .next v ∧ QueueFrame u v)
      ∧ (s.cau.count < 8 → s.cau.waits → (∀ x ∈ s.cau.queue, x.owner.inGroup .beacon = false) →
        (∀ a, s.cau.onAir = some a → a.entry.owner.inGroup .beacon = false) →
        exec c s = .next { u with
          draws := s.draws + 1
          ret := { s.ret with seq := (s.ret.seq + 1) % 256 }
          check := storeCheck { s.ret with seq := (s.ret.seq + 1) % 256 }
          cau := { s.cau with queue := s.cau.queue ++ [{
            frame := {
              fleet := st.fleet
              origin := st.id
              hops := 0
              relayed := false
              sender := st.id
              seq := s.ret.seq
              body := .beacon (s.ppu.position.getD ⟨0, 0⟩) s.ppu.fix s.ppu.avail s.ppu.zone (some st.vclass) }
            cls := 4
            enq := s.now
            owner := .own .beacon
            endOfCopy := none
            mark := none }] } })

/-! ## The offer board (chapters 5 and 6) -/

/-- Placing a claim (R71, R87): the list stays sorted by score and then station id, holds at most four records and one of each
station; the station's earlier record goes, and only a record worse than four others is pushed out. -/
def Obligations.ClaimPlacementKeepsTheFourBest : Prop :=
  ∀ (c : Claim) (l : List Claim), claimsLaw l → c.score ≤ 1023 →
    claimsLaw (placeClaim c l)
    ∧ (∀ x ∈ placeClaim c l, x = c ∨ (x ∈ l ∧ x.id ≠ c.id))
    ∧ ∀ y, (y = c ∨ (y ∈ l ∧ y.id ≠ c.id)) → y ∉ placeClaim c l →
      (placeClaim c l).length = 4 ∧ ∀ x ∈ placeClaim c l, x.score < y.score ∨ (x.score = y.score ∧ x.id < y.id)

/-- A delivered OFFER (R74 to R77, R87, R89): known, it changes nothing; otherwise it is written into the lowest free slot, or
on a full board into that of the terminal entry that ended first and has no DROP waiting, or with none of these it is only
counted. It is judged once: the first test of R76 that fails makes it WATCH with its reason, DISTANCE without a held
position; passing all it is OPEN with its score and claim points, and OFFER-NEW is raised. Where it rests on the model's
choices, log entries 3, 25 and 27 say so. -/
def Obligations.OfferIsJudgedOnceAtAdmission : Prop :=
  ∀ (s : State) (f : Frame) (o : OfferBody) (t : Nat) (st : Station), f.body = .offer o → s.cpt.config = some st →
    let past (e : BoardEntry) : Prop := e.state.live = false ∧ e.dropMark = none ∧ s.cau.holds (.drop e.key) = false
      ∧ s.cau.airs (.drop e.key) = false
    (∀ slot e, s.entry ⟨f.origin, o.job⟩ = some (slot, e) → s.deliver f t = s)
    ∧ (s.entry ⟨f.origin, o.job⟩ = none → lowestFree s.ofb.slots = none → noSlot s.ofb.slots past →
      s.deliver f t = { s with ofb := { s.ofb with boardFull := min 65535 (s.ofb.boardFull + 1) } })
    ∧ ∀ slot, s.entry ⟨f.origin, o.job⟩ = none →
      lowestFree s.ofb.slots = some slot
        ∨ (lowestFree s.ofb.slots = none ∧ firstSlot s.ofb.slots past (·.termTime.getD 0) slot) →
      let dist := s.ppu.position.map fun here => distance here o.pickup
      let d := dist.getD 0
      let close := t + o.window * (100 * ms)
      let reason : Option Reason :=
        if o.window < 20 then some .short
        else if s.ofb.avail = some .alarm then some .alarm
        else if s.ofb.avail = some .noFix ∧ s.ppu.stale = true then some .noFix
        else if s.ofb.avail = none ∧ s.ppu.stale = true then some .noFix
        else if s.ofb.avail ≠ some .free then some .busy
        else if o.mask.getLsbD st.vclass = false then some .cls
        else if s.inBidSet o.zone = false then some .zone
        else if dist.all (fun d => decide (st.maxDist < d)) = true then some .distance
        else none
      let e : BoardEntry := {
        key := ⟨f.origin, o.job⟩, state := .watch, reason := reason, received := t, close := close, pickup := o.pickup
        zone := o.zone, mask := o.mask, account := o.account, note := o.note
        viaRelay := decide (f.sender ≠ f.origin), score := none, acceptTime := none, rank := none, claims := []
        takenBy := none, claimMark := none, takeMark := none, dropMark := none, repeatUsed := false, termTime := none
        computedPoint := 0, claimPoint := none, latestPoint := close - 250 * ms, latestTaken := false
        closeTaken := false, droppedFromTaking := false, retentionPassed := false }
      (reason ≠ none → s.deliver f t = { s with draws := s.draws + 1 }.withEntry slot e)
      ∧ (reason = none → ∃ jitter ≤ 63,
        let zp : Int := if o.zone = s.ppu.zone then 0 else st.penalty
        let ic : Int := min (s.idleSeconds / 30) st.idleCap
        let score := (min 1023 (max 0 (((d + 9) / 10 : Nat) + zp - ic))).toNat
        let point := min (close - 250 * ms) (t + (o.window * 100 * score / 1024 + jitter) * ms)
        s.deliver f t = ({ s with draws := s.draws + 2 }.withEntry slot { e with
          state := .opened
          score := some score
          computedPoint := point
          claimPoint := if st.bidMode = BidMode.auto then some point else none }).raiseEvent .offerNew slot 0)

/-- The claim point of an OPEN entry (R90): CLAIM-PENDING, and the CLAIM with its score joins the queue in class 1. Before that
instant, and in any other state, nothing happens. The latest claim point (R92, R106): a CLAIM not on air is withdrawn and
the entry MISSED; one on air goes on; an OPEN entry that CONFIRM mode left without consent is UNANSWERED, any other OPEN
entry MISSED. Where it rests on the model's choices, log entries 2 and 25 say so. -/
def Obligations.ClaimPointsOfferOrEndTheClaim : Prop :=
  (∀ (s : State) (slot : Nat) (e : BoardEntry), slotGet s.ofb.slots slot = some e → s.ofb.keyLaw →
     (∀ p, e.state = .opened → e.claimPoint = some p → p ≤ s.now →
       ∃ t, exec (.claimPoint slot) s = .next t ∧ QueueFrame (s.withEntry slot { e with state := .claimPending }) t
         ∧ (s.room → t.cau = { s.cau with queue := s.cau.queue
           ++ [s.ownEntry (.claim e.key) (.claim e.key (e.score.getD 0) (some s.ownClass))] }))
     ∧ ((e.state ≠ .opened ∨ e.claimPoint = none ∨ ∃ p, e.claimPoint = some p ∧ s.now < p) →
       exec (.claimPoint slot) s = .next s))
  ∧ (∀ (s : State) (slot : Nat) (e : BoardEntry), slotGet s.ofb.slots slot = some e → s.ofb.keyLaw →
       e.latestTaken = false → e.latestPoint ≤ s.now →
       let ended (st : OfferState) : State := (s.withEntry slot { e with
         latestTaken := true, state := st, termTime := some s.now, claimMark := none }).raiseEvent .offerLost slot st.code
       (e.state = .opened → e.claimMark = none →
         exec (.latestClaimPoint slot) s = .next
           (ended (if s.bidMode = .confirm ∧ e.acceptTime = none then .unanswered else .missed)))
       ∧ (e.state = .claimPending → s.cau.airs (.claim e.key) = false →
         ∃ t, exec (.latestClaimPoint slot) s = .next t ∧ QueueFrame (ended .missed) t
           ∧ ∀ x ∈ t.cau.queue, x.owner ≠ .own (.claim e.key))
       ∧ ((e.state = .claimPending ∧ s.cau.airs (.claim e.key) = true) ∨ (e.state ≠ .opened ∧ e.state ≠ .claimPending) →
         exec (.latestClaimPoint slot) s = .next (s.withEntry slot { e with latestTaken := true })))

/-- ACCEPT-OFFER (R82, R89, R90) in a slot that holds an entry: at its computed claim point itself the entry stays OPEN, and
after it the CLAIM is offered in the same act. PASS-OFFER (R83) in a slot that holds an entry: OPEN and CLAIM-PENDING go to
WATCH with reason PASSED, the CLAIM leaving the queue; any other state is refused with STATE. Where it rests on the model's
choices, log entries 21, 33 and 34 say so. -/
def Obligations.DriverAcceptsOrPassesAnOffer : Prop :=
  (∀ (s : State) (slot : Byte) (e : BoardEntry), s.ready .run → slot.toNat < 16 →
     slotGet s.ofb.slots slot.toNat = some e → s.ofb.keyLaw →
     let accepted := { e with acceptTime := some s.now, claimPoint := some (max s.now e.computedPoint) }
     (s.bidMode = .auto → exec (.acceptOffer slot) s = .next (s.answering s true [2]))
     ∧ (s.bidMode = .confirm →
       (e.state = .opened → e.acceptTime = none → s.now ≤ e.computedPoint →
         exec (.acceptOffer slot) s = .next ((s.withEntry slot.toNat accepted).answering s true [0]))
       ∧ (e.state = .opened → e.acceptTime = none → e.computedPoint < s.now →
         ∃ t, exec (.acceptOffer slot) s = .next t
           ∧ QueueFrame ((s.withEntry slot.toNat { accepted with state := .claimPending }).answering s true [0]) t
           ∧ (s.room → t.cau = { s.cau with queue := s.cau.queue
             ++ [s.ownEntry (.claim e.key) (.claim e.key (e.score.getD 0) (some s.ownClass))] }))
       ∧ (e.state = .opened → e.acceptTime ≠ none → exec (.acceptOffer slot) s = .next (s.answering s true [0]))
       ∧ (e.state = .unanswered → exec (.acceptOffer slot) s = .next (s.answering s true [7]))
       ∧ (e.state ≠ .opened → e.state ≠ .unanswered → exec (.acceptOffer slot) s = .next (s.answering s true [2]))))
  ∧ (∀ (s : State) (slot : Byte) (e : BoardEntry), s.ready .run → slot.toNat < 16 →
       slotGet s.ofb.slots slot.toNat = some e → s.ofb.keyLaw →
       let passed := s.withEntry slot.toNat { e with state := .watch, reason := some .passed, claimMark := none }
       (e.state = .opened → exec (.passOffer slot) s = .next (passed.answering s true [0]))
       ∧ (e.state = .claimPending → ∃ t, exec (.passOffer slot) s = .next t ∧ QueueFrame (passed.answering s true [0]) t
         ∧ ∀ x ∈ t.cau.queue, x.owner ≠ .own (.claim e.key))
       ∧ (e.state ≠ .opened → e.state ≠ .claimPending → exec (.passOffer slot) s = .next (s.answering s true [2])))

/-- The close of an entry (R95): the list is frozen; a CLAIMED entry ranks by its own record, 1 and 2 wait as RANKED, 3 and
absent are LOST; every other state is left. Rank 0 takes its turn at once (R97): see the next statement. The take turn (R95,
R97): a RANKED entry at close + rank × 3000 ms, and a CLAIMED one of rank 0 at its close. With availability FREE it enters
TAKING, a TAKE with its rank is offered, the fare engine goes to ON-CALL and OFFER-WON is raised; otherwise it enters
FORFEIT. Where it rests on the model's choices, log entries 2 and 25 say so. -/
def Obligations.CloseRanksAndTakeTurnsWin : Prop :=
  (∀ (s : State) (slot : Nat) (e : BoardEntry), slotGet s.ofb.slots slot = some e → e.closeTaken = false →
     e.close ≤ s.now →
     (e.state ≠ .claimed → exec (.close slot) s = .next (s.withEntry slot { e with closeTaken := true }))
     ∧ (e.state = .claimed → (∀ c ∈ e.claims, c.id ≠ s.ownId) →
       exec (.close slot) s = .next ((s.withEntry slot { e with
         closeTaken := true, rank := none, state := .lost, termTime := some s.now }).raiseEvent .offerLost slot 7))
     ∧ ∀ before own after, e.state = .claimed → e.claims = before ++ own :: after → own.id = s.ownId →
       (∀ c ∈ before, c.id ≠ s.ownId) →
       (before.length = 1 ∨ before.length = 2 → exec (.close slot) s = .next (s.withEntry slot { e with
         closeTaken := true, rank := some before.length, state := .ranked }))
       ∧ (3 ≤ before.length → exec (.close slot) s = .next ((s.withEntry slot { e with
         closeTaken := true, rank := some before.length, state := .lost, termTime := some s.now }).raiseEvent
           .offerLost slot 7)))
  ∧ (∀ (s : State) (slot : Nat) (e e' : BoardEntry) (c : Instr), slotGet s.ofb.slots slot = some e → s.ofb.keyLaw →
       (c = .takeTurn slot ∧ e.state = .ranked ∧ e.close + e.rank.getD 0 * (3000 * ms) ≤ s.now ∧ e' = e)
         ∨ (c = .close slot ∧ e.state = .claimed ∧ e.closeTaken = false ∧ e.close ≤ s.now
           ∧ e' = { e with closeTaken := true, rank := some 0 }
           ∧ ∃ own after, e.claims = own :: after ∧ own.id = s.ownId) →
       (s.ofb.avail ≠ some .free → exec c s = .next ((s.withEntry slot { e' with
         state := .forfeit, termTime := some s.now }).raiseEvent .offerLost slot 11))
       ∧ (s.ofb.avail = some .free → s.ret.fare = .vacant →
         ∃ t, exec c s = .next t
           ∧ AvailFrame (({ (s.withEntry slot { e' with state := .taking }) with
               fre := { s.fre with idleSince := none } }.withRet { s.ret with fare := .onCall }).raiseEvent
                 .offerWon slot 0) t
           ∧ t.fre.avail = some t.availNow
           ∧ (s.room → (∀ x ∈ slotEntries s.ofb.slots, x.state ≠ .claimPending) →
             t.cau = { s.cau with queue := s.cau.queue
               ++ [s.ownEntry (.take e.key) (.take e.key (e.score.getD 0) (e'.rank.getD 0) false)] })))

/-- RELEASE-JOB (R84) gives up the job in hand: DROPPED with the reason, its TAKE out of the queue, a DROP offered from TAKEN
alone, the fare engine back from ON-CALL to VACANT. Without a job it is refused with STATE. Where it rests on the model's
choice, log entry 21 says so. -/
def Obligations.ReleaseJobDropsTheJob : Prop :=
  ∀ (s : State) (reason : Byte), s.ready .run → reason.toNat ≤ 1 → s.ofb.keyLaw →
    (s.jobEntry = none → exec (.releaseJob reason) s = .next (s.answering s true [2]))
    ∧ ∀ slot e, s.jobEntry = some (slot, e) → s.ret.fare = .onCall →
      ∃ t, exec (.releaseJob reason) s = .next t
        ∧ AvailFrame ((({ (s.withEntry slot { e with
            state := .dropped
            termTime := some s.now
            reason := some (if reason = 0 then .noShow else .declined)
            droppedFromTaking := decide (e.state = OfferState.taking) }) with
              fre := { s.fre with idleSince := s.idleFrom .vacant s.fre.driver } }).withRet
                { s.ret with fare := .vacant }).answering s true [0]) t
        ∧ t.fre.avail = some t.availNow
        ∧ (∀ x ∈ t.cau.queue, x.owner ≠ .own (.take e.key))
        ∧ (s.room → s.ofb.avail ≠ some .free → s.cau.holds (.take e.key) = false → s.cau.defers (.take e.key) = false →
          (e.state = .taking → t.cau.queue = s.cau.queue)
          ∧ (e.state = .taken → t.cau.queue = s.cau.queue
            ++ [s.ownEntry (.drop e.key) (.drop e.key (if reason = 0 then 0 else 1))]))

/-- A delivered CLAIM (R93, R94): before the close it is placed whatever the state; three better records take an OPEN or
CLAIM-PENDING entry to OUTBID; after the close it is ignored. Where it rests on the model's choice, log entry 25 says so. -/
def Obligations.ClaimHeardIsPlacedOrOutbids : Prop :=
  ∀ (s : State) (f : Frame) (t : Nat) (k : JobKey) (score : Nat) (vclass : Option Nat),
    f.body = .claim k score vclass → s.ofb.keyLaw →
    (s.entry k = none → s.deliver f t = s)
    ∧ ∀ slot e, s.entry k = some (slot, e) →
      let claims := placeClaim ⟨f.origin, score⟩ e.claims
      let better := (claims.filter fun c => decide
        (c.score < e.score.getD 0 ∨ (c.score = e.score.getD 0 ∧ c.id < s.ownId))).length
      (e.closeTaken = true → s.deliver f t = s)
      ∧ (e.closeTaken = false → (e.state ≠ .opened ∧ e.state ≠ .claimPending) ∨ better < 3 →
        s.deliver f t = s.withEntry slot { e with claims := claims })
      ∧ (e.closeTaken = false → e.state = .opened ∨ e.state = .claimPending → 3 ≤ better →
        QueueFrame ((s.withEntry slot { e with
          claims := claims, state := .outbid, termTime := some s.now }).raiseEvent .offerLost slot 8) (s.deliver f t)
        ∧ (e.state = .claimPending → ∀ x ∈ (s.deliver f t).cau.queue, x.owner ≠ .own (.claim k)))

/-- A delivered TAKE for an entry that does not hold the job (R99). A delivered TAKE for the entry in TAKING or TAKEN (R100): a
better record takes the job, with a DROP from TAKEN; a worse one draws one repeat TAKE from TAKEN and nothing else. Where it
rests on the model's choice, log entry 25 says so. -/
def Obligations.TakeHeardEndsOrSettlesTheJob : Prop :=
  (∀ (s : State) (f : Frame) (t : Nat) (k : JobKey) (score rank : Nat) (rep : Bool) (slot : Nat) (e : BoardEntry),
     f.body = .take k score rank rep → s.ofb.keyLaw → s.entry k = some (slot, e) →
     let lost : State := (s.withEntry slot { e with
       takenBy := some ⟨f.origin, score⟩, state := .lost, termTime := some s.now, claimMark := none }).raiseEvent
         .offerLost slot 7
     (e.state = .opened ∨ e.state = .claimed ∨ e.state = .ranked → e.claimMark = none → s.deliver f t = lost)
     ∧ (e.state = .claimPending → QueueFrame lost (s.deliver f t)
       ∧ ∀ x ∈ (s.deliver f t).cau.queue, x.owner ≠ .own (.claim k))
     ∧ (e.state = .watch → s.deliver f t = s.withEntry slot { e with
       takenBy := some ⟨f.origin, score⟩, state := .closed, termTime := some s.now })
     ∧ (e.state = .done → s.deliver f t = s.raiseEvent .takeConflict slot 0)
     ∧ (e.state.live = false → e.state ≠ .done →
       s.deliver f t = s.withEntry slot { e with takenBy := some ⟨f.origin, score⟩ }))
  ∧ (∀ (s : State) (f : Frame) (t : Nat) (k : JobKey) (score rank : Nat) (rep : Bool) (slot : Nat) (e : BoardEntry),
       f.body = .take k score rank rep → s.ofb.keyLaw → s.entry k = some (slot, e) → e.state = .taking ∨ e.state = .taken →
       let better := score < e.score.getD 0 ∨ (score = e.score.getD 0 ∧ f.origin < s.ownId)
       (better → s.ret.fare = .onCall → e.reason = none →
         AvailFrame (({ (s.withEntry slot { e with
             state := .yielded, termTime := some s.now, takenBy := some ⟨f.origin, score⟩ }) with
               fre := { s.fre with idleSince := s.idleFrom .vacant s.fre.driver } }.withRet
                 { s.ret with fare := .vacant }).raiseEvent .jobYielded slot 0) (s.deliver f t)
         ∧ (∀ x ∈ (s.deliver f t).cau.queue, x.owner ≠ .own (.take k))
         ∧ (s.room → s.ofb.avail ≠ some .free → s.cau.holds (.take k) = false → s.cau.defers (.take k) = false →
           (e.state = .taking → (s.deliver f t).cau.queue = s.cau.queue)
           ∧ (e.state = .taken →
             (s.deliver f t).cau.queue = s.cau.queue ++ [s.ownEntry (.drop k) (.drop k 2)])))
       ∧ (¬ better → e.state = .taking ∨ e.repeatUsed = true → s.deliver f t = s)
       ∧ (¬ better → e.state = .taken → e.repeatUsed = false →
         QueueFrame (s.withEntry slot { e with repeatUsed := true }) (s.deliver f t)
         ∧ (s.room → (s.deliver f t).cau = { s.cau with queue := s.cau.queue
           ++ [s.ownEntry (.take k) (.take k (e.score.getD 0) (e.rank.getD 0) true)] })))

/-- A delivered CANCEL (R101, R152): a live entry becomes WITHDRAWN with the reason and the notes with its key are deleted; a
job in hand also leaves the fare engine; a DONE entry raises the late event and marks its trip, in progress or the newest in
the log, and changes no store when neither carries the job (R126, R132); other entries stand. A delivered DROP clears
taken-by (R102). Where it rests on the model's choice, log entry 25 says so. -/
def Obligations.CancelWithdrawsAndDropClearsTakenBy : Prop :=
  ∀ (s : State) (f : Frame) (t : Nat) (k : JobKey) (slot : Nat) (e : BoardEntry), s.ofb.keyLaw →
    s.entry k = some (slot, e) →
    (∀ reason, f.body = .cancel k.job reason → f.origin = k.base →
      let r : Reason := if reason = 0 then .customer else if reason = 1 then .reOffered else .other
      let u := { (s.withEntry slot { e with
          state := .withdrawn, reason := some r, termTime := some s.now, claimMark := none, takeMark := none }) with
        nts := { s.nts with inbox := s.nts.inbox.map (·.map fun n =>
          if n.key = some k ∧ n.state ≠ .deleted then { n with state := .deleted, delReason := some .jobWithdrawn } else n) } }
      (e.state = .opened ∨ e.state = .claimed ∨ e.state = .ranked ∨ e.state = .watch → s.deliver f t = u)
      ∧ (e.state = .claimPending → QueueFrame u (s.deliver f t)
        ∧ ∀ x ∈ (s.deliver f t).cau.queue, x.owner ≠ .own (.claim k))
      ∧ (e.state = .taking ∨ e.state = .taken → s.ret.fare = .onCall →
        AvailFrame (({ u with fre := { s.fre with idleSince := s.idleFrom .vacant s.fre.driver } }.withRet
          { s.ret with fare := .vacant }).raiseEvent .jobCancelled slot 0) (s.deliver f t)
        ∧ ∀ x ∈ (s.deliver f t).cau.queue, x.owner ≠ .own (.take k))
      ∧ (e.state = .done → ∀ trip, s.ret.trip = some trip → trip.jobKey = some k →
        s.deliver f t = (s.withRet { s.ret with
          trip := some { trip with flags := { trip.flags with lateCancel := true } } }).raiseEvent .jobCancelled slot 1)
      ∧ (e.state = .done → (∀ trip, s.ret.trip = some trip → trip.jobKey ≠ some k) →
        ∀ before rec after, s.ret.tripLog = before ++ rec :: after → rec.jobKey = some k →
        (∀ x ∈ before, x.jobKey ≠ some k) →
        s.deliver f t = (s.withRet { s.ret with tripLog := before
          ++ { rec with flags := { rec.flags with lateCancel := true } } :: after }).raiseEvent .jobCancelled slot 1)
      ∧ (e.state = .done → (∀ trip, s.ret.trip = some trip → trip.jobKey ≠ some k) →
        (∀ x ∈ s.ret.tripLog, x.jobKey ≠ some k) → s.deliver f t = s.raiseEvent .jobCancelled slot 1)
      ∧ (e.state.live = false → e.state ≠ .done → s.deliver f t = s))
    ∧ (∀ reason, f.body = .drop k reason → s.deliver f t = s.withEntry slot { e with takenBy := none })

/-! ## The fare engine and the totals (chapters 7 and 8) -/

/-- Availability (R109): the first line of the table whose condition holds, from the alarm state of the emergency unit itself,
and its codes. -/
def Obligations.AvailabilityIsTheFirstLineThatHolds : Prop :=
  ∀ (alarm : AlarmState) (fare : FareState) (stale shiftOpen : Bool) (driver : DriverStatus),
    let a := availability alarm fare stale shiftOpen driver
    (alarm ≠ .quiet → a = .alarm)
    ∧ (alarm = .quiet →
      (fare = .onCall → a = .onCall) ∧ (fare = .hired ∨ fare = .held → a = .hired) ∧ (fare = .total → a = .total)
      ∧ (fare = .vacant →
        (stale = true ∨ shiftOpen = false → a = .noFix)
        ∧ (stale = false → shiftOpen = true →
          (driver = .onBreak → a = .onBreak) ∧ (driver = .off → a = .off) ∧ (driver = .available → a = .free))))
    ∧ (∀ s : State, s.availNow = availability s.ret.alarm s.ret.fare s.ppu.stale s.ret.shiftOpen s.fre.driver)
    ∧ [Avail.free, .noFix, .onCall, .hired, .total, .onBreak, .off, .alarm].map (·.code) = [0, 1, 2, 3, 4, 5, 6, 7]

/-- SET-DRIVER-STATUS (R88, R108): the status is set, the idle timer and the availability follow, and the offers of a FREE cab
whose driver is no longer AVAILABLE go to WATCH with reason BUSY (R78); AVAILABLE in a closed shift is refused with STATE, a
byte above 2 with RANGE. The shift (R135, R137 to R139): START-SHIFT zeroes the shift totals and the shift time and opens
the shift, barred by a fare, an open shift or a shift-end TALLY in hand; END-SHIFT closes it and builds the shift-end TALLY
for a home base; a second of an open shift advances the shift time. Where it rests on the model's choices, log entries 2 and
33 say so. -/
def Obligations.DriverStatusAndShiftFeedAvailability : Prop :=
  (∀ (s : State) (status : Byte), s.ready .run →
     (3 ≤ status.toNat → exec (.setDriverStatus status) s = .next (s.answering s true [3]))
     ∧ ∀ d : DriverStatus, (status = 0 ∧ d = .available) ∨ (status = 1 ∧ d = .onBreak) ∨ (status = 2 ∧ d = .off) →
     (d = .available → s.ret.shiftOpen = false → exec (.setDriverStatus status) s = .next (s.answering s true [2]))
     ∧ (d ≠ .available ∨ s.ret.shiftOpen = true →
       ∃ t, exec (.setDriverStatus status) s = .next t
         ∧ AvailFrame ({ s with fre := { s.fre with driver := d, idleSince := s.idleFrom s.ret.fare d } }.answering s true
           [0]) t
         ∧ t.fre.avail = some t.availNow
         ∧ (d ≠ .available → s.ret.alarm = .quiet → s.ret.fare = .vacant → s.ppu.stale = false →
           s.ret.shiftOpen = true → s.fre.avail = some .free → s.ofb.avail = some .free →
           ∀ slot e, slotGet s.ofb.slots slot = some e → e.state = .opened ∨ e.state = .claimPending →
           ∃ e', slotGet t.ofb.slots slot = some e'
             ∧ e'.unmark = { e.unmark with state := .watch, reason := some .busy })))
  ∧ (∀ (s : State),
       (s.ready .run →
         (s.ret.fare ≠ .vacant ∨ s.ret.shiftOpen = true ∨ (∃ x, s.ttl.tally = some x ∧ x.body.shiftEnd = true) →
           exec .startShift s = .next (s.answering s false [2]))
         ∧ (s.ret.fare = .vacant → s.ret.shiftOpen = false → (∀ x, s.ttl.tally = some x → x.body.shiftEnd = false) →
           ∃ t, exec .startShift s = .next t
             ∧ AvailFrame (({ s with ttl := { s.ttl with shiftTickAt := some (s.now + 1000 * ms) } }.withRet { s.ret with
               shift := ⟨0, 0, 0, 0, 0, 0, 0, 0, 0, 0⟩, shiftTime := 0, shiftOpen := true }).answering s false [0]) t
             ∧ t.fre.avail = some t.availNow)
         ∧ (s.ret.fare ≠ .vacant ∨ s.ret.shiftOpen = false → exec .endShift s = .next (s.answering s false [2]))
         ∧ ∀ st, s.cpt.config = some st → s.ret.fare = .vacant → s.ret.shiftOpen = true →
           let tally : TallyBody := {
             dest := st.home, shiftEnd := true, trips := s.ret.shift.trips, fare := s.ret.shift.fare
             extras := s.ret.shift.extras, hired := s.ret.shift.hiredDist, dist := s.ret.shift.totalDist
             lastTrip := s.ret.tripCounter }
           ∃ t, exec .endShift s = .next t
             ∧ AvailFrame (({ s with ttl := {
                 shiftTickAt := none
                 tally := if 1 ≤ st.home ∧ st.home ≤ 31 then some ⟨tally, none, .offered⟩ else s.ttl.tally } }.withRet
               { s.ret with shiftOpen := false }).answering s false [0]) t
             ∧ t.fre.avail = some t.availNow)
       ∧ ∀ tick, s.ttl.shiftTickAt = some tick → tick ≤ s.now →
         exec .shiftTimeTick s = .next ({ s with ttl := { s.ttl with shiftTickAt := some (tick + 1000 * ms) } }.withRet
           { s.ret with shiftTime := min cap32 (s.ret.shiftTime + 1) }))

/-- HIRE (R103, R112, R116 to R118): from VACANT a street hail, from ON-CALL the job in hand, whose entry goes to DONE; the trip
starts at zero with the tariff copied, Dp and Θ computed, and the surcharge of the current zone applied. Otherwise it is
refused with STATE, or with RANGE without a tariff or without k. Where it rests on the model's choice, log entry 21 says so. -/
def Obligations.HireStartsATrip : Prop :=
  ∀ (s : State) (tariff : Byte), s.ready .run → 1 ≤ tariff.toNat → tariff.toNat ≤ 8 →
    ((s.ret.fare = .hired ∨ s.ret.fare = .held ∨ s.ret.fare = .total ∨ s.ret.alarm = .alerting
        ∨ s.ret.shiftOpen = false) → exec (.hire tariff) s = .next (s.answering s true [2]))
    ∧ (s.ret.fare = .vacant ∨ s.ret.fare = .onCall → s.ret.alarm ≠ .alerting → s.ret.shiftOpen = true →
      (slotGet s.ret.tariffs (tariff.toNat - 1) = none ∨ s.ret.k = none →
        exec (.hire tariff) s = .next (s.answering s true [3]))
      ∧ ∀ tr k, slotGet s.ret.tariffs (tariff.toNat - 1) = some tr → s.ret.k = some k → tr.flagFall ≤ 65535 →
        (∀ a ∈ s.ret.surcharges, a ≤ 65535) →
        let dp := (tr.incDist * k + 500) / 1000
        let index : Nat := match slotGet s.ppu.zones s.ppu.zone with
          | some z => if z.surcharge ≤ 3 then z.surcharge else 0
          | none => 0
        let started (key : Option JobKey) (u : State) : State := ({ u with
          fre := { s.fre with idleSince := none, secondAt := some (s.now + 1000 * ms) } }.withRet { s.ret with
            fare := .hired
            trip := some {
              tariff := tariff.toNat, flagFall := tr.flagFall, incAmount := tr.incAmount, incTime := tr.incTime
              n0 := tr.n0, dp := dp, theta := dp * tr.incTime, acc := 0, units := 0, bucket := 0, dist := 0, rem := 0
              hiredS := 0, heldS := 0
              applied := if index = 0 then 0 else BitVec.ofNat 3 (2 ^ (index - 1))
              surchSum := if index = 0 then 0 else s.ret.surcharges.getD (index - 1) 0
              extras := [], flags := ⟨false, false, false, false⟩, hireTime := s.ret.shiftTime, stopTime := none
              jobKey := key } }).answering s true [0]
        (s.ret.fare = .vacant → ∃ t, exec (.hire tariff) s = .next t ∧ AvailFrame (started none s) t
          ∧ t.fre.avail = some t.availNow)
        ∧ ∀ slot e, s.ret.fare = .onCall → s.jobEntry = some (slot, e) →
          ∃ t, exec (.hire tariff) s = .next t
            ∧ AvailFrame (started (some e.key) (s.withEntry slot { e with
              state := .done, termTime := some s.now, takeMark := none })) t
            ∧ t.fre.avail = some t.availNow)

/-- STOP (R120, R121, R123): from HIRED the part-second is settled with distance credit alone, from HELD a held second may
count; the timer stops, the stop time is written, the fare state is TOTAL, and the total is answered, at most 999,999 cents.
RESUME (R118, R124): the stopped trip goes on, HELD while ALERTING and HIRED otherwise, with an empty bucket, the second
timer started and the zone tested for a surcharge. -/
def Obligations.StopFreezesAndResumeContinues : Prop :=
  (∀ (s : State) (x : Trip) (tick : Nat), s.ready .run → s.ret.trip = some x → s.fre.secondAt = some tick →
     let part := if tick ≤ s.now + 999 * ms then 1 else 0
     let stopped (u : State) (y : Trip) : Prop :=
       let total := min 999999 (y.flagFall + y.incAmount * (y.units - y.n0) + y.surchSum + y.extras.sum)
       ∃ t, exec .stop s = .next t
         ∧ AvailFrame ((({ u with fre := { s.fre with secondAt := none, idleSince := none } }).withRet { s.ret with
           fare := .total, trip := some { y with stopTime := some s.ret.shiftTime } }).answering s false
             (0 :: put32 total)) t
         ∧ t.fre.avail = some t.availNow
     (s.ret.fare = .hired →
       let credit := x.bucket * x.incTime
       let units := min 65535 (x.units + (x.acc + credit) / x.theta)
       let y := { x with
         acc := (x.acc + credit) % x.theta, units := units, bucket := 0, hiredS := min cap32 (x.hiredS + part) }
       let raw := x.flagFall + x.incAmount * (units - x.n0) + x.surchSum + x.extras.sum
       (units = x.units ∨ raw < 999999 ∨ x.flags.fareLimit = true → stopped s y)
       ∧ (units ≠ x.units → 999999 ≤ raw → x.flags.fareLimit = false →
         stopped (s.raiseEvent .fareLimit 0 0) { y with flags := { y.flags with fareLimit := true } }))
     ∧ (s.ret.fare = .held → stopped s { x with heldS := min cap32 (x.heldS + part) }))
  ∧ (∀ (s : State) (x : Trip), s.ready .run → s.ret.fare = .total → s.ret.trip = some x →
       let fare := if s.ret.alarm = .alerting then FareState.held else .hired
       let resumed (u : State) (y : Trip) : Prop := ∃ t, exec .resume s = .next t
         ∧ AvailFrame (({ u with fre := { s.fre with secondAt := some (s.now + 1000 * ms) } }.withRet { s.ret with
           fare := fare, trip := some { y with bucket := 0 } }).answering s false [0]) t
         ∧ t.fre.avail = some t.availNow
       (s.zoneSurcharge = none → resumed s x)
       ∧ ∀ i, s.zoneSurcharge = some i →
         (x.hasApplied i = true → resumed s x)
         ∧ (x.hasApplied i = false →
           let y := { x with
             applied := x.applied ||| BitVec.ofNat 3 (2 ^ (i - 1))
             surchSum := x.surchSum + s.ret.surcharges.getD (i - 1) 0 }
           let raw := y.flagFall + y.incAmount * (y.units - y.n0) + y.surchSum + y.extras.sum
           (raw < 999999 ∨ x.flags.fareLimit = true → resumed s y)
           ∧ (999999 ≤ raw → x.flags.fareLimit = false →
             resumed (s.raiseEvent .fareLimit 0 0) { y with flags := { y.flags with fareLimit := true } })))

/-- SETTLE (R125, R130, R131, R133, R136, R139): the trip gets the next number, heads the log of sixteen, is added to both sets
of totals and to the total of its payment kind, a TALLY is built for a home base, and the cab is VACANT. -/
def Obligations.SettleBooksTheTrip : Prop :=
  ∀ (s : State) (payment : Byte) (x : Trip) (st : Station), s.ready .run → s.cpt.config = some st →
    s.ret.fare = .total → s.ret.trip = some x → payment.toNat ≤ 2 →
    let meter := x.flagFall + x.incAmount * (x.units - x.n0)
    let total := min 999999 (meter + x.surchSum + x.extras.sum)
    let number := if s.ret.tripCounter < 65535 then s.ret.tripCounter + 1 else 1
    let paid (kind n : Nat) : Nat := if payment.toNat = kind then min cap32 (n + total) else n
    let shift : ShiftTotals := { s.ret.shift with
      trips := min cap32 (s.ret.shift.trips + 1)
      fare := min cap32 (s.ret.shift.fare + total)
      extras := min cap32 (s.ret.shift.extras + x.extras.sum)
      surcharges := min cap32 (s.ret.shift.surcharges + x.surchSum)
      cash := paid 0 s.ret.shift.cash
      card := paid 1 s.ret.shift.card
      account := paid 2 s.ret.shift.account
      hiredDist := min cap32 (s.ret.shift.hiredDist + x.dist)
      hiredS := min cap32 (s.ret.shift.hiredS + x.hiredS) }
    let life : LifeTotals := { s.ret.life with
      trips := min cap32 (s.ret.life.trips + 1)
      fare := min cap32 (s.ret.life.fare + total)
      hiredDist := min cap32 (s.ret.life.hiredDist + x.dist) }
    let rec_ : TripRecord := {
      number := number, tariff := x.tariff, hireTime := x.hireTime, stopTime := x.stopTime.getD 0, dist := x.dist
      hiredS := x.hiredS, heldS := x.heldS, meter := meter, surcharges := x.surchSum, extras := x.extras.sum
      extraCount := x.extras.length, total := total, payment := payment.toNat, jobKey := x.jobKey, flags := x.flags }
    let tally : TallyBody := {
      dest := st.home, shiftEnd := !s.ret.shiftOpen, trips := shift.trips, fare := shift.fare, extras := shift.extras
      hired := shift.hiredDist, dist := s.ret.shift.totalDist, lastTrip := number }
    ∃ t, exec (.settle payment) s = .next t
      ∧ AvailFrame (({ s with
          fre := { s.fre with idleSince := s.idleFrom .vacant s.fre.driver }
          ttl := if 1 ≤ st.home ∧ st.home ≤ 31 then { s.ttl with tally := some ⟨tally, none, .offered⟩ } else s.ttl
          }.withRet { s.ret with
            fare := .vacant, trip := none, tripCounter := number, tripLog := (rec_ :: s.ret.tripLog).take 16
            shift := shift, life := life }).answering s true (0 :: put16 number)) t
      ∧ t.fre.avail = some t.availNow

/-- ADD-EXTRA (R121, R122): the amount joins the list, and the new total, at most 999,999 cents, is answered; the first total at
the clamp sets FARE-LIMIT and raises its event. -/
def Obligations.AddExtraRaisesTheTotal : Prop :=
  ∀ (s : State) (amount : BitVec 16), s.ready .run → 1 ≤ amount.toNat → amount.toNat ≤ 9999 →
    ((s.ret.fare = .vacant ∨ s.ret.fare = .onCall) → exec (.addExtra amount) s = .next (s.answering s true [2]))
    ∧ ∀ x, s.ret.fare ≠ .vacant → s.ret.fare ≠ .onCall → s.ret.trip = some x →
      let y := { x with extras := x.extras ++ [amount.toNat] }
      let raw := x.flagFall + x.incAmount * (x.units - x.n0) + x.surchSum + (x.extras.sum + amount.toNat)
      let result := 0 :: put32 (min 999999 raw)
      (8 ≤ x.extras.length → exec (.addExtra amount) s = .next (s.answering s true [9]))
      ∧ (x.extras.length < 8 → raw < 999999 ∨ x.flags.fareLimit = true →
        exec (.addExtra amount) s = .next ((s.withRet { s.ret with trip := some y }).answering s true result))
      ∧ (x.extras.length < 8 → 999999 ≤ raw → x.flags.fareLimit = false →
        exec (.addExtra amount) s = .next (((s.withRet { s.ret with trip := some { y with
          flags := { y.flags with fareLimit := true } } }).raiseEvent .fareLimit 0 0).answering s true result))

/-- The second tick (R116, R119, R120, R121): in HIRED the credit is the bucket's, or Dp when that is more; it goes through A
into whole units of Θ, the rest staying in A, and u saturates at 65535. In HELD one held second counts and nothing is
charged. Outside a running trip the tick only starts the next second, and before its time it does nothing. A pulse (R115,
R116, R134): counted in every part and fare state of a powered part while k is held; a pulse is 1000 k-ths of a metre, the
whole metres go to the total distance, the lifetime total and, in an open shift, the shift total, and the rest stays in the
remainder; in HIRED and HELD likewise to the trip, in HIRED to the bucket up to 4000, OVERSPEED beyond. Where it rests on
the model's choices, log entries 2, 20 and 27 say so. -/
def Obligations.SecondsAndPulsesAreCharged : Prop :=
  (∀ s : State,
     (∀ tick, s.fre.secondAt = some tick → tick ≤ s.now →
       let fre := { s.fre with secondAt := some (tick + 1000 * ms) }
       ((s.ret.fare ≠ .hired ∧ s.ret.fare ≠ .held) ∨ s.ret.trip = none → exec .secondTick s = .next { s with fre := fre })
       ∧ ∀ x, s.ret.trip = some x →
         (s.ret.fare = .hired →
           let credit := max (x.bucket * x.incTime) x.dp
           let units := min 65535 (x.units + (x.acc + credit) / x.theta)
           let y := { x with
             acc := (x.acc + credit) % x.theta, units := units, bucket := 0, hiredS := min cap32 (x.hiredS + 1) }
           let raw := x.flagFall + x.incAmount * (units - x.n0) + x.surchSum + x.extras.sum
           (units = x.units ∨ raw < 999999 ∨ x.flags.fareLimit = true →
             exec .secondTick s = .next ({ s with fre := fre }.withRet { s.ret with trip := some y }))
           ∧ (units ≠ x.units → 999999 ≤ raw → x.flags.fareLimit = false →
             exec .secondTick s = .next (({ s with fre := fre }.withRet { s.ret with trip := some { y with
               flags := { y.flags with fareLimit := true } } }).raiseEvent .fareLimit 0 0)))
         ∧ (s.ret.fare = .held → exec .secondTick s = .next ({ s with fre := fre }.withRet { s.ret with
           trip := some { x with heldS := min cap32 (x.heldS + 1) } })))
     ∧ (s.fre.secondAt = none ∨ (∃ tick, s.fre.secondAt = some tick ∧ s.now < tick) → exec .secondTick s = .next s))
  ∧ (∀ s : State,
       (s.powered = false ∨ s.ret.k = none → exec .pulse s = .next s)
       ∧ ∀ k, s.powered = true → s.ret.k = some k →
         let metres := (s.ret.totalRem + 1000) / k
         let ret := { s.ret with
           totalDist := min cap32 (s.ret.totalDist + metres)
           totalRem := (s.ret.totalRem + 1000) % k
           life := { s.ret.life with totalDist := min cap32 (s.ret.life.totalDist + metres) }
           shift := if s.ret.shiftOpen
             then { s.ret.shift with totalDist := min cap32 (s.ret.shift.totalDist + metres) } else s.ret.shift }
         ((s.ret.fare ≠ .hired ∧ s.ret.fare ≠ .held) ∨ s.ret.trip = none → exec .pulse s = .next (s.withRet ret))
         ∧ ∀ x, s.ret.trip = some x →
           let y := { x with dist := min cap32 (x.dist + (x.rem + 1000) / k), rem := (x.rem + 1000) % k }
           (s.ret.fare = .held → exec .pulse s = .next (s.withRet { ret with trip := some y }))
           ∧ (s.ret.fare = .hired → x.bucket < 4000 →
             exec .pulse s = .next (s.withRet { ret with trip := some { y with bucket := x.bucket + 1 } }))
           ∧ (s.ret.fare = .hired → 4000 ≤ x.bucket →
             exec .pulse s = .next (s.withRet { ret with trip := some { y with
               flags := { x.flags with overspeed := true } } })))

/-! ## Driver notes (chapter 9) -/

/-- POST-NOTE (R155, R156): a note that passes the checks of step 1 takes the lowest free outbox slot, or in a full outbox that
of the terminal record that ended first, and the next note id, and the NOTE is offered; without a terminal record it is
refused with FULL. The retry time of a note in AWAIT (R158): below four transmissions it is offered again, after four it is
FAILED and NOTE-FAILED is raised. Where it rests on the model's choices, log entries 2, 3 and 18 say so. -/
def Obligations.PostedNotesAreSentUntilAnswered : Prop :=
  (∀ (s : State) (dest base job : BitVec 16) (flags : Byte) (text pad : List Byte), s.ready .run →
     1 ≤ text.length → text.length ≤ 40 → pad.length = text.length % 2 → (∀ c ∈ text, 0x20 ≤ c.toNat ∧ c.toNat ≤ 0x7E) →
     1 ≤ dest.toNat → dest.toNat ≤ 4095 → dest.toNat ≠ s.ownId → flags.toNat < 8 →
     (flags.getLsbD 2 = true → 1 ≤ base.toNat ∧ base.toNat ≤ 31) →
     let bytes := wordBytes dest ++ [flags] ++ wordBytes base ++ wordBytes job ++ [byte text.length] ++ text ++ pad
     let key : Option JobKey := if flags.getLsbD 2 = true then some ⟨base.toNat, job.toNat⟩ else none
     let past (r : OutNote) : Prop := r.state.live = false
     (lowestFree s.nts.outbox = none → noSlot s.nts.outbox past →
       exec (.postNote bytes) s = .next (s.answering s true [4]))
     ∧ ∀ slot, lowestFree s.nts.outbox = some slot
         ∨ (lowestFree s.nts.outbox = none ∧ firstSlot s.nts.outbox past (·.termTime.getD 0) slot) →
       ∃ t, exec (.postNote bytes) s = .next t
         ∧ QueueFrame (({ s with nts := { s.nts with outbox := s.nts.outbox.set slot (some {
             dest := dest.toNat, id := s.ret.noteId, wanted := flags.getLsbD 0, urgent := flags.getLsbD 1, key := key
             text := text, made := 0, retryAt := none, mark := none, state := .queued, termTime := none }) } }.withRet
               { s.ret with noteId := (s.ret.noteId + 1) % 256 }).answering s true
                 [0, byte (min slot 255), byte (min s.ret.noteId 255)]) t
         ∧ (s.room → t.cau = { s.cau with queue := s.cau.queue ++ [s.ownEntry (.note slot) (.note {
           dest := dest.toNat, id := s.ret.noteId, wanted := flags.getLsbD 0, urgent := flags.getLsbD 1, ref := key
           text := text })] }))
  ∧ (∀ (s : State) (slot time : Nat) (r : OutNote), slotGet s.nts.outbox slot = some r → r.state = .await →
       r.retryAt = some time → time ≤ s.now →
       (r.made < 4 → ∃ t, exec (.noteRetry slot) s = .next t
         ∧ QueueFrame { s with nts := { s.nts with
           outbox := s.nts.outbox.set slot (some { r with state := .queued, retryAt := none }) } } t
         ∧ (s.room → t.cau = { s.cau with queue := s.cau.queue ++ [s.ownEntry (.note slot) (.note {
           dest := r.dest, id := r.id, wanted := r.wanted, urgent := r.urgent, ref := r.key, text := r.text })] }))
       ∧ (4 ≤ r.made → exec (.noteRetry slot) s = .next ({ s with nts := { s.nts with
           outbox := s.nts.outbox.set slot (some { r with
             state := .failed, retryAt := none, termTime := some s.now }) } }.raiseEvent .noteFailed slot 0)))

/-- A delivered NOTE (R146 to R149): of no concern unless addressed to this cab or to ALL; a new one takes the lowest free slot,
or in a full inbox that of the DELETED, then the READ not urgent, then the READ note that arrived first and holds no receipt
mark (R147), as UNREAD, and raises its event, with a STORED receipt when this cab is asked for one; a duplicate stores
nothing. A delivered NOTE that finds no slot (R147, R149): the inbox is not changed; a note that asks this cab for a receipt
draws REFUSED-FULL, every other is dropped without trace. A REFUSED-FULL that the queue takes leaves the refusal list; one
it refuses stands in the list once, and is lost and counted when the list holds four others. Where it rests on the model's
choices, log entries 3 and 15 say so. -/
def Obligations.NotesHeardAreStoredOnceOrRefused : Prop :=
  (∀ (s : State) (f : Frame) (n : NoteBody) (t : Nat), f.body = .note n →
     let answer := n.dest = s.ownId ∧ n.wanted = true
     (n.dest ≠ s.ownId → n.dest ≠ 4095 → s.deliver f t = s)
     ∧ (n.dest = s.ownId ∨ n.dest = 4095 →
       (∀ slot r, s.inNote f.origin n.id = some (slot, r) →
         (¬ answer ∨ r.storedMark ≠ none → s.deliver f t = s)
         ∧ (answer → r.storedMark = none → QueueFrame s (s.deliver f t)
           ∧ (s.room → (s.deliver f t).cau = { s.cau with queue := s.cau.queue
             ++ [s.ownEntry (.receipt .stored f.origin n.id) (.receipt f.origin n.id .stored)] })))
       ∧ ∀ slot, s.inNote f.origin n.id = none →
         let free (p : InNote → Prop) (r : InNote) : Prop := r.storedMark = none ∧ r.readMark = none ∧ p r
         let deleted := free fun r => r.state = .deleted
         let read := free fun r => r.state = .read
         let plain := free fun r => r.state = .read ∧ r.urgent = false
         lowestFree s.nts.inbox = some slot ∨ (lowestFree s.nts.inbox = none
           ∧ (firstSlot s.nts.inbox deleted (·.arrival) slot
             ∨ (noSlot s.nts.inbox deleted ∧ (firstSlot s.nts.inbox plain (·.arrival) slot
               ∨ (noSlot s.nts.inbox plain ∧ firstSlot s.nts.inbox read (·.arrival) slot))))) →
         let u := { s with
           draws := s.draws + 1
           nts := { s.nts with inbox := s.nts.inbox.set slot (some {
             origin := f.origin
             toAll := decide (n.dest ≠ s.ownId)
             id := n.id
             urgent := n.urgent
             wanted := n.wanted
             key := n.ref.filter fun k => decide (1 ≤ k.base ∧ k.base ≤ 31)
             arrival := t
             text := n.text
             state := .unread
             delReason := none
             storedMark := none
             readMark := none }) } }.raiseEvent (if n.urgent then .noteUrgent else .noteArrived) slot 0
         (¬ answer → s.deliver f t = u)
         ∧ (answer → QueueFrame u (s.deliver f t)
           ∧ (s.room → (s.deliver f t).cau = { s.cau with queue := s.cau.queue
             ++ [s.ownEntry (.receipt .stored f.origin n.id) (.receipt f.origin n.id .stored)] }))))
  ∧ (∀ (s : State) (f : Frame) (n : NoteBody) (t : Nat), f.body = .note n → n.dest = s.ownId ∨ n.dest = 4095 →
       s.inNote f.origin n.id = none →
       (∀ x ∈ s.nts.inbox, ∃ r, x = some r ∧ (r.state = .unread ∨ r.storedMark ≠ none ∨ r.readMark ≠ none)) →
       (n.dest ≠ s.ownId ∨ n.wanted = false → s.deliver f t = s)
       ∧ (n.dest = s.ownId → n.wanted = true → QueueFrame s (s.deliver f t)
         ∧ (s.room → (s.deliver f t).cau = { s.cau with queue := s.cau.queue
           ++ [s.ownEntry (.receipt .refusedFull f.origin n.id) (.receipt f.origin n.id .refusedFull)] }
           ∧ (s.deliver f t).nts = { s.nts with
             refusals := s.nts.refusals.filter fun p => !decide (p.dest = f.origin ∧ p.id = n.id) })
         ∧ (s.cpt.part = .run → 8 ≤ s.cau.count → s.cau.waits → (∀ x ∈ s.cau.queue, x.cls ≤ 3) →
           let returned (nts : Nts) : State := { s with
             rru := { s.rru with stats := { s.rru.stats with ownRefused := inc16 s.rru.stats.ownRefused } }
             nts := nts }
           let listed : Prop := ∃ p ∈ s.nts.refusals, p.dest = f.origin ∧ p.id = n.id
           (listed → s.deliver f t = returned s.nts)
           ∧ (¬ listed → s.nts.refusals.length < 4 → s.deliver f t = returned { s.nts with
             refusals := s.nts.refusals ++ [⟨f.origin, n.id, ⟨s.now, none⟩⟩] })
           ∧ (¬ listed → 4 ≤ s.nts.refusals.length → s.deliver f t = returned { s.nts with
             refusalsLost := min 65535 (s.nts.refusalsLost + 1) }))))

/-- MARK-READ and DELETE-NOTE (R150, R151) on a slot that holds a record, and CLEAR-OUTBOX (R160). A delivered RECEIPT for a
posted note (R159): the state it leads to, the event, and the unsent NOTE out of the queue. Where it rests on the model's
choice, log entry 30 says so. -/
def Obligations.NotesAreReadDeletedClearedAndAnswered : Prop :=
  (∀ s : State, s.ready .run →
     (∀ (slot : Byte) (r : InNote), slot.toNat < 12 → slotGet s.nts.inbox slot.toNat = some r →
       let put (r' : InNote) : State := { s with nts := { s.nts with inbox := s.nts.inbox.set slot.toNat (some r') } }
       (r.state = .unread → r.toAll = true ∨ r.wanted = false →
         exec (.markRead slot) s = .next ((put { r with state := .read }).answering s true [0]))
       ∧ (r.state = .unread → r.toAll = false → r.wanted = true →
         ∃ t, exec (.markRead slot) s = .next t
           ∧ QueueFrame ((put { r with state := .read }).answering s true [0]) t
           ∧ (s.room → t.cau = { s.cau with queue := s.cau.queue
             ++ [s.ownEntry (.receipt .read r.origin r.id) (.receipt r.origin r.id .read)] }))
       ∧ (r.state = .read → exec (.markRead slot) s = .next (s.answering s true [0]))
       ∧ (r.state = .deleted → exec (.markRead slot) s = .next (s.answering s true [2]))
       ∧ (r.state ≠ .deleted → exec (.deleteNote slot) s = .next
         ((put { r with state := .deleted, delReason := some .host }).answering s true [0]))
       ∧ (r.state = .deleted → exec (.deleteNote slot) s = .next (s.answering s true [0])))
     ∧ (s.nts.outbox.length = 4 →
       let freed := ((slotEntries s.nts.outbox).filter fun r => !r.state.live).length
       exec .clearOutbox s = .next ({ s with nts := { s.nts with
         outbox := s.nts.outbox.map fun x : Option OutNote => x.filter fun r => r.state.live } }.answering s false [0, byte freed])))
  ∧ (∀ (s : State) (f : Frame) (t id slot : Nat) (r : OutNote) (kind : ReceiptKind),
       f.body = .receipt s.ownId id kind →
       slotFind (fun r : OutNote => r.id == id && r.dest == f.origin) s.nts.outbox 0 = some (slot, r) →
       let put (r' : OutNote) (e : EventKind) : State :=
         { s with nts := { s.nts with outbox := s.nts.outbox.set slot (some r') } }.raiseEvent e slot 0
       let outcome : ReceiptKind → OutState × EventKind := fun k =>
         match k with
         | .stored => (.delivered, .noteDelivered)
         | .read => (.read, .noteRead)
         | .refusedFull => (.refused, .noteRefused)
       (r.state.live = true →
         QueueFrame (put { r with
           state := (outcome kind).1, mark := none, retryAt := none, termTime := some s.now } (outcome kind).2) (s.deliver f t)
         ∧ ∀ x ∈ (s.deliver f t).cau.queue, x.owner ≠ .own (.note slot))
       ∧ ((r.state = .delivered ∧ kind = .read) ∨ (r.state = .refused ∧ kind ≠ .refusedFull) ∨ r.state = .failed →
         s.deliver f t = put { r with state := (outcome kind).1 } (outcome kind).2)
       ∧ ((r.state = .delivered ∧ kind ≠ .read) ∨ (r.state = .refused ∧ kind = .refusedFull) ∨ r.state = .read
           ∨ r.state = .sent → s.deliver f t = s))

/-! ## Emergency calls (chapter 10) -/

/-- Entry to ALERTING by RAISE-ALARM in QUIET or by a completed hold in ARMING (R104, R127, R165 to R168): the serial advances,
the flash starts when enabled, in RUN the repeat timer starts and an ALARM joins the queue; a HIRED fare is held with its
part-second settled, and a job in hand is dropped for the emergency; OPEN and CLAIM-PENDING entries go to WATCH with reason
ALARM and their CLAIMs leave the queue (R78, R104). Outside QUIET RAISE-ALARM is refused with STATE. Where it rests on the
model's choices, log entries 2, 26 and 33 say so. -/
def Obligations.AlertingIsEnteredInOneAct : Prop :=
  (∀ s : State, s.ready .run → s.ret.alarm ≠ .quiet → exec .raiseAlarm s = .next (s.answering s false [2]))
  ∧ ∀ (s : State) (c : Instr),
    (c = .raiseAlarm ∧ s.ready .run ∧ s.ret.alarm = .quiet)
      ∨ (c = .holdTimer ∧ s.ret.alarm = .arming ∧ s.emu.panicLow = true ∧ ∃ h, s.emu.holdAt = some h ∧ h ≤ s.now) →
    let serial := (s.ret.serial + 1) % 256
    let sign := match s.cpt.config with
      | some st => st.covertSign
      | none => false
    let emu := { s.emu with
      firstSent := true
      repeats := 0
      holdAt := none
      repeatAt := if s.cpt.part = .run then some (s.now + 10000 * ms) else s.emu.repeatAt
      flash := if sign then (if s.emu.flash.isSome then s.emu.flash else some ⟨true, s.now + 500 * ms⟩) else none }
    let answered (u : State) : State := if c = .raiseAlarm then u.answering s false (0 :: put8 serial) else u
    let entered (u : State) (ret : Retained) : Prop := ∃ t, exec c s = .next t ∧ t.fre.avail = some .alarm
      ∧ AvailFrame (answered ({ u with emu := emu }.withRet { ret with
        serial := serial, alarm := .alerting, covert := false })) t
    (s.ret.fare ≠ .hired → s.jobEntry = none → entered s s.ret)
    ∧ (∀ x, s.ret.fare = .hired → s.jobEntry = none → s.ret.trip = some x →
      let y := x.settlePart s.partSecond
      y.units = x.units ∨ y.rawTotal < 999999 ∨ x.flags.fareLimit = true →
      entered { s with fre := { s.fre with secondAt := some (s.now + 1000 * ms) } }
        { s.ret with fare := .held, trip := some y })
    ∧ (∀ slot e, s.jobEntry = some (slot, e) → s.ret.fare = .onCall →
      entered ({ (s.withEntry slot { e with
          state := .dropped
          termTime := some s.now
          reason := some .emergency
          droppedFromTaking := decide (e.state = OfferState.taking) }) with
            fre := { s.fre with idleSince := s.idleFrom .vacant s.fre.driver } }) { s.ret with fare := .vacant })
    ∧ (s.ret.fare ≠ .hired → s.jobEntry = none → s.room →
      (∀ x ∈ s.cau.queue, x.owner.inGroup .class0 = false) →
      (∀ a, s.cau.onAir = some a → a.entry.owner.inGroup .class0 = false) →
      (∀ e ∈ slotEntries s.ofb.slots, e.state ≠ .claimPending) →
      ∃ t, exec c s = .next t ∧ t.cau = { s.cau with queue := s.cau.queue
        ++ [s.ownEntry .alarm (.alarm serial 0 s.ppu.fix false s.framePos)] })
    ∧ ∃ t, exec c s = .next t ∧ ∀ slot e, slotGet s.ofb.slots slot = some e →
      e.state = .opened ∨ e.state = .claimPending →
      (∃ e', slotGet t.ofb.slots slot = some e' ∧ e'.unmark = { e.unmark with state := .watch, reason := some .alarm })
      ∧ (e.state = .claimPending → ∀ x ∈ t.cau.queue, x.owner ≠ .own (.claim e.key))

/-- CANCEL-ALARM (R127, R170 to R172): a wrong code and a wrong state are refused; the duress code makes an open alarm COVERT,
the cancel code ends it; a held fare runs again; the answer carries the state the host may see. The duress code offers an
ALARM with the duress flag, merged into one that is unsent; the cancel code removes an unsent ALARM and offers an ALARM-END,
deferred behind an ALARM on air. Where it rests on the model's choice, log entry 21 says so. -/
def Obligations.CancelAlarmEndsOrHidesTheAlarm : Prop :=
  ∀ (s : State) (code : BitVec 16) (st : Station), s.ready .run → s.cpt.config = some st → code.toNat ≤ 9999 →
    st.cancelCode ≠ st.duressCode →
    (s.ret.alarm ≠ .alerting → s.ret.alarm ≠ .covert → exec (.cancelAlarm code) s = .next (s.answering s true [2]))
    ∧ (s.ret.alarm = .alerting ∨ s.ret.alarm = .covert → s.ret.covert = decide (s.ret.alarm = AlarmState.covert) →
      let fare := if s.ret.fare = .held ∧ s.ret.trip.isSome then FareState.hired else s.ret.fare
      let trip := if s.ret.fare = .held then s.ret.trip.map fun x => { x with heldS := min cap32 (x.heldS + s.partSecond) }
        else s.ret.trip
      let fre := { s.fre with
        secondAt := if s.ret.fare = .held ∧ s.ret.trip.isSome then some (s.now + 1000 * ms) else s.fre.secondAt }
      let flash := if st.covertSign then (if s.emu.flash.isSome then s.emu.flash else some ⟨true, s.now + 500 * ms⟩)
        else none
      let gone (ret : Retained) (emu : Emu) (result : List Byte) : Prop := ∃ t, exec (.cancelAlarm code) s = .next t
        ∧ AvailFrame (({ s with fre := fre, emu := { emu with flash := flash } }.withRet { ret with
          fare := fare, trip := trip }).answering s true result) t ∧ t.fre.avail = some .alarm
      (code.toNat ≠ st.cancelCode → code.toNat ≠ st.duressCode →
        exec (.cancelAlarm code) s = .next (s.answering s true [8]))
      ∧ (code.toNat = st.duressCode → s.ret.alarm = .covert →
        exec (.cancelAlarm code) s = .next (s.answering s true [0, 0]))
      ∧ (code.toNat = st.duressCode → s.ret.alarm = .alerting →
        gone { s.ret with alarm := .covert, covert := true }
          { s.emu with repeats := min 255 (s.emu.repeats + 1), repeatAt := some (s.now + 10000 * ms) } [0, 0])
      ∧ (code.toNat = st.cancelCode →
        gone { s.ret with alarm := .ending } { s.emu with repeatAt := none, firstSent := false, ending := some .first }
          [0, if s.ret.alarm = .covert then 0 else 3]))
    ∧ (s.fre.avail = some .alarm → s.cau.waits →
      let body : Body := .alarm s.ret.serial (min 255 (s.emu.repeats + 1)) s.ppu.fix true s.framePos
      let ending : Body := .alarmEnd s.ret.serial s.framePos
      (code.toNat = st.duressCode → s.ret.alarm = .alerting →
        (s.cau.count < 8 → (∀ x ∈ s.cau.queue, x.owner.inGroup .class0 = false) →
          (∀ a, s.cau.onAir = some a → a.entry.owner.inGroup .class0 = false) →
          ∃ t, exec (.cancelAlarm code) s = .next t
            ∧ t.cau = { s.cau with queue := s.cau.queue ++ [s.ownEntry .alarm body] })
        ∧ ∀ before e after, s.cau.queue = before ++ e :: after → e.owner = .own .alarm →
          (∀ x ∈ before, x.owner.inGroup .class0 = false) → e ∉ after →
          ∃ t, exec (.cancelAlarm code) s = .next t ∧ t.cau = { s.cau with queue := before
            ++ { e with frame := { (s.ownEntry .alarm body).frame with seq := e.frame.seq } } :: after })
      ∧ (code.toNat = st.cancelCode → s.ret.alarm = .alerting ∨ s.ret.alarm = .covert → s.standingMarks = [] →
        (∀ x ∈ s.cau.queue, x.owner.inGroup .class0 = true → x.owner = .own .alarm) →
        let left := s.cau.queue.filter fun x => !decide (x.owner = Owner.own .alarm)
        (s.cau.count < 8 → (∀ a, s.cau.onAir = some a → a.entry.owner.inGroup .class0 = false) →
          ∃ t, exec (.cancelAlarm code) s = .next t ∧ t.cau.queue = left ++ [s.ownEntry .alarmEnd ending]
            ∧ ∀ o, t.cau.deferred0 = some o → o.ref ≠ .alarm)
        ∧ ∀ a, s.cau.onAir = some a → a.entry.owner.inGroup .class0 = true →
          ∃ t, exec (.cancelAlarm code) s = .next t ∧ t.cau.queue = left ∧ t.cau.onAir = some a
            ∧ t.cau.deferred0 = some ⟨.alarmEnd, ending, none, none⟩))

/-- The hidden switch (R164, R165): a change of the pin starts the 20 ms filter, or stops it at the level in force. When the pin
has held the other level for 20 ms it counts: a press in QUIET arms and starts the 1500 ms hold, a release in ARMING gives
the alarm up, and any other counted level only becomes the level in force. Before that a row at the pin's level does
nothing. Where it rests on the model's choices, log entries 2 and 13 say so. -/
def Obligations.HiddenSwitchArmsAndDisarms : Prop :=
  ∀ (s : State) (c : Instr) (low : Bool),
    (c = .panicLevelChange low ∨ (c = .panicPress ∧ low = true) ∨ (c = .panicRelease ∧ low = false)) →
    let held : Prop := s.powered = true ∧ ∃ time, s.emu.filterAt = some time ∧ time ≤ s.now
    let emu := { s.emu with panicLow := low, filterAt := none }
    (s.pins.panicLow = low → held →
      (low = true → s.emu.panicLow = false → s.ret.alarm = .quiet →
        ∃ t, exec c s = .next t ∧ t.fre.avail = some .alarm
          ∧ AvailFrame ({ s with emu := { emu with holdAt := some (s.now + 1500 * ms), flash := none } }.withRet
              { s.ret with alarm := .arming }) t)
      ∧ (low = false → s.emu.panicLow = true → s.ret.alarm = .arming →
        ∃ t, exec c s = .next t ∧ t.fre.avail = some t.availNow
          ∧ AvailFrame ({ s with emu := { emu with holdAt := none, flash := none } }.withRet
              { s.ret with alarm := .quiet }) t)
      ∧ ((low = true → s.emu.panicLow = true ∨ s.ret.alarm ≠ .quiet) →
        (low = false → s.emu.panicLow = false ∨ s.ret.alarm ≠ .arming) → exec c s = .next { s with emu := emu }))
    ∧ (s.pins.panicLow = low → ¬ held → exec c s = .next s)
    ∧ (s.pins.panicLow ≠ low → c ≠ .panicLevelChange low → exec c s = .next s)
    ∧ (s.pins.panicLow ≠ low → c = .panicLevelChange low → exec c s = .next { s with
      pins := { s.pins with panicLow := low }
      emu := { s.emu with
        filterAt := if s.powered = true ∧ low ≠ s.emu.panicLow then some (s.now + 20 * ms) else none } })

/-- The timers of an own alarm (R163, R168, R172): a repeat is counted and offered and the timer runs 10,000 ms, in ALERTING
30,000 ms from the thirtieth on; after the 2 s gap the second ALARM-END is offered, and its "sent" makes the state QUIET;
the sign changes level every 500 ms. Where it rests on the model's choices, log entries 2 and 32 say so. -/
def Obligations.AlarmTimersRepeatEndAndFlash : Prop :=
  ∀ (s : State) (time : Nat), time ≤ s.now →
    (s.ret.alarm = .alerting ∨ s.ret.alarm = .covert → s.emu.repeatAt = some time →
      let repeats := min 255 (s.emu.repeats + 1)
      ∃ t, exec .alarmRepeat s = .next t
        ∧ QueueFrame { s with emu := { s.emu with
          repeats := repeats
          repeatAt := some (s.now + if s.ret.alarm = .alerting ∧ 30 ≤ repeats then 30000 * ms else 10000 * ms) } } t
        ∧ (s.room → (∀ x ∈ s.cau.queue, x.owner.inGroup .class0 = false) →
          (∀ a, s.cau.onAir = some a → a.entry.owner.inGroup .class0 = false) →
          t.cau = { s.cau with queue := s.cau.queue ++ [s.ownEntry .alarm
            (.alarm s.ret.serial repeats s.ppu.fix (decide (s.ret.alarm = AlarmState.covert)) s.framePos)] }))
    ∧ (s.emu.ending = some .gap → s.emu.gapAt = some time →
      ∃ t, exec .alarmEndGap s = .next t
        ∧ QueueFrame { s with emu := { s.emu with ending := some .second, gapAt := none } } t
        ∧ (s.room → (∀ x ∈ s.cau.queue, x.owner.inGroup .class0 = false) →
          (∀ a, s.cau.onAir = some a → a.entry.owner.inGroup .class0 = false) →
          t.cau = { s.cau with queue := s.cau.queue ++ [s.ownEntry .alarmEnd
            (.alarmEnd s.ret.serial s.framePos)] }))
    ∧ (∀ a, s.cau.onAir = some a → a.stop ≤ s.now → a.entry.owner = .own .alarmEnd → s.emu.ending = some .second →
      ∃ t, exec .transmissionEnd s = .next t ∧ t.fre.avail = some t.availNow
        ∧ AvailFrame ({ s with emu := { s.emu with ending := none, flash := none } }.withRet
          { s.ret with alarm := .quiet, covert := false }) t)
    ∧ ∀ f, s.emu.flash = some f → f.toggleAt = time →
      exec .signFlashToggle s = .next { s with emu := { s.emu with flash := some ⟨!f.lit, time + 500 * ms⟩ } }

/-- Delivered ALARM and ALARM-END frames (R174 to R177): a new origin takes the lowest free slot, or in a full table the slot of
the ENDED entry that ended first, else of the SILENT, else of the ACTIVE entry heard longest ago (R176); another serial
restarts the entry, a repeat refreshes it, an ended one is not reopened; an ALARM-END of the serial ends it, and gives it
the hop of this last frame. Where it rests on the model's choices, log entries 3 and 31 say so. -/
def Obligations.AlarmTableFollowsTheFrames : Prop :=
  ∀ (s : State) (f : Frame) (t serial : Nat) (pos : Point),
    let hop := if f.sender = f.origin then 0 else 1
    let put (s : State) (slot : Nat) (a : AlarmEntry) : State :=
      { s with emu := { s.emu with table := s.emu.table.set slot (some a) } }
    (∀ count fix duress, f.body = .alarm serial count fix duress pos →
      let fresh : AlarmEntry := {
        origin := f.origin, serial := serial, firstHeard := t, lastHeard := t, endedTime := none
        position := some ⟨pos, fix⟩, duress := duress, hop := hop, repeats := 1, lastCount := count, state := .active }
      let in_ (st : HeardState) (a : AlarmEntry) : Prop := a.state = st
      (∀ slot, s.alarmOf f.origin = none →
        lowestFree s.emu.table = some slot ∨ (lowestFree s.emu.table = none
          ∧ (firstSlot s.emu.table (in_ .ended) (·.endedTime.getD 0) slot
            ∨ (noSlot s.emu.table (in_ .ended) ∧ (firstSlot s.emu.table (in_ .silent) (·.lastHeard) slot
              ∨ (noSlot s.emu.table (in_ .silent) ∧ firstSlot s.emu.table (in_ .active) (·.lastHeard) slot))))) →
        s.deliver f t = (put { s with draws := s.draws + 1 } slot fresh).raiseEvent .alarmHeard f.origin 0)
      ∧ ∀ slot a, s.alarmOf f.origin = some (slot, a) →
        (a.serial ≠ serial → s.deliver f t = (put s slot fresh).raiseEvent .alarmHeard f.origin 0)
        ∧ (a.serial = serial → a.state = .ended → s.deliver f t = s)
        ∧ (a.serial = serial → a.state ≠ .ended →
          let u := put s slot { a with
            lastHeard := t, position := some ⟨pos, fix⟩, duress := a.duress || duress, hop := hop
            repeats := min 255 (a.repeats + 1), lastCount := count, state := .active }
          s.deliver f t = if duress = true ∧ a.duress = false then u.raiseEvent .alarmHeard f.origin 0 else u))
    ∧ (f.body = .alarmEnd serial pos →
      (s.alarmOf f.origin = none → s.deliver f t = s)
      ∧ ∀ slot a, s.alarmOf f.origin = some (slot, a) →
        (a.serial ≠ serial ∨ a.state = .ended → s.deliver f t = s)
        ∧ (a.serial = serial → a.state ≠ .ended →
          s.deliver f t = (put s slot { a with
            state := .ended, endedTime := some t, lastHeard := t, hop := hop
            position := some ⟨pos, (a.position.map (·.valid)).getD false⟩ }).raiseEvent .alarmEnded f.origin 0))

/-! ## The command port, configuration and resets (chapters 8 and 11) -/

/-- Raising an event (R189): it merges with the entry of its kind and subject; otherwise it is placed as the newest below
sixteen entries; at sixteen an ALARM-HEARD or ALARM-ENDED removes the oldest entry of another kind, and any other is lost.
The law of the queue is kept. -/
def Obligations.RaisedEventsMergeOrDisplace : Prop :=
  ∀ (s : State) (k : EventKind) (subject detail : Nat),
    let t := s.raiseEvent k subject detail
    let l := s.cpt.events
    let same (e : Event) : Prop := e.kind = k ∧ e.subject = subject
    let urgent (k : EventKind) : Prop := k = .alarmHeard ∨ k = .alarmEnded
    let holds (events : List Event) (overflow : Bool) : Prop :=
      t = { s with cpt := { s.cpt with events := events, overflow := overflow } }
    (∀ a b e, l = a ++ e :: b → same e → (∀ x ∈ a ++ b, ¬ same x) →
      holds (a ++ { e with count := min 255 (e.count + 1), detail := detail } :: b) s.cpt.overflow)
    ∧ ((∀ e ∈ l, ¬ same e) →
      (l.length < 16 → holds (l ++ [⟨k, subject, detail, 1⟩]) s.cpt.overflow)
      ∧ (∀ a b e, 16 ≤ l.length → urgent k → l = a ++ e :: b → ¬ urgent e.kind → (∀ x ∈ a, urgent x.kind) →
        holds (a ++ b ++ [⟨k, subject, detail, 1⟩]) true)
      ∧ (16 ≤ l.length → ¬ urgent k ∨ (∀ e ∈ l, urgent e.kind) → holds l true))
    ∧ (s.cpt.eventLaw → t.cpt.eventLaw)

/-- SENSE-EVENT (R190): the oldest entry is removed and answered, or NONE, with the overflow flag as it stood and the entries
left, and the flag is cleared. An event taken first shows in the answer when it merges with the oldest entry; an event taken
after the removal of its entry is placed anew. -/
def Obligations.SenseEventRemovesTheOldest : Prop :=
  ∀ s : State, s.powered = true → s.cpt.phase = .ready →
    let flag := byte s.cpt.overflow.toNat
    let sensed (rest : List Event) : State := { s with cpt := { s.cpt with events := rest, overflow := false } }
    (s.cpt.events = [] → exec .senseEvent s = .next ((sensed []).answering s false [0, 0, 0, 0, 0, 0, flag, 0]))
    ∧ ∀ e rest, s.cpt.events = e :: rest →
      let answer (e : Event) : List Byte :=
        [0, byte e.kind.code] ++ put16 e.subject ++ put8 e.count ++ put8 e.detail ++ [flag] ++ put8 rest.length
      exec .senseEvent s = .next ((sensed rest).answering s false (answer e))
      ∧ (∀ detail, (∀ x ∈ rest, ¬ e.clash x) →
        let raised := s.raiseEvent e.kind e.subject detail
        exec .senseEvent raised = .next ((sensed rest).answering raised false
          (answer { e with count := min 255 (e.count + 1), detail := detail })))
      ∧ ∀ detail, (∀ x ∈ rest, ¬ e.clash x) → rest.length < 16 → ∃ t, exec .senseEvent s = .next t
        ∧ (t.raiseEvent e.kind e.subject detail).cpt.events = rest ++ [⟨e.kind, e.subject, detail, 1⟩]

/-- A host command sent byte by byte (R179 to R185): in every phase of the port, and in a part without its supply, a command row
does what its code byte and its parameter bytes do one after the other in one transaction, with the pins as the row finds
them, and leaves CSN high and SDO high impedance. Where it rests on the model's choices, log entries 9 and 13 say so. -/
def Obligations.CommandRowsAreTheirBytes : Prop :=
  ∀ (i : Instr) (s : State) (g : CmdGroup) (code : Byte) (params : List Byte),
    i.command = some (g, code, params) → i.wellFormed = true →
    exec i s = .next ((i.sampled s).transaction (code :: params))
      ∧ ((i.sampled s).transaction (code :: params)).sdoPin = none

/-- The phases of the port (R179 to R184, R188): the null byte and an unknown code in READY, a parameter byte and the
abandonment timer in PARAM, the bytes of RESULT, a byte in EXEC, partial bytes, which set PHASE-ERROR, and the bytes, whole
or partial, of a transaction in progress at a reset, which set none, the whole ones answered 0x00. After each of them CSN
may rise; while it is high SDO is high impedance and clocks are ignored. Where it rests on the model's choices, log entries
2, 10, 11, 12 and 28 say so. -/
def Obligations.PortPhasesTakeTheirBytes : Prop :=
  ∀ (s : State) (first last : Bool) (b : Byte), s.powered = true →
    let error (u : State) : State := { u with cpt := { u.cpt with phaseError := true } }
    let taken (u : State) : State := if b = 0 then u else error u
    let rise (u : State) : State := { u with pins := { u.pins with csnLow := false }, cpt := { u.cpt with muted := .off } }
    let after (u : State) : State := if last = true then rise u else u
    let put (c : Cpt) : State := { s with pins := { s.pins with csnLow := true }, cpt := c }
    let sends (i : Instr) (sdo : Option Byte) : Prop := ∃ t, exec i s = .next t ∧ t.sdoPin = sdo
    (s.cpt.phase = .ready →
      (exec (.resultByte true 0 last) s = .next (after (put { s.cpt with muted := .off, sdo := s.statusByte })))
      ∧ sends (.resultByte true 0) (some s.statusByte)
      ∧ (b ≠ 0 → shapeOf b = none → exec (.invalid b last) s = .next (after (put { s.cpt with
        phase := .result, result := [1], muted := .off, sdo := s.statusByte }))))
    ∧ (s.cpt.phase = .param → first = true ∨ (s.cpt.muted = .off ∧ s.pins.csnLow = true) →
      (∀ n, shapeOf s.cpt.code = some (.fixed n) → s.cpt.params.length + 1 < n →
        exec (.resultByte first b last) s = .next (after (put { s.cpt with
          params := s.cpt.params ++ [b], abandonAt := some (s.now + 100 * ms), muted := .off, sdo := s.statusByte }))
        ∧ sends (.resultByte first b) (some s.statusByte))
      ∧ ∀ time, s.cpt.abandonAt = some time →
        (time ≤ s.now → exec .abandonmentTimer s = .next { s with cpt := { s.cpt with
          phase := .ready, code := 0, params := [], abandonAt := none, phaseError := true } })
        ∧ (s.now < time → exec .abandonmentTimer s = .next s))
    ∧ (∀ r rest, s.cpt.phase = .result → s.cpt.result = r :: rest →
      exec (.resultByte true b last) s = .next (after (taken (put { s.cpt with muted := .off, sdo := s.statusByte })))
      ∧ sends (.resultByte true b) (some s.statusByte)
      ∧ (s.cpt.muted = .off → s.pins.csnLow = true →
        exec (.resultByte false b last) s = .next (after (taken (put { s.cpt with
          sdo := r, result := rest, phase := if rest = [] then .ready else .result })))
        ∧ sends (.resultByte false b) (some r)))
    ∧ exec (.execByteDiscard last) s = .next (after (error (put { s.cpt with sdo := byte (flagBits [
      s.inRun, s.cau.blocked, s.cpt.phaseError, !s.cpt.events.isEmpty, false, true, false, false]) })))
    ∧ (∀ older, older = false ∨ s.cpt.muted = .off → exec (.partialByte older) s = .next (error (rise s)))
    ∧ (s.cpt.muted ≠ .off → exec (.partialByte true) s = .next (rise s))
    ∧ (s.cpt.muted ≠ .off → exec (.resultByte false b last) s = .next (after (put { s.cpt with muted := .on, sdo := 0 }))
      ∧ sends (.resultByte false b) (some 0))
    ∧ (s.cpt.muted = .off → s.pins.csnLow = false → exec (.resultByte false b last) s = .next s)
    ∧ (∀ i ∈ [Instr.resultByte first b true, .invalid b true, .execByteDiscard true, .partialByte first], sends i none)

/-- Every command is answered (R183 to R185): with the port in READY it fills the result buffer, the completion code first; in
the part state that does not accept it the answer is STATE whatever its parameters; any code other than OK stands alone and
the command has changed nothing. Parameters out of range are answered RANGE and slots without a record NOT-FOUND, in RUN
with the port in READY (R51, R65, R80 to R84, R108, R117, R122, R125, R131, R150 to R156, R160, R170, R178), a POST-NOTE on
each ground of step 1 of R156; a STOP without a running fare, and a RESUME or a SETTLE without a stopped one, are answered
STATE (R123 to R125). Where it rests on the model's choices, log entries 9, 18 and 21 say so. -/
def Obligations.RefusedCommandsChangeNothing : Prop :=
  (∀ (i : Instr) (s : State) (g : CmdGroup) (code : Byte) (params : List Byte), s.powered = true →
     s.cpt.phase = .ready → i.command = some (g, code, params) → (∀ low, i ≠ .restart low) →
     (∃ (u : State) (c : Byte) (rest : List Byte),
       exec i s = .next (u.answering s (!params.isEmpty) (c :: rest)) ∧ c.toNat ≤ 9
         ∧ (c ≠ 0 → rest = [] ∧ u = i.sampled s))
     ∧ ((s.cpt.part = .run ∧ g = .config) ∨ (s.cpt.part = .config ∧ g = .operating) →
       exec i s = .next ((i.sampled s).answering s (!params.isEmpty) [2])))
  ∧ (∀ (s : State) (b c : Byte) (w v : BitVec 16) (m : BitVec 24) (l : List Byte), s.ready .run →
       let refused (i : Instr) (code : Byte) : Prop := exec i s = .next (s.answering s true [code])
       (2 ≤ b.toNat → refused (.setPosition w v b) 3 ∧ refused (.releaseJob b) 3)
       ∧ (3 ≤ b.toNat → refused (.setDriverStatus b) 3 ∧ refused (.settle b) 3)
       ∧ (b.toNat = 0 ∨ 9 ≤ b.toNat → refused (.hire b) 3)
       ∧ (w.toNat = 0 ∨ 10000 ≤ w.toNat → refused (.addExtra w) 3)
       ∧ (10000 ≤ w.toNat → refused (.cancelAlarm w) 3)
       ∧ (32 ≤ b.toNat → refused (.readPeer b) 3)
       ∧ (16 ≤ b.toNat → refused (.acceptOffer b) 3 ∧ refused (.passOffer b) 3 ∧ refused (.readTrip b) 3
         ∧ (b.toNat ≤ 254 → refused (.readOffer b) 3))
       ∧ (16 ≤ b.toNat ∨ 2 ^ 17 ≤ m.toNat ∨ 1024 ≤ w.toNat → refused (.scanOffers b m w c) 3)
       ∧ (12 ≤ b.toNat → refused (.markRead b) 3 ∧ refused (.deleteNote b) 3)
       ∧ (12 ≤ b.toNat ∨ 20 ≤ c.toNat → refused (.readNote b c) 3)
       ∧ (∀ d : Byte, 12 ≤ b.toNat ∨ 8 ≤ c.toNat ∨ 2 ≤ d.toNat ∨ 4095 ≤ w.toNat → refused (.scanNotes b c d w) 3)
       ∧ (4 ≤ b.toNat → b.toNat ≤ 254 → refused (.readOutbox b) 3 ∧ refused (.readAlarm b) 3)
       ∧ (let n (i : Nat) : Nat := (l.getD i 0).toNat
         let word (i : Nat) : Nat := n i * 256 + n (i + 1)
         l.length ≠ 8 + 2 * ((n 7 + 1) / 2) ∨ n 7 = 0 ∨ 40 < n 7
           ∨ word 0 = 0 ∨ 4095 < word 0 ∨ word 0 = s.ownId ∨ 8 ≤ n 2
           ∨ ((l.getD 2 0).getLsbD 2 = true ∧ (word 3 = 0 ∨ 31 < word 3))
           ∨ (∃ x ∈ (l.drop 8).take (n 7), x.toNat < 0x20 ∨ 0x7E < x.toNat) →
         refused (.postNote l) 3)
       ∧ (b.toNat < 32 → slotGet s.ppu.peers b.toNat = none → refused (.readPeer b) 6)
       ∧ (b.toNat < 16 → slotGet s.ofb.slots b.toNat = none →
         refused (.readOffer b) 6 ∧ refused (.acceptOffer b) 6 ∧ refused (.passOffer b) 6)
       ∧ (b.toNat < 16 → s.ret.tripLog.length ≤ b.toNat → refused (.readTrip b) 6)
       ∧ (b.toNat < 12 → slotGet s.nts.inbox b.toNat = none → refused (.markRead b) 6 ∧ refused (.deleteNote b) 6
         ∧ (c.toNat < 20 → refused (.readNote b c) 6))
       ∧ (b.toNat < 4 → slotGet s.nts.outbox b.toNat = none → refused (.readOutbox b) 6)
       ∧ (b.toNat < 4 → slotGet s.emu.table b.toNat = none → refused (.readAlarm b) 6)
       ∧ (s.ret.fare ≠ .hired → s.ret.fare ≠ .held → exec .stop s = .next (s.answering s false [2]))
       ∧ (s.ret.fare ≠ .total → exec .resume s = .next (s.answering s false [2]) ∧ (b.toNat ≤ 2 → refused (.settle b) 2)))

/-- The resets and the supplies (R11, R129, R141 to R143, R173, R188): by the pin, by RESTART and at a power-on with a good
store every block takes the state of its chapter, a running trip stops INTERRUPTED, ON-CALL turns VACANT and ARMING turns
QUIET. A bad store is cleared at a power-on. The loss of the main supply keeps the store only while VBK is present. PANIC is
in force at the level of its pin, and a transaction in progress is muted until CSN rises. Where it rests on the model's
choices, log entries 5, 7, 12, 13, 20 and 24 say so. -/
def Obligations.ResetsAndSuppliesTakeTheirState : Prop :=
  ∀ (s : State) (panicLow vbk : Bool),
    let pins := { s.pins with panicLow := panicLow }
    let running : Bool := decide (s.ret.fare = FareState.hired ∨ s.ret.fare = FareState.held)
    let interrupted (x : Trip) : Trip := { x with
      bucket := 0
      flags := { x.flags with interrupted := true }
      stopTime := some (x.stopTime.getD (min cap32 (x.hireTime + x.hiredS + x.heldS))) }
    let recovered : Retained := { s.ret with
      fare := if running then .total else if s.ret.fare = .onCall then .vacant else s.ret.fare
      trip := if running then s.ret.trip.map interrupted else s.ret.trip
      alarm := if s.ret.alarm = .arming then .quiet else s.ret.alarm }
    let fresh (r : Retained) : State :=
      let a := availability r.alarm r.fare true r.shiftOpen .off
      { s with
        powered := true
        ret := r
        check := storeCheck r
        pins := pins
        cau := .reset
        rru := .reset
        ppu := { Ppu.reset with avail := some a }
        ofb := { Ofb.reset with avail := some a }
        fre := { Fre.reset with avail := some a }
        ttl := ⟨none, if r.shiftOpen then some (s.now + 1000 * ms) else none⟩
        nts := .reset
        emu := .reset panicLow
        cpt := .reset s.pins.csnLow }
    (s.powered = true → exec (.resetPin panicLow) s = .next (fresh recovered)
      ∧ (s.cpt.phase = .ready → exec (.restart panicLow) s = .next { fresh recovered with
        pins := { pins with csnLow := false }, cpt := { Cpt.reset false with muted := .off } }))
    ∧ (s.powered = false → exec (.resetPin panicLow) s = .next { s with
      pins := pins
      emu := if panicLow = s.pins.panicLow then s.emu else { s.emu with filterAt := none } })
    ∧ (s.storeLost = false → s.check = storeCheck s.ret → exec (.powerOn panicLow) s = .next (fresh recovered))
    ∧ (s.storeLost = true ∨ s.check ≠ storeCheck s.ret →
      exec (.powerOn panicLow) s = .next { fresh .cleared with storeLost := false })
    ∧ ∃ t, exec (.mainSupplyLoss vbk) s = .next t ∧ t.powered = false ∧ t.ret = s.ret ∧ t.check = s.check
      ∧ t.now = s.now ∧ t.pins = s.pins ∧ t.pending = s.pending
      ∧ t.storeLost = (s.storeLost || !vbk) ∧ t.cau = .reset ∧ t.rru = .reset ∧ t.ppu = .reset ∧ t.ofb = .reset
      ∧ t.fre = .reset ∧ t.ttl = .reset ∧ t.nts = .reset ∧ t.emu = .reset s.pins.panicLow ∧ t.cpt = .reset s.pins.csnLow

/-- CONFIGURE (R163, R186): every field in its range, the codes different, the defaults filled in; the held values are replaced
whole and the flash request follows the covert sign enable at once. Otherwise RANGE. LOAD-ZONE (R54, R55): bounds in order,
an index up to 3 and up to eight neighbour bytes, zones 0..7 in the first; the zone is replaced whole. -/
def Obligations.ConfigureAndLoadZoneReplaceWhole : Prop :=
  (∀ (s : State) (id : BitVec 16) (fleet home vclass bid dflt : Byte) (dist : BitVec 16) (pen idle beacon : Byte)
     (cancel duress : BitVec 16) (sign : Byte), s.ready .config →
     let st : Station := {
       id := id.toNat, fleet := fleet.toNat, home := home.toNat, vclass := vclass.toNat
       bidMode := if bid.toNat = 1 then .confirm else .auto
       maxDist := if dflt.getLsbD 0 then 500 else dist.toNat
       penalty := if dflt.getLsbD 1 then 20 else pen.toNat
       idleCap := if dflt.getLsbD 2 then 40 else idle.toNat
       beacon := if dflt.getLsbD 3 then 30 else beacon.toNat
       cancelCode := cancel.toNat, duressCode := duress.toNat, covertSign := decide (sign.toNat = 1) }
     let ok : Prop := (32 ≤ st.id ∧ st.id ≤ 4094) ∧ (1 ≤ st.fleet ∧ st.fleet ≤ 254) ∧ st.home ≤ 31 ∧ st.vclass ≤ 3
       ∧ bid.toNat ≤ 1 ∧ dflt.toNat ≤ 15 ∧ (10 ≤ st.beacon ∧ st.beacon ≤ 120) ∧ st.cancelCode ≤ 9999
       ∧ st.duressCode ≤ 9999 ∧ st.cancelCode ≠ st.duressCode ∧ sign.toNat ≤ 1
     let flash := if st.covertSign ∧ (s.ret.alarm = .alerting ∨ s.ret.alarm = .covert ∨ s.ret.alarm = .ending)
       then (if s.emu.flash.isSome then s.emu.flash else some ⟨true, s.now + 500 * ms⟩) else none
     let c := Instr.configure id fleet home vclass bid dflt dist pen idle beacon cancel duress sign
     (ok → exec c s = .next ({ s with
       cpt := { s.cpt with config := some st }
       emu := { s.emu with flash := flash } }.answering s true [0]))
     ∧ (¬ ok → exec c s = .next (s.answering s true [3])))
  ∧ (∀ (s : State) (z sur : Byte) (emin emax nmin nmax : BitVec 16) (nb : List Byte), s.ready .config → nb.length ≤ 245 →
       let bytes := [z] ++ wordBytes emin ++ wordBytes emax ++ wordBytes nmin ++ wordBytes nmax ++ [sur] ++ nb
       let ok : Prop := z.toNat ≤ 63 ∧ emin.toNat ≤ emax.toNat ∧ nmin.toNat ≤ nmax.toNat ∧ sur.toNat ≤ 3 ∧ nb.length ≤ 8
       (ok → ∃ set : BitVec 64, (∀ i < 64, set.getLsbD i = (nb.getD (i / 8) 0).getLsbD (i % 8))
         ∧ exec (.loadZone bytes) s = .next ({ s with ppu := { s.ppu with zones := s.ppu.zones.set z.toNat (some {
           eastMin := emin.toNat, eastMax := emax.toNat, northMin := nmin.toNat, northMax := nmax.toNat
           surcharge := sur.toNat, neighbours := set }) } }.answering s true [0]))
       ∧ (¬ ok → exec (.loadZone bytes) s = .next (s.answering s true [3]))
       ∧ ∀ l : List Byte, l.length < 10 → exec (.loadZone l) s = .next (s.answering s true [3]))

/-- The meter figures (R112 to R114): PROTECTED while TPROT is closed, before the values are judged; RANGE outside the tables,
the Dp of every defined tariff counted; otherwise written, SET-PULSE-CONSTANT clearing both remainders. Where it rests on
the model's choices, log entries 13 and 21 say so. -/
def Obligations.MeterFiguresAreProtected : Prop :=
  ∀ (s : State) (slot n0 : Byte) (fall amount dist time w : BitVec 16), s.ready .config →
    let pins (o : Bool) : State := { s with pins := { s.pins with tprotOpen := o } }
    let tariff : Tariff := ⟨fall.toNat, amount.toNat, dist.toNat, time.toNat, n0.toNat⟩
    let fits (d k : Nat) : Prop := (d * k + 500) / 1000 ≤ 65535
    let load := Instr.loadTariff slot fall amount dist time n0
    let okTariff : Prop := (1 ≤ slot.toNat ∧ slot.toNat ≤ 8) ∧ (1 ≤ amount.toNat ∧ amount.toNat ≤ 9999)
      ∧ (10 ≤ dist.toNat ∧ dist.toNat ≤ 9999) ∧ (1 ≤ time.toNat ∧ time.toNat ≤ 999) ∧ n0.toNat ≤ 99
      ∧ ∀ k ∈ s.ret.k, fits dist.toNat k
    let okPulse : Prop := (500 ≤ w.toNat ∧ w.toNat ≤ 65000)
      ∧ ∀ t ∈ slotEntries s.ret.tariffs, fits t.incDist w.toNat
    let written (r : Retained) : State := ((pins true).withRet r).answering s true [0]
    (exec (load false) s = .next ((pins false).answering s true [5])
      ∧ exec (.loadSurcharge slot w false) s = .next ((pins false).answering s true [5])
      ∧ exec (.setPulseConstant w false) s = .next ((pins false).answering s true [5]))
    ∧ (¬ okTariff → exec (load true) s = .next ((pins true).answering s true [3]))
    ∧ (okTariff → exec (load true) s = .next (written { s.ret with
      tariffs := s.ret.tariffs.set (slot.toNat - 1) (some tariff) }))
    ∧ (slot.toNat = 0 ∨ 4 ≤ slot.toNat → exec (.loadSurcharge slot w true) s = .next ((pins true).answering s true [3]))
    ∧ (1 ≤ slot.toNat → slot.toNat ≤ 3 → exec (.loadSurcharge slot w true) s = .next (written { s.ret with
      surcharges := s.ret.surcharges.set (slot.toNat - 1) w.toNat }))
    ∧ (¬ okPulse → exec (.setPulseConstant w true) s = .next ((pins true).answering s true [3]))
    ∧ (okPulse → exec (.setPulseConstant w true) s = .next (written { s.ret with
      k := some w.toNat, totalRem := 0, trip := s.ret.trip.map fun x => { x with rem := 0 } }))

/-- GO (R22, R28, R31, R66, R142, R173, R187): STATE while not configured; otherwise RUN from this instant, the channel
measured, the first beacon within the interval, START raised with the retained-lost flag, which is cleared, and a retained
alarm resumed. Where it rests on the model's choice, log entry 3 says so. -/
def Obligations.GoStartsEveryBlock : Prop :=
  ∀ s : State, s.ready .config →
    (s.cpt.config = none → exec .go s = .next (s.answering s false [2]))
    ∧ ∀ st, s.cpt.config = some st → ∃ wait ≤ st.beacon * 1000,
      let u := { s with
        draws := s.draws + 1
        cau := { s.cau with
          idleRef := if s.pins.cd then none else some s.now
          blockedAt := if s.pins.cd then some (s.now + 2000 * ms) else none }
        rru := { s.rru with rx := if s.pins.cd && s.cau.onAir.isNone then .hunting [] else .idle }
        ppu := { s.ppu with intervalAt := some (s.now + wait * ms) }
        cpt := { s.cpt with part := .run, goTime := s.now } }.raiseEvent .start 0 s.ret.retainedLost.toNat
      let u := if s.ret.retainedLost then u.withRet { s.ret with retainedLost := false } else u
      (s.ret.alarm = .quiet ∨ s.ret.alarm = .arming → exec .go s = .next (u.answering s false [0]))
      ∧ (s.ret.alarm = .alerting ∨ s.ret.alarm = .covert →
        let v := { u with emu := { s.emu with repeats := 0, firstSent := true } }.offer .alarm
        exec .go s = .next ({ v with emu := { v.emu with repeatAt := some (s.now + 10000 * ms) } }.answering s false [0]))
      ∧ (s.ret.alarm = .ending → exec .go s = .next
        (({ u with emu := { s.emu with ending := some .first } }.offer .alarmEnd).answering s false [0]))

/-- The reading commands (R47, R65, R80, R81, R128, R131, R144, R153, R154, R160, R178, R191, R192): each answers OK with the
bytes of its row, field by field in the order of its rule, high byte first, absent fields zero, times as seconds since GO,
in the length the table gives, and changes nothing; under the covert flag the own alarm reads as that of QUIET. Where it
rests on the model's choices, log entries 9, 13, 16, 17, 29 and 32 say so. -/
def Obligations.ReadsReportAndChangeNothing : Prop :=
  ∀ s : State, s.powered = true → s.cpt.phase = .ready →
    let reads (i : Instr) (collecting : Bool) (bytes : List Byte) (length : Nat) : Prop :=
      exec i s = .next (s.answering s collecting (0 :: bytes)) ∧ (0 :: bytes).length = length
    let bits (l : List Bool) : List Byte := [byte (flagBits l)]
    let opt8 (n : Option Nat) : List Byte := put8 (n.getD 0)
    let opt16 (n : Option Nat) : List Byte := put16 (n.getD 0)
    let since (t : Nat) : List Byte := put32 ((t - s.cpt.goTime) / (1000 * ms))
    let sinceOpt (t : Option Nat) : List Byte := put32 ((t.map fun t => (t - s.cpt.goTime) / (1000 * ms)).getD 0)
    let key (k : Option JobKey) : List Byte := opt16 (k.map (·.base)) ++ opt16 (k.map (·.job))
    let fixed (f : Option Fix) : List Byte := opt16 (f.map (·.pos.east)) ++ opt16 (f.map (·.pos.north))
      ++ opt8 (f.map (·.valid.toNat))
    let away (f : Option Fix) : Option Nat := match s.ppu.position, f with
      | some own, some f => some (distance own f.pos)
      | _, _ => none
    let own : List Byte := put8 s.ppu.fix.toNat
    let text (t : List Byte) : List Byte := if t.length % 2 = 1 then t ++ [0] else t
    let flags (f : TripFlags) : List Byte := bits [f.fareLimit, f.overspeed, f.interrupted, f.lateCancel]
    (∀ tp : Bool, exec (.readStatus tp) s = .next ({ s with pins := { s.pins with tprotOpen := tp } }.answering s false
      ([0, byte s.cpt.part.code, byte (flagBits [s.cpt.config.isSome, s.cpt.overflow, tp, s.cau.blocked,
        s.ret.retainedLost])] ++ put8 s.cpt.events.length ++ put16 s.ownId ++ put8 s.ownFleet)))
    ∧ reads .readChannelStats false (let x := s.rru.stats
      [x.good, x.checkFailures, x.truncated, x.malformed, x.copies, x.relaysSent, x.relaysCancelled, x.relaysDropped,
        x.ownRefused, x.idClashes].flatMap put16) 21
    ∧ (s.cpt.part = .run →
      (∀ (b : Byte) p, b.toNat ≤ 31 → slotGet s.ppu.peers b.toNat = some p →
        let status := p.report.bind (·.status)
        let vclass := p.report.bind (·.vclass)
        reads (.readPeer b) true (bits [p.position.isSome, p.report.isSome, status.isSome, vclass.isSome,
            (away p.position).isSome]
          ++ put16 p.id ++ put8 (if 1 ≤ p.id ∧ p.id ≤ 31 then 0 else 1) ++ put8 p.hop ++ since p.lastHeard
          ++ put16 p.frames ++ fixed p.position ++ opt8 (status.map (·.code)) ++ opt8 (p.report.map (·.zone))
          ++ opt8 vclass ++ opt16 (away p.position) ++ own) 23)
      ∧ (let offer (slot : Nat) (e : BoardEntry) : List Byte :=
          put8 slot ++ put16 e.key.base ++ put16 e.key.job ++ put8 e.state.code ++ opt8 (e.reason.map (·.code))
            ++ since e.received ++ since e.close ++ put16 ((e.close - s.now) / ms) ++ put16 e.pickup.east
            ++ put16 e.pickup.north ++ put8 e.zone ++ put8 e.mask.toNat
            ++ bits [e.account, e.viaRelay, e.claimMark.isSome, e.takeMark.isSome, e.dropMark.isSome, e.repeatUsed]
            ++ bits [e.reason.isSome, e.score.isSome, e.rank.isSome, e.acceptTime.isSome, e.takenBy.isSome]
            ++ opt16 e.score ++ opt8 e.rank ++ sinceOpt e.acceptTime ++ opt16 (e.takenBy.map (·.id))
            ++ opt16 (e.takenBy.map (·.score)) ++ put8 e.claims.length
            ++ e.claims.flatMap (fun c => put16 c.id ++ put16 c.score) ++ put8 e.note.length ++ text e.note
        (∀ (b : Byte) e, b.toNat ≤ 15 → slotGet s.ofb.slots b.toNat = some e →
          reads (.readOffer b) true (offer b.toNat e) (39 + 4 * e.claims.length + 2 * ((e.note.length + 1) / 2)))
        ∧ ∀ (b : Byte) (m : BitVec 24) (w : BitVec 16) (z : Byte), b.toNat ≤ 15 → m.toNat < 2 ^ 17 → w.toNat ≤ 1023 →
          let order := (List.range 16).map fun i => (b.toNat + i) % 16
          let wanted (e : BoardEntry) : Prop := m.getLsbD e.state.code = true
            ∧ (w.toNat = 1023 ∨ ∃ n, e.score = some n ∧ n ≤ w.toNat) ∧ (z.toNat = 255 ∨ z.toNat = e.zone)
          s.ofb.slots.length = 16 →
          ((∀ i ∈ order, ∀ e, slotGet s.ofb.slots i = some e → ¬ wanted e) →
            exec (.scanOffers b m w z) s = .next (s.answering s true [6]))
          ∧ ∀ pre i post e, order = pre ++ i :: post → slotGet s.ofb.slots i = some e → wanted e →
            (∀ j ∈ pre, ∀ e, slotGet s.ofb.slots j = some e → ¬ wanted e) →
            exec (.scanOffers b m w z) s = .next (s.answering s true (0 :: offer i e)))
      ∧ (let es := slotEntries s.ofb.slots
        reads (.readOffer 255) true (put8 (es.filter fun e => e.state.live).length
          ++ put8 (es.filter fun e => !e.state.live).length ++ put8 (s.ofb.slots.filter fun x => x.isNone).length
          ++ put16 s.ofb.boardFull) 6)
      ∧ (let x := s.ret.trip
        let figures (t : Trip) : List Byte :=
          let meter := t.flagFall + t.incAmount * (t.units - t.n0)
          put8 t.tariff ++ put16 t.dp ++ put32 t.theta ++ put32 t.acc ++ put16 t.units ++ put32 meter
            ++ put32 t.surchSum ++ [Config.appliedCode t.applied] ++ put8 t.extras.length
            ++ (t.extras ++ List.replicate (8 - t.extras.length) 0).flatMap put16 ++ put32 t.extras.sum
            ++ put32 (min 999999 (meter + t.surchSum + t.extras.sum)) ++ put32 t.dist ++ put32 t.hiredS
            ++ put32 t.heldS ++ put32 t.hireTime ++ put32 (t.stopTime.getD 0) ++ flags t.flags ++ key t.jobKey
        (∀ t ∈ x, t.extras.length ≤ 8) →
        reads .readFare false (put8 s.ret.fare.code ++ put8 s.fre.driver.code ++ put8 (s.fre.avail.getD .noFix).code
          ++ put16 s.idleSeconds ++ put32 s.ret.totalDist ++ opt16 s.ret.k
          ++ bits [s.ret.k.isSome, x.isSome, (x.bind (·.stopTime)).isSome, (x.bind (·.jobKey)).isSome]
          ++ match x with
            | some t => figures t
            | none => List.replicate 72 0) 85)
      ∧ reads .readTotals false ([Config.shiftStateCode s.ret.shiftOpen] ++ put32 s.ret.shiftTime
        ++ put16 s.ret.tripCounter ++ (let x := s.ret.shift
          [x.trips, x.fare, x.extras, x.surcharges, x.cash, x.card, x.account, x.hiredDist, x.totalDist,
            x.hiredS].flatMap put32)
        ++ [s.ret.life.trips, s.ret.life.fare, s.ret.life.hiredDist, s.ret.life.totalDist].flatMap put32) 64
      ∧ (∀ (b : Byte) r, b.toNat ≤ 15 → s.ret.tripLog[b.toNat]? = some r →
        reads (.readTrip b) true (put16 r.number ++ put8 r.tariff ++ put32 r.hireTime ++ put32 r.stopTime ++ put32 r.dist
          ++ put32 r.hiredS ++ put32 r.heldS ++ put32 r.meter ++ put32 r.surcharges ++ put32 r.extras
          ++ put8 r.extraCount ++ put32 r.total ++ put8 r.payment ++ bits [r.jobKey.isSome] ++ key r.jobKey
          ++ flags r.flags) 48)
      ∧ (let head (r : InNote) (word count : Nat) : List Byte :=
          put16 r.origin ++ put8 r.toAll.toNat ++ put8 r.id
            ++ bits [r.urgent, r.wanted, r.key.isSome, r.storedMark.isSome, r.readMark.isSome]
            ++ bits [r.key.isSome, r.delReason.isSome] ++ key r.key ++ since r.arrival ++ put8 r.state.code
            ++ opt8 (r.delReason.map (·.code)) ++ put8 r.text.length ++ put8 word ++ put8 count
        (∀ (b w : Byte) r, b.toNat ≤ 11 → w.toNat ≤ 19 → slotGet s.nts.inbox b.toNat = some r →
          let count := (r.text.length + 1) / 2 - w.toNat
          reads (.readNote b w) true (head r w.toNat count ++ (text r.text).drop (2 * w.toNat)) (20 + 2 * count))
        ∧ ∀ (b m u : Byte) (o : BitVec 16), b.toNat ≤ 11 → m.toNat ≤ 7 → u.toNat ≤ 1 → o.toNat ≤ 4094 →
          let order := (List.range 12).map fun i => (b.toNat + i) % 12
          let wanted (r : InNote) : Prop := m.getLsbD r.state.code = true ∧ (u.toNat = 0 ∨ r.urgent = true)
            ∧ (o.toNat = 0 ∨ o.toNat = r.origin)
          s.nts.inbox.length = 12 →
          ((∀ i ∈ order, ∀ r, slotGet s.nts.inbox i = some r → ¬ wanted r) →
            exec (.scanNotes b m u o) s = .next (s.answering s true [6]))
          ∧ ∀ pre i post r, order = pre ++ i :: post → slotGet s.nts.inbox i = some r → wanted r →
            (∀ j ∈ pre, ∀ r, slotGet s.nts.inbox j = some r → ¬ wanted r) →
            reads (.scanNotes b m u o) true (put8 i ++ head r 0 0) 21)
      ∧ (∀ (b : Byte) r, b.toNat ≤ 3 → slotGet s.nts.outbox b.toNat = some r →
        reads (.readOutbox b) true (put16 r.dest ++ put8 r.id ++ bits [r.wanted, r.urgent, r.key.isSome, r.mark.isSome]
          ++ bits [r.key.isSome, r.retryAt.isSome, r.termTime.isSome] ++ key r.key ++ put8 r.state.code ++ put8 r.made
          ++ opt16 (r.retryAt.map fun t => (t - s.now) / ms) ++ sinceOpt r.termTime ++ put8 r.text.length
          ++ text r.text) (19 + 2 * ((r.text.length + 1) / 2)))
      ∧ (let ins (st : InState) : Nat := ((slotEntries s.nts.inbox).filter fun r => decide (r.state = st)).length
        let outs := slotEntries s.nts.outbox
        reads (.readOutbox 255) true (put8 (ins .unread) ++ put8 (ins .read) ++ put8 (ins .deleted)
          ++ put8 (s.nts.inbox.filter fun x => x.isNone).length ++ put8 (outs.filter fun r => r.state.live).length
          ++ put8 (outs.filter fun r => !r.state.live).length ++ put8 (s.nts.outbox.filter fun x => x.isNone).length
          ++ put8 s.nts.refusals.length ++ put16 s.nts.refusalsLost ++ put8 s.ret.noteId) 12)
      ∧ (∀ (b : Byte) a, b.toNat ≤ 3 → slotGet s.emu.table b.toNat = some a →
        reads (.readAlarm b) true (put8 b.toNat ++ put16 a.origin ++ put8 a.serial ++ put8 a.state.code
          ++ since a.firstHeard ++ since a.lastHeard ++ sinceOpt a.endedTime
          ++ bits [a.endedTime.isSome, a.position.isSome, (away a.position).isSome] ++ fixed a.position
          ++ bits [a.duress] ++ put8 a.hop ++ put8 a.repeats ++ put8 a.lastCount ++ opt16 (away a.position) ++ own) 31)
      ∧ (s.ret.covert = true → reads (.readAlarm 255) true ([0] ++ put8 s.ret.serial ++ [0, 0, 0, 0]) 7)
      ∧ (s.ret.covert = false → reads (.readAlarm 255) true (put8 s.ret.alarm.code ++ put8 s.ret.serial
        ++ put8 s.emu.repeats ++ bits [s.emu.repeatAt.isSome]
        ++ opt16 (s.emu.repeatAt.map fun t => (t - s.now) / ms)) 7))

/-! ## Laws that every step keeps -/

/-- The store keeps its check word, each lifetime total is at least its shift counterpart, and the log and the counters keep
their limits (R4, R130, R131, R133, R141, R155, R162), from every state and through every step. Where it rests on the
model's choice, log entry 7 says so. -/
def Obligations.StoreTotalsAndCountersAreKept : Prop :=
  ∀ s : State, s.storeLaw → s.ret.totalsLaw → s.ret.countersLaw → ∀ t, step s = .next t →
    t.storeLaw ∧ t.ret.totalsLaw ∧ t.ret.countersLaw

/-- The transmit queue never holds more than eight frames nor two own frames of one group, the on-air entry counted, and W stays
a power of two from 4 to 64 (R12, R16, R17, R24). -/
def Obligations.QueueAndWindowLimitsAreKept : Prop :=
  ∀ s : State, s.cau.queueLaw → s.cau.windowLaw → ∀ t, step s = .next t → t.cau.queueLaw ∧ t.cau.windowLaw

/-- The port is never caught in EXEC, shows RESULT exactly while result bytes are unread and PARAM exactly while its timer runs,
and mutes a transaction only in progress; the filter of PANIC runs exactly while its pin differs from the level in force;
the window of the hunt holds at most 16 bits; the event queue keeps its law; the tables keep their sizes (R31, R54, R59,
R70, R131, R145, R155, R174, R38, R43, R164, R182 to R184, R188, R189). Where it rests on the model's choices, log entries
10, 12 and 13 say so. -/
def Obligations.PortEventsAndSizesAreKept : Prop :=
  ∀ s : State, s.cpt.phaseLaw → s.cpt.eventLaw → s.sizeLaw → s.csnLaw → s.filterLaw → s.rru.windowLaw →
    ∀ t, step s = .next t →
    t.cpt.phaseLaw ∧ t.cpt.eventLaw ∧ t.sizeLaw ∧ t.csnLaw ∧ t.filterLaw ∧ t.rru.windowLaw

/-- Board entries, inbox notes and alarm entries stay distinct by their keys, and every claim list stays ordered, of at most
four stations, with scores up to 1023 (R71, R74, R92, R145, R174). -/
def Obligations.KeysAndClaimListsAreKept : Prop :=
  ∀ s : State, s.ofb.keyLaw → s.nts.keyLaw → s.emu.keyLaw → s.ofb.claimLaw → ∀ t, step s = .next t →
    t.ofb.keyLaw ∧ t.nts.keyLaw ∧ t.emu.keyLaw ∧ t.ofb.claimLaw

/-- Availability is always the one its inputs give and is known to the board and the PPU; the fare engine is in ON-CALL exactly
while the board holds one job; no entry competes unless the cab is FREE; and an alarm in ALERTING leaves nothing hired, on
call or competing (R72, R78, R90, R109, R110, R127). Where it rests on the model's choice, log entry 20 says so. -/
def Obligations.AvailabilityJobsAndAlarmsAgree : Prop :=
  ∀ s : State, s.ofb.keyLaw → s.sizeLaw → s.deviceLaw → s.ret.tripLaw → ∀ t, step s = .next t → t.deviceLaw

/-- A trip is in progress exactly in HIRED, HELD and TOTAL and keeps its ranges, and while it is in progress its total never
falls (R112, R116, R121). -/
def Obligations.TripsKeepTheirRangesAndTotalsNeverFall : Prop :=
  ∀ s : State, s.ret.tripLaw → s.sizeLaw → ∀ t, step s = .next t →
    t.ret.tripLaw ∧ ∀ x y, s.ret.trip = some x → t.ret.trip = some y → x.total ≤ y.total

/-- The cab never relays a frame of its own, relayed frames keep their hop budget, the peer table never holds the own station or
one station twice, and in CONFIG nothing is queued, held, taken or known (R30, R35, R42, R48, R59, R64). -/
def Obligations.NoOwnFrameIsRelayedNorPeerDoubled : Prop :=
  ∀ s : State, s.relayLaw → s.peerLaw → ∀ t, step s = .next t → t.relayLaw ∧ t.peerLaw

/-- The state after reset (R30, R48, R69, R86, R129, R142, R143, R161, R173, R188) keeps every law and holds the values of the
chapters: CONFIG and READY, empty queues and tables, position stale, driver OFF, NO-FIX, and a cleared store with the
retained-lost flag. Where it rests on the model's choices, log entries 8, 12 and 13 say so. -/
def Obligations.ResetHoldsTheChapterValues : Prop :=
  let s := State.reset
  (s.storeLaw ∧ s.ret.totalsLaw ∧ s.ret.countersLaw ∧ s.cau.queueLaw ∧ s.cau.windowLaw ∧ s.cpt.phaseLaw
    ∧ s.cpt.eventLaw ∧ s.sizeLaw ∧ s.ofb.keyLaw ∧ s.nts.keyLaw ∧ s.emu.keyLaw ∧ s.ofb.claimLaw ∧ s.deviceLaw
    ∧ s.ret.tripLaw ∧ s.relayLaw ∧ s.peerLaw ∧ s.csnLaw ∧ s.filterLaw ∧ s.rru.windowLaw)
  ∧ (s.cpt.part = .config ∧ s.cpt.phase = .ready ∧ s.cpt.events = [] ∧ s.cpt.overflow = false ∧ s.cpt.config = none
    ∧ s.cpt.phaseError = false ∧ s.alertAsserted = false)
  ∧ (s.cau.queue = [] ∧ s.cau.onAir = none ∧ s.cau.w = 4 ∧ s.cau.blocked = false ∧ s.keyPin = false ∧ s.txdLevel = false
    ∧ s.rru.rx = .idle ∧ s.rru.cache = [] ∧ s.rru.holds = [none, none, none, none] ∧ s.rru.stats = .zero)
  ∧ (s.ppu.position = none ∧ s.ppu.fix = false ∧ s.ppu.stale = true ∧ s.ppu.zone = 255
    ∧ (∀ z ∈ s.ppu.zones, z = none) ∧ ∀ p ∈ s.ppu.peers, p = none)
  ∧ ((∀ e ∈ s.ofb.slots, e = none) ∧ s.ofb.boardFull = 0 ∧ s.fre.driver = .off ∧ s.fre.avail = some .noFix
    ∧ s.signLit = false ∧ s.ttl.tally = none)
  ∧ ((∀ r ∈ s.nts.inbox, r = none) ∧ (∀ r ∈ s.nts.outbox, r = none) ∧ s.nts.refusals = [] ∧ s.nts.refusalsLost = 0
    ∧ (∀ a ∈ s.emu.table, a = none) ∧ s.emu.ending = none ∧ s.emu.repeats = 0 ∧ s.emu.filterAt = none)
  ∧ (s.ret.fare = .vacant ∧ s.ret.trip = none ∧ s.ret.k = none ∧ (∀ t ∈ s.ret.tariffs, t = none)
    ∧ s.ret.surcharges = [0, 0, 0] ∧ s.ret.shiftOpen = false ∧ s.ret.tripLog = [] ∧ s.ret.tripCounter = 0
    ∧ s.ret.alarm = .quiet ∧ s.ret.covert = false ∧ s.ret.retainedLost = true)

/-! ## The output pins -/

/-- The output pins follow the state: KEY is asserted while an entry is on air, and TXD then carries its preamble, sync word,
header, body and check, most significant bit first, one bit per bit period, and is low otherwise (R1, R25); SIGN is LIT by
the flash while it is requested and otherwise while availability is FREE (R111, R163); ALERT is asserted while the event
queue holds entries, so from any event raised until SENSE-EVENT has removed the last (R189 to R191). -/
def Obligations.OutputPinsFollowTheState : Prop :=
  ∀ s : State,
    let sync := [true, true, true, false, false, false, true, false, false, true, false, true, true, false, true, false]
    (s.cau.onAir = none → s.keyPin = false ∧ s.txdLevel = false)
    ∧ (∀ a, s.cau.onAir = some a →
      let bit := (s.now - a.start) / 5
      s.keyPin = true
      ∧ (bit < 32 → s.txdLevel = decide (bit % 2 = 0))
      ∧ (32 ≤ bit → bit < 48 → s.txdLevel = sync.getD (bit - 32) false)
      ∧ (48 ≤ bit → s.txdLevel = (a.entry.frame.bytes.getD ((bit - 48) / 8) 0).getLsbD (7 - bit % 8)))
    ∧ (∀ f, s.emu.flash = some f → s.signLit = f.lit)
    ∧ (s.emu.flash = none → (s.signLit = true ↔ s.fre.avail = some .free))
    ∧ (s.alertAsserted = true ↔ s.cpt.events ≠ [])
    ∧ (∀ k subject detail, (s.raiseEvent k subject detail).alertAsserted = true)
    ∧ (s.powered = true → s.cpt.phase = .ready →
      ∃ t, exec .senseEvent s = .next t ∧ (t.alertAsserted = true ↔ 2 ≤ s.cpt.events.length))
end

