-- ==== Sys2Proof/Laws/Slots.lean ====
section
/-! SUPPORT. What the slot-table operations do. -/

namespace Sys2Proof.Machine

variable {α κ : Type}

@[simp] theorem slotPut_length (l : List (Option α)) (i : Nat) (x : α) : (slotPut l i x).length = l.length := by
  simp [slotPut]

@[simp] theorem slotFree_length (l : List (Option α)) (i : Nat) : (slotFree l i).length = l.length := by
  simp [slotFree]

/-- A written slot reads as written. -/
theorem slotGet_slotPut_self (l : List (Option α)) (i : Nat) (x : α) (h : i < l.length) :
    slotGet (slotPut l i x) i = some x := by
  simp [slotGet, slotPut, h]

/-- A write leaves every other slot alone. -/
theorem slotGet_slotPut_ne (l : List (Option α)) (i j : Nat) (x : α) (h : i ≠ j) :
    slotGet (slotPut l i x) j = slotGet l j := by
  simp [slotGet, slotPut, h]

/-- A freed slot is free. -/
theorem slotGet_slotFree_self (l : List (Option α)) (i : Nat) : slotGet (slotFree l i) i = none := by
  by_cases h : i < l.length <;> simp [slotGet, slotFree, h]

/-- Freeing a slot leaves every other slot alone. -/
theorem slotGet_slotFree_ne (l : List (Option α)) (i j : Nat) (h : i ≠ j) :
    slotGet (slotFree l i) j = slotGet l j := by
  simp [slotGet, slotFree, h]

/-- What a slot search answers: an occupied slot with the property. -/
theorem slotFind_some (p : α → Bool) (l : List (Option α)) (k i : Nat) (x : α) (h : slotFind p l k = some (i, x)) :
    k ≤ i ∧ l[i - k]? = some (some x) ∧ p x = true := by
  induction l generalizing k with
  | nil => simp [slotFind] at h
  | cons a l ih =>
    cases a with
    | none =>
      obtain ⟨h1, h2, h3⟩ := ih (k + 1) (by simpa [slotFind] using h)
      refine ⟨by omega, ?_, h3⟩
      have : i - k = (i - (k + 1)) + 1 := by omega
      rw [this, List.getElem?_cons_succ, h2]
    | some y =>
      simp only [slotFind] at h
      by_cases hy : p y = true
      · simp only [hy, if_true, Option.some.injEq, Prod.mk.injEq] at h
        obtain ⟨rfl, rfl⟩ := h
        simp [hy]
      · simp only [hy, if_false, Bool.false_eq_true] at h
        obtain ⟨h1, h2, h3⟩ := ih (k + 1) h
        refine ⟨by omega, ?_, h3⟩
        have : i - k = (i - (k + 1)) + 1 := by omega
        rw [this, List.getElem?_cons_succ, h2]

/-- A slot search from slot 0 answers an occupied slot of the table with the property. -/
theorem slotFind_zero (p : α → Bool) (l : List (Option α)) (i : Nat) (x : α) (h : slotFind p l 0 = some (i, x)) :
    slotGet l i = some x ∧ p x = true := by
  obtain ⟨-, h2, h3⟩ := slotFind_some p l 0 i x h
  exact ⟨by simpa [slotGet] using congrArg Option.join h2, h3⟩

/-- A slot search finds nothing exactly when no entry has the property. -/
theorem slotFind_none (p : α → Bool) (l : List (Option α)) (k : Nat) :
    slotFind p l k = none ↔ ∀ x ∈ slotEntries l, p x = false := by
  induction l generalizing k with
  | nil => simp [slotFind, slotEntries]
  | cons a l ih =>
    cases a with
    | none => simpa [slotFind, slotEntries] using ih (k + 1)
    | some y =>
      by_cases hy : p y = true
      · simp [slotFind, slotEntries, hy]
      · have := ih (k + 1)
        simp only [slotEntries, List.mem_filterMap, id_eq] at this
        simp [slotFind, slotEntries, hy, this]

/-- An occupied slot holds one of the entries. -/
theorem slotGet_mem (l : List (Option α)) (i : Nat) (x : α) (h : slotGet l i = some x) : x ∈ slotEntries l := by
  simp only [slotGet, Option.join_eq_some_iff] at h
  simp only [slotEntries, List.mem_filterMap, id_eq, exists_eq_right]
  exact List.mem_of_getElem? h

/-- The entries after a write are the old ones and the one written. -/
theorem mem_slotPut (l : List (Option α)) (i : Nat) (x y : α) (h : y ∈ slotEntries (slotPut l i x)) :
    y = x ∨ y ∈ slotEntries l := by
  simp only [slotEntries, slotPut, List.mem_filterMap, id_eq, exists_eq_right] at h ⊢
  rcases List.mem_or_eq_of_mem_set h with h | h
  · exact .inr h
  · exact .inl (by simpa using h)

/-- The entries after a slot is freed are among the old ones. -/
theorem mem_slotFree (l : List (Option α)) (i : Nat) (y : α) (h : y ∈ slotEntries (slotFree l i)) :
    y ∈ slotEntries l := by
  simp only [slotEntries, slotFree, List.mem_filterMap, id_eq, exists_eq_right] at h ⊢
  rcases List.mem_or_eq_of_mem_set h with h | h
  · exact h
  · simp at h

/-- The lowest free slot is a free slot of the table. -/
theorem lowestFree_spec (l : List (Option α)) (i : Nat) (h : lowestFree l = some i) :
    i < l.length ∧ slotGet l i = none ∧ ∀ j < i, (slotGet l j).isSome = true := by
  obtain ⟨hi, h1, h2⟩ := List.findIdx?_eq_some_iff_getElem.mp h
  refine ⟨hi, ?_, ?_⟩
  · simp only [Option.isNone_iff_eq_none] at h1
    simp [slotGet, List.getElem?_eq_getElem hi, h1]
  · intro j hj
    have hj' : j < l.length := by omega
    have := h2 j hj
    simp only [Option.isNone_iff_eq_none] at this
    simp [slotGet, List.getElem?_eq_getElem hj']
    exact Option.ne_none_iff_isSome.mp this

end Sys2Proof.Machine
end

