-- ==== Sys2Proof/Laws/State.lean ====
section
/-! SUPPORT. One lemma per field per block update of the state, each true by definition. -/

namespace Sys2Proof.Machine

variable (s : State)

@[simp] theorem State.setCau_now (c : Cau) : (s.setCau c).now = s.now := rfl
@[simp] theorem State.setCau_draws (c : Cau) : (s.setCau c).draws = s.draws := rfl
@[simp] theorem State.setCau_powered (c : Cau) : (s.setCau c).powered = s.powered := rfl
@[simp] theorem State.setCau_storeLost (c : Cau) : (s.setCau c).storeLost = s.storeLost := rfl
@[simp] theorem State.setCau_ret (c : Cau) : (s.setCau c).ret = s.ret := rfl
@[simp] theorem State.setCau_check (c : Cau) : (s.setCau c).check = s.check := rfl
@[simp] theorem State.setCau_pins (c : Cau) : (s.setCau c).pins = s.pins := rfl
@[simp] theorem State.setCau_cau (c : Cau) : (s.setCau c).cau = c := rfl
@[simp] theorem State.setCau_rru (c : Cau) : (s.setCau c).rru = s.rru := rfl
@[simp] theorem State.setCau_ppu (c : Cau) : (s.setCau c).ppu = s.ppu := rfl
@[simp] theorem State.setCau_ofb (c : Cau) : (s.setCau c).ofb = s.ofb := rfl
@[simp] theorem State.setCau_fre (c : Cau) : (s.setCau c).fre = s.fre := rfl
@[simp] theorem State.setCau_ttl (c : Cau) : (s.setCau c).ttl = s.ttl := rfl
@[simp] theorem State.setCau_nts (c : Cau) : (s.setCau c).nts = s.nts := rfl
@[simp] theorem State.setCau_emu (c : Cau) : (s.setCau c).emu = s.emu := rfl
@[simp] theorem State.setCau_cpt (c : Cau) : (s.setCau c).cpt = s.cpt := rfl
@[simp] theorem State.setCau_pending (c : Cau) : (s.setCau c).pending = s.pending := rfl

@[simp] theorem State.setRru_now (r : Rru) : (s.setRru r).now = s.now := rfl
@[simp] theorem State.setRru_draws (r : Rru) : (s.setRru r).draws = s.draws := rfl
@[simp] theorem State.setRru_powered (r : Rru) : (s.setRru r).powered = s.powered := rfl
@[simp] theorem State.setRru_storeLost (r : Rru) : (s.setRru r).storeLost = s.storeLost := rfl
@[simp] theorem State.setRru_ret (r : Rru) : (s.setRru r).ret = s.ret := rfl
@[simp] theorem State.setRru_check (r : Rru) : (s.setRru r).check = s.check := rfl
@[simp] theorem State.setRru_pins (r : Rru) : (s.setRru r).pins = s.pins := rfl
@[simp] theorem State.setRru_cau (r : Rru) : (s.setRru r).cau = s.cau := rfl
@[simp] theorem State.setRru_rru (r : Rru) : (s.setRru r).rru = r := rfl
@[simp] theorem State.setRru_ppu (r : Rru) : (s.setRru r).ppu = s.ppu := rfl
@[simp] theorem State.setRru_ofb (r : Rru) : (s.setRru r).ofb = s.ofb := rfl
@[simp] theorem State.setRru_fre (r : Rru) : (s.setRru r).fre = s.fre := rfl
@[simp] theorem State.setRru_ttl (r : Rru) : (s.setRru r).ttl = s.ttl := rfl
@[simp] theorem State.setRru_nts (r : Rru) : (s.setRru r).nts = s.nts := rfl
@[simp] theorem State.setRru_emu (r : Rru) : (s.setRru r).emu = s.emu := rfl
@[simp] theorem State.setRru_cpt (r : Rru) : (s.setRru r).cpt = s.cpt := rfl
@[simp] theorem State.setRru_pending (r : Rru) : (s.setRru r).pending = s.pending := rfl

@[simp] theorem State.setPpu_now (p : Ppu) : (s.setPpu p).now = s.now := rfl
@[simp] theorem State.setPpu_draws (p : Ppu) : (s.setPpu p).draws = s.draws := rfl
@[simp] theorem State.setPpu_powered (p : Ppu) : (s.setPpu p).powered = s.powered := rfl
@[simp] theorem State.setPpu_storeLost (p : Ppu) : (s.setPpu p).storeLost = s.storeLost := rfl
@[simp] theorem State.setPpu_ret (p : Ppu) : (s.setPpu p).ret = s.ret := rfl
@[simp] theorem State.setPpu_check (p : Ppu) : (s.setPpu p).check = s.check := rfl
@[simp] theorem State.setPpu_pins (p : Ppu) : (s.setPpu p).pins = s.pins := rfl
@[simp] theorem State.setPpu_cau (p : Ppu) : (s.setPpu p).cau = s.cau := rfl
@[simp] theorem State.setPpu_rru (p : Ppu) : (s.setPpu p).rru = s.rru := rfl
@[simp] theorem State.setPpu_ppu (p : Ppu) : (s.setPpu p).ppu = p := rfl
@[simp] theorem State.setPpu_ofb (p : Ppu) : (s.setPpu p).ofb = s.ofb := rfl
@[simp] theorem State.setPpu_fre (p : Ppu) : (s.setPpu p).fre = s.fre := rfl
@[simp] theorem State.setPpu_ttl (p : Ppu) : (s.setPpu p).ttl = s.ttl := rfl
@[simp] theorem State.setPpu_nts (p : Ppu) : (s.setPpu p).nts = s.nts := rfl
@[simp] theorem State.setPpu_emu (p : Ppu) : (s.setPpu p).emu = s.emu := rfl
@[simp] theorem State.setPpu_cpt (p : Ppu) : (s.setPpu p).cpt = s.cpt := rfl
@[simp] theorem State.setPpu_pending (p : Ppu) : (s.setPpu p).pending = s.pending := rfl

@[simp] theorem State.setOfb_now (o : Ofb) : (s.setOfb o).now = s.now := rfl
@[simp] theorem State.setOfb_draws (o : Ofb) : (s.setOfb o).draws = s.draws := rfl
@[simp] theorem State.setOfb_powered (o : Ofb) : (s.setOfb o).powered = s.powered := rfl
@[simp] theorem State.setOfb_storeLost (o : Ofb) : (s.setOfb o).storeLost = s.storeLost := rfl
@[simp] theorem State.setOfb_ret (o : Ofb) : (s.setOfb o).ret = s.ret := rfl
@[simp] theorem State.setOfb_check (o : Ofb) : (s.setOfb o).check = s.check := rfl
@[simp] theorem State.setOfb_pins (o : Ofb) : (s.setOfb o).pins = s.pins := rfl
@[simp] theorem State.setOfb_cau (o : Ofb) : (s.setOfb o).cau = s.cau := rfl
@[simp] theorem State.setOfb_rru (o : Ofb) : (s.setOfb o).rru = s.rru := rfl
@[simp] theorem State.setOfb_ppu (o : Ofb) : (s.setOfb o).ppu = s.ppu := rfl
@[simp] theorem State.setOfb_ofb (o : Ofb) : (s.setOfb o).ofb = o := rfl
@[simp] theorem State.setOfb_fre (o : Ofb) : (s.setOfb o).fre = s.fre := rfl
@[simp] theorem State.setOfb_ttl (o : Ofb) : (s.setOfb o).ttl = s.ttl := rfl
@[simp] theorem State.setOfb_nts (o : Ofb) : (s.setOfb o).nts = s.nts := rfl
@[simp] theorem State.setOfb_emu (o : Ofb) : (s.setOfb o).emu = s.emu := rfl
@[simp] theorem State.setOfb_cpt (o : Ofb) : (s.setOfb o).cpt = s.cpt := rfl
@[simp] theorem State.setOfb_pending (o : Ofb) : (s.setOfb o).pending = s.pending := rfl

@[simp] theorem State.setFre_now (f : Fre) : (s.setFre f).now = s.now := rfl
@[simp] theorem State.setFre_draws (f : Fre) : (s.setFre f).draws = s.draws := rfl
@[simp] theorem State.setFre_powered (f : Fre) : (s.setFre f).powered = s.powered := rfl
@[simp] theorem State.setFre_storeLost (f : Fre) : (s.setFre f).storeLost = s.storeLost := rfl
@[simp] theorem State.setFre_ret (f : Fre) : (s.setFre f).ret = s.ret := rfl
@[simp] theorem State.setFre_check (f : Fre) : (s.setFre f).check = s.check := rfl
@[simp] theorem State.setFre_pins (f : Fre) : (s.setFre f).pins = s.pins := rfl
@[simp] theorem State.setFre_cau (f : Fre) : (s.setFre f).cau = s.cau := rfl
@[simp] theorem State.setFre_rru (f : Fre) : (s.setFre f).rru = s.rru := rfl
@[simp] theorem State.setFre_ppu (f : Fre) : (s.setFre f).ppu = s.ppu := rfl
@[simp] theorem State.setFre_ofb (f : Fre) : (s.setFre f).ofb = s.ofb := rfl
@[simp] theorem State.setFre_fre (f : Fre) : (s.setFre f).fre = f := rfl
@[simp] theorem State.setFre_ttl (f : Fre) : (s.setFre f).ttl = s.ttl := rfl
@[simp] theorem State.setFre_nts (f : Fre) : (s.setFre f).nts = s.nts := rfl
@[simp] theorem State.setFre_emu (f : Fre) : (s.setFre f).emu = s.emu := rfl
@[simp] theorem State.setFre_cpt (f : Fre) : (s.setFre f).cpt = s.cpt := rfl
@[simp] theorem State.setFre_pending (f : Fre) : (s.setFre f).pending = s.pending := rfl

@[simp] theorem State.setTtl_now (u : Ttl) : (s.setTtl u).now = s.now := rfl
@[simp] theorem State.setTtl_draws (u : Ttl) : (s.setTtl u).draws = s.draws := rfl
@[simp] theorem State.setTtl_powered (u : Ttl) : (s.setTtl u).powered = s.powered := rfl
@[simp] theorem State.setTtl_storeLost (u : Ttl) : (s.setTtl u).storeLost = s.storeLost := rfl
@[simp] theorem State.setTtl_ret (u : Ttl) : (s.setTtl u).ret = s.ret := rfl
@[simp] theorem State.setTtl_check (u : Ttl) : (s.setTtl u).check = s.check := rfl
@[simp] theorem State.setTtl_pins (u : Ttl) : (s.setTtl u).pins = s.pins := rfl
@[simp] theorem State.setTtl_cau (u : Ttl) : (s.setTtl u).cau = s.cau := rfl
@[simp] theorem State.setTtl_rru (u : Ttl) : (s.setTtl u).rru = s.rru := rfl
@[simp] theorem State.setTtl_ppu (u : Ttl) : (s.setTtl u).ppu = s.ppu := rfl
@[simp] theorem State.setTtl_ofb (u : Ttl) : (s.setTtl u).ofb = s.ofb := rfl
@[simp] theorem State.setTtl_fre (u : Ttl) : (s.setTtl u).fre = s.fre := rfl
@[simp] theorem State.setTtl_ttl (u : Ttl) : (s.setTtl u).ttl = u := rfl
@[simp] theorem State.setTtl_nts (u : Ttl) : (s.setTtl u).nts = s.nts := rfl
@[simp] theorem State.setTtl_emu (u : Ttl) : (s.setTtl u).emu = s.emu := rfl
@[simp] theorem State.setTtl_cpt (u : Ttl) : (s.setTtl u).cpt = s.cpt := rfl
@[simp] theorem State.setTtl_pending (u : Ttl) : (s.setTtl u).pending = s.pending := rfl

@[simp] theorem State.setNts_now (n : Nts) : (s.setNts n).now = s.now := rfl
@[simp] theorem State.setNts_draws (n : Nts) : (s.setNts n).draws = s.draws := rfl
@[simp] theorem State.setNts_powered (n : Nts) : (s.setNts n).powered = s.powered := rfl
@[simp] theorem State.setNts_storeLost (n : Nts) : (s.setNts n).storeLost = s.storeLost := rfl
@[simp] theorem State.setNts_ret (n : Nts) : (s.setNts n).ret = s.ret := rfl
@[simp] theorem State.setNts_check (n : Nts) : (s.setNts n).check = s.check := rfl
@[simp] theorem State.setNts_pins (n : Nts) : (s.setNts n).pins = s.pins := rfl
@[simp] theorem State.setNts_cau (n : Nts) : (s.setNts n).cau = s.cau := rfl
@[simp] theorem State.setNts_rru (n : Nts) : (s.setNts n).rru = s.rru := rfl
@[simp] theorem State.setNts_ppu (n : Nts) : (s.setNts n).ppu = s.ppu := rfl
@[simp] theorem State.setNts_ofb (n : Nts) : (s.setNts n).ofb = s.ofb := rfl
@[simp] theorem State.setNts_fre (n : Nts) : (s.setNts n).fre = s.fre := rfl
@[simp] theorem State.setNts_ttl (n : Nts) : (s.setNts n).ttl = s.ttl := rfl
@[simp] theorem State.setNts_nts (n : Nts) : (s.setNts n).nts = n := rfl
@[simp] theorem State.setNts_emu (n : Nts) : (s.setNts n).emu = s.emu := rfl
@[simp] theorem State.setNts_cpt (n : Nts) : (s.setNts n).cpt = s.cpt := rfl
@[simp] theorem State.setNts_pending (n : Nts) : (s.setNts n).pending = s.pending := rfl

@[simp] theorem State.setEmu_now (e : Emu) : (s.setEmu e).now = s.now := rfl
@[simp] theorem State.setEmu_draws (e : Emu) : (s.setEmu e).draws = s.draws := rfl
@[simp] theorem State.setEmu_powered (e : Emu) : (s.setEmu e).powered = s.powered := rfl
@[simp] theorem State.setEmu_storeLost (e : Emu) : (s.setEmu e).storeLost = s.storeLost := rfl
@[simp] theorem State.setEmu_ret (e : Emu) : (s.setEmu e).ret = s.ret := rfl
@[simp] theorem State.setEmu_check (e : Emu) : (s.setEmu e).check = s.check := rfl
@[simp] theorem State.setEmu_pins (e : Emu) : (s.setEmu e).pins = s.pins := rfl
@[simp] theorem State.setEmu_cau (e : Emu) : (s.setEmu e).cau = s.cau := rfl
@[simp] theorem State.setEmu_rru (e : Emu) : (s.setEmu e).rru = s.rru := rfl
@[simp] theorem State.setEmu_ppu (e : Emu) : (s.setEmu e).ppu = s.ppu := rfl
@[simp] theorem State.setEmu_ofb (e : Emu) : (s.setEmu e).ofb = s.ofb := rfl
@[simp] theorem State.setEmu_fre (e : Emu) : (s.setEmu e).fre = s.fre := rfl
@[simp] theorem State.setEmu_ttl (e : Emu) : (s.setEmu e).ttl = s.ttl := rfl
@[simp] theorem State.setEmu_nts (e : Emu) : (s.setEmu e).nts = s.nts := rfl
@[simp] theorem State.setEmu_emu (e : Emu) : (s.setEmu e).emu = e := rfl
@[simp] theorem State.setEmu_cpt (e : Emu) : (s.setEmu e).cpt = s.cpt := rfl
@[simp] theorem State.setEmu_pending (e : Emu) : (s.setEmu e).pending = s.pending := rfl

@[simp] theorem State.setCpt_now (c : Cpt) : (s.setCpt c).now = s.now := rfl
@[simp] theorem State.setCpt_draws (c : Cpt) : (s.setCpt c).draws = s.draws := rfl
@[simp] theorem State.setCpt_powered (c : Cpt) : (s.setCpt c).powered = s.powered := rfl
@[simp] theorem State.setCpt_storeLost (c : Cpt) : (s.setCpt c).storeLost = s.storeLost := rfl
@[simp] theorem State.setCpt_ret (c : Cpt) : (s.setCpt c).ret = s.ret := rfl
@[simp] theorem State.setCpt_check (c : Cpt) : (s.setCpt c).check = s.check := rfl
@[simp] theorem State.setCpt_pins (c : Cpt) : (s.setCpt c).pins = s.pins := rfl
@[simp] theorem State.setCpt_cau (c : Cpt) : (s.setCpt c).cau = s.cau := rfl
@[simp] theorem State.setCpt_rru (c : Cpt) : (s.setCpt c).rru = s.rru := rfl
@[simp] theorem State.setCpt_ppu (c : Cpt) : (s.setCpt c).ppu = s.ppu := rfl
@[simp] theorem State.setCpt_ofb (c : Cpt) : (s.setCpt c).ofb = s.ofb := rfl
@[simp] theorem State.setCpt_fre (c : Cpt) : (s.setCpt c).fre = s.fre := rfl
@[simp] theorem State.setCpt_ttl (c : Cpt) : (s.setCpt c).ttl = s.ttl := rfl
@[simp] theorem State.setCpt_nts (c : Cpt) : (s.setCpt c).nts = s.nts := rfl
@[simp] theorem State.setCpt_emu (c : Cpt) : (s.setCpt c).emu = s.emu := rfl
@[simp] theorem State.setCpt_cpt (c : Cpt) : (s.setCpt c).cpt = c := rfl
@[simp] theorem State.setCpt_pending (c : Cpt) : (s.setCpt c).pending = s.pending := rfl

@[simp] theorem State.setPins_now (p : Pins) : (s.setPins p).now = s.now := rfl
@[simp] theorem State.setPins_draws (p : Pins) : (s.setPins p).draws = s.draws := rfl
@[simp] theorem State.setPins_powered (p : Pins) : (s.setPins p).powered = s.powered := rfl
@[simp] theorem State.setPins_storeLost (p : Pins) : (s.setPins p).storeLost = s.storeLost := rfl
@[simp] theorem State.setPins_ret (p : Pins) : (s.setPins p).ret = s.ret := rfl
@[simp] theorem State.setPins_check (p : Pins) : (s.setPins p).check = s.check := rfl
@[simp] theorem State.setPins_pins (p : Pins) : (s.setPins p).pins = p := rfl
@[simp] theorem State.setPins_cau (p : Pins) : (s.setPins p).cau = s.cau := rfl
@[simp] theorem State.setPins_rru (p : Pins) : (s.setPins p).rru = s.rru := rfl
@[simp] theorem State.setPins_ppu (p : Pins) : (s.setPins p).ppu = s.ppu := rfl
@[simp] theorem State.setPins_ofb (p : Pins) : (s.setPins p).ofb = s.ofb := rfl
@[simp] theorem State.setPins_fre (p : Pins) : (s.setPins p).fre = s.fre := rfl
@[simp] theorem State.setPins_ttl (p : Pins) : (s.setPins p).ttl = s.ttl := rfl
@[simp] theorem State.setPins_nts (p : Pins) : (s.setPins p).nts = s.nts := rfl
@[simp] theorem State.setPins_emu (p : Pins) : (s.setPins p).emu = s.emu := rfl
@[simp] theorem State.setPins_cpt (p : Pins) : (s.setPins p).cpt = s.cpt := rfl
@[simp] theorem State.setPins_pending (p : Pins) : (s.setPins p).pending = s.pending := rfl

@[simp] theorem State.setRet_now (r : Retained) : (s.setRet r).now = s.now := rfl
@[simp] theorem State.setRet_draws (r : Retained) : (s.setRet r).draws = s.draws := rfl
@[simp] theorem State.setRet_powered (r : Retained) : (s.setRet r).powered = s.powered := rfl
@[simp] theorem State.setRet_storeLost (r : Retained) : (s.setRet r).storeLost = s.storeLost := rfl
@[simp] theorem State.setRet_ret (r : Retained) : (s.setRet r).ret = r := rfl
@[simp] theorem State.setRet_check (r : Retained) : (s.setRet r).check = storeCheck r := rfl
@[simp] theorem State.setRet_pins (r : Retained) : (s.setRet r).pins = s.pins := rfl
@[simp] theorem State.setRet_cau (r : Retained) : (s.setRet r).cau = s.cau := rfl
@[simp] theorem State.setRet_rru (r : Retained) : (s.setRet r).rru = s.rru := rfl
@[simp] theorem State.setRet_ppu (r : Retained) : (s.setRet r).ppu = s.ppu := rfl
@[simp] theorem State.setRet_ofb (r : Retained) : (s.setRet r).ofb = s.ofb := rfl
@[simp] theorem State.setRet_fre (r : Retained) : (s.setRet r).fre = s.fre := rfl
@[simp] theorem State.setRet_ttl (r : Retained) : (s.setRet r).ttl = s.ttl := rfl
@[simp] theorem State.setRet_nts (r : Retained) : (s.setRet r).nts = s.nts := rfl
@[simp] theorem State.setRet_emu (r : Retained) : (s.setRet r).emu = s.emu := rfl
@[simp] theorem State.setRet_cpt (r : Retained) : (s.setRet r).cpt = s.cpt := rfl
@[simp] theorem State.setRet_pending (r : Retained) : (s.setRet r).pending = s.pending := rfl

@[simp] theorem State.nextDraw_now : (s.nextDraw).now = s.now := rfl
@[simp] theorem State.nextDraw_draws : (s.nextDraw).draws = s.draws + 1 := rfl
@[simp] theorem State.nextDraw_powered : (s.nextDraw).powered = s.powered := rfl
@[simp] theorem State.nextDraw_storeLost : (s.nextDraw).storeLost = s.storeLost := rfl
@[simp] theorem State.nextDraw_ret : (s.nextDraw).ret = s.ret := rfl
@[simp] theorem State.nextDraw_check : (s.nextDraw).check = s.check := rfl
@[simp] theorem State.nextDraw_pins : (s.nextDraw).pins = s.pins := rfl
@[simp] theorem State.nextDraw_cau : (s.nextDraw).cau = s.cau := rfl
@[simp] theorem State.nextDraw_rru : (s.nextDraw).rru = s.rru := rfl
@[simp] theorem State.nextDraw_ppu : (s.nextDraw).ppu = s.ppu := rfl
@[simp] theorem State.nextDraw_ofb : (s.nextDraw).ofb = s.ofb := rfl
@[simp] theorem State.nextDraw_fre : (s.nextDraw).fre = s.fre := rfl
@[simp] theorem State.nextDraw_ttl : (s.nextDraw).ttl = s.ttl := rfl
@[simp] theorem State.nextDraw_nts : (s.nextDraw).nts = s.nts := rfl
@[simp] theorem State.nextDraw_emu : (s.nextDraw).emu = s.emu := rfl
@[simp] theorem State.nextDraw_cpt : (s.nextDraw).cpt = s.cpt := rfl
@[simp] theorem State.nextDraw_pending : (s.nextDraw).pending = s.pending := rfl

@[simp] theorem State.setNow_now (u : Nat) : (s.setNow u).now = u := rfl
@[simp] theorem State.setNow_draws (u : Nat) : (s.setNow u).draws = s.draws := rfl
@[simp] theorem State.setNow_powered (u : Nat) : (s.setNow u).powered = s.powered := rfl
@[simp] theorem State.setNow_storeLost (u : Nat) : (s.setNow u).storeLost = s.storeLost := rfl
@[simp] theorem State.setNow_ret (u : Nat) : (s.setNow u).ret = s.ret := rfl
@[simp] theorem State.setNow_check (u : Nat) : (s.setNow u).check = s.check := rfl
@[simp] theorem State.setNow_pins (u : Nat) : (s.setNow u).pins = s.pins := rfl
@[simp] theorem State.setNow_cau (u : Nat) : (s.setNow u).cau = s.cau := rfl
@[simp] theorem State.setNow_rru (u : Nat) : (s.setNow u).rru = s.rru := rfl
@[simp] theorem State.setNow_ppu (u : Nat) : (s.setNow u).ppu = s.ppu := rfl
@[simp] theorem State.setNow_ofb (u : Nat) : (s.setNow u).ofb = s.ofb := rfl
@[simp] theorem State.setNow_fre (u : Nat) : (s.setNow u).fre = s.fre := rfl
@[simp] theorem State.setNow_ttl (u : Nat) : (s.setNow u).ttl = s.ttl := rfl
@[simp] theorem State.setNow_nts (u : Nat) : (s.setNow u).nts = s.nts := rfl
@[simp] theorem State.setNow_emu (u : Nat) : (s.setNow u).emu = s.emu := rfl
@[simp] theorem State.setNow_cpt (u : Nat) : (s.setNow u).cpt = s.cpt := rfl
@[simp] theorem State.setNow_pending (u : Nat) : (s.setNow u).pending = s.pending := rfl

@[simp] theorem State.setPending_now (q : List Instr) : (s.setPending q).now = s.now := rfl
@[simp] theorem State.setPending_draws (q : List Instr) : (s.setPending q).draws = s.draws := rfl
@[simp] theorem State.setPending_powered (q : List Instr) : (s.setPending q).powered = s.powered := rfl
@[simp] theorem State.setPending_storeLost (q : List Instr) : (s.setPending q).storeLost = s.storeLost := rfl
@[simp] theorem State.setPending_ret (q : List Instr) : (s.setPending q).ret = s.ret := rfl
@[simp] theorem State.setPending_check (q : List Instr) : (s.setPending q).check = s.check := rfl
@[simp] theorem State.setPending_pins (q : List Instr) : (s.setPending q).pins = s.pins := rfl
@[simp] theorem State.setPending_cau (q : List Instr) : (s.setPending q).cau = s.cau := rfl
@[simp] theorem State.setPending_rru (q : List Instr) : (s.setPending q).rru = s.rru := rfl
@[simp] theorem State.setPending_ppu (q : List Instr) : (s.setPending q).ppu = s.ppu := rfl
@[simp] theorem State.setPending_ofb (q : List Instr) : (s.setPending q).ofb = s.ofb := rfl
@[simp] theorem State.setPending_fre (q : List Instr) : (s.setPending q).fre = s.fre := rfl
@[simp] theorem State.setPending_ttl (q : List Instr) : (s.setPending q).ttl = s.ttl := rfl
@[simp] theorem State.setPending_nts (q : List Instr) : (s.setPending q).nts = s.nts := rfl
@[simp] theorem State.setPending_emu (q : List Instr) : (s.setPending q).emu = s.emu := rfl
@[simp] theorem State.setPending_cpt (q : List Instr) : (s.setPending q).cpt = s.cpt := rfl
@[simp] theorem State.setPending_pending (q : List Instr) : (s.setPending q).pending = q := rfl

end Sys2Proof.Machine
end

