-- ==== Sys2Proof/Laws/Queue.lean ====
section
/-! SUPPORT. What the operations of the channel access unit can do to the rest of the part: one relation, kept by each of them. -/

namespace Sys2Proof.Machine

theorem QueueFrame.refl (s : State) : QueueFrame s s := by
  constructor <;> first | rfl | exact id

theorem QueueFrame.trans {s t u : State} (h : QueueFrame s t) (k : QueueFrame t u) : QueueFrame s u where
  now := k.now.trans h.now
  powered := k.powered.trans h.powered
  storeLost := k.storeLost.trans h.storeLost
  pins := k.pins.trans h.pins
  ppu := k.ppu.trans h.ppu
  fre := k.fre.trans h.fre
  emu := k.emu.trans h.emu
  cpt := k.cpt.trans h.cpt
  pending := k.pending.trans h.pending
  ret := by rw [k.ret, h.ret]
  store := fun g => k.store (h.store g)
  board := k.board.trans h.board
  boardFull := k.boardFull.trans h.boardFull
  boardAvail := k.boardAvail.trans h.boardAvail
  inbox := k.inbox.trans h.inbox
  outbox := k.outbox.trans h.outbox
  holds := k.holds.trans h.holds
  clash := k.clash.trans h.clash
  sync := k.sync.trans h.sync
  cache := k.cache.trans h.cache
  stats := k.stats.trans h.stats
  tally := k.tally.trans h.tally
  shiftTick := k.shiftTick.trans h.shiftTick

/-! ## Updates of single blocks -/

/-- Any change of the CAU's own state. -/
theorem setCau_frame (s : State) (c : Cau) : QueueFrame s (s.setCau c) := by
  constructor <;> first | rfl | exact id

theorem setQueue_frame (s : State) (q : List QEntry) : QueueFrame s (s.setQueue q) := setCau_frame s _

theorem nextDraw_frame (s : State) : QueueFrame s s.nextDraw := by
  constructor <;> first | rfl | exact id

/-- A change of the queue's counts, of the relay marks of the cache and of the reception state. -/
theorem setRru_frame (s : State) (r : Rru) (h : r.holds = s.rru.holds) (k : r.clashReported = s.rru.clashReported)
    (y : r.syncAt = s.rru.syncAt)
    (c : (r.cache.map (·.unmark)).Sublist (s.rru.cache.map (·.unmark)))
    (u : r.stats.unqueued = s.rru.stats.unqueued) : QueueFrame s (s.setRru r) := by
  constructor <;> first | rfl | exact id | exact h | exact k | exact y | exact c | exact u

theorem setStats_frame (s : State) (u : Stats) (h : u.unqueued = s.rru.stats.unqueued) : QueueFrame s (s.setStats u) :=
  setRru_frame s _ rfl rfl rfl (.refl _) h

/-- Relay marks change, and entries may leave. -/
theorem cache_marks (l : List CacheEntry) (p : CacheEntry → Bool) (m : RelayMark) :
    (l.map fun c => if p c then { c with mark := m } else c).map (·.unmark) = l.map (·.unmark) := by
  rw [List.map_map]
  exact List.map_congr_left fun c _ => by
    by_cases h : p c = true <;> simp [CacheEntry.unmark, h]

/-- A change of the sequence counter. -/
theorem setSeq_frame (s : State) (n : Nat) : QueueFrame s (s.setRet { s.ret with seq := n }) := by
  constructor <;> first | rfl | exact fun _ => rfl

/-- Writing back an entry that maps to the same image changes no image. -/
theorem map_slotPut_same {α β : Type} (g : α → β) (l : List (Option α)) (i : Nat) (x y : α)
    (h : slotGet l i = some x) (e : g y = g x) : (slotPut l i y).map (·.map g) = l.map (·.map g) := by
  simp only [slotGet, Option.join_eq_some_iff] at h
  simp only [slotPut, List.map_set, Option.map_some, e]
  apply List.ext_getElem?
  intro j
  simp only [List.getElem?_set, List.getElem?_map, List.length_map]
  split
  · subst j
    obtain ⟨hi, h'⟩ := List.getElem?_eq_some_iff.mp h
    simp [hi, h']
  · rfl

theorem modEntry_frame (s : State) (k : JobKey) (f : BoardEntry → BoardEntry) (h : ∀ e, (f e).unmark = e.unmark) :
    QueueFrame s (s.modEntry k f) := by
  unfold State.modEntry
  split
  · next slot e he =>
    obtain ⟨h1, -⟩ := slotFind_zero _ _ _ _ he
    constructor <;> first | rfl | exact id | exact List.Sublist.refl _ | exact map_slotPut_same _ _ _ _ _ h1 (h e)
  · exact .refl s

theorem modIn_frame (s : State) (o i : Nat) (f : InNote → InNote) (h : ∀ e, (f e).unmark = e.unmark) :
    QueueFrame s (s.modIn o i f) := by
  unfold State.modIn
  split
  · next slot e he =>
    obtain ⟨h1, -⟩ := slotFind_zero _ _ _ _ he
    constructor <;> first | rfl | exact id | exact List.Sublist.refl _ | exact map_slotPut_same _ _ _ _ _ h1 (h e)
  · exact .refl s

/-- A live record that stays live changes its mark and its state only. -/
theorem OutNote.unmark_live (r : OutNote) (st : OutState) (h : st.live = true) (m : Option Mark) :
    (if r.state.live then { r with state := st, mark := m } else r).unmark = r.unmark := by
  by_cases hl : r.state.live = true
  · rw [if_pos hl]
    simp only [OutNote.unmark, hl, h, if_true]
  · rw [if_neg hl]

theorem modOut_frame (s : State) (i : Nat) (f : OutNote → OutNote) (h : ∀ e, (f e).unmark = e.unmark) :
    QueueFrame s (s.modOut i f) := by
  unfold State.modOut
  split
  · next e he => constructor <;> first | rfl | exact id | exact List.Sublist.refl _ | exact map_slotPut_same _ _ _ _ _ he (h e)
  · exact .refl s

/-- A change of the refusal list. -/
theorem setRefusals_frame (s : State) (l : List RefusedPair) (n : Nat) :
    QueueFrame s (s.setNts { s.nts with refusals := l, refusalsLost := n }) := by
  constructor <;> first | rfl | exact id

theorem tallyPlace_frame (s : State) (p : TallyPlace) (q : Option Nat) : QueueFrame s (s.tallyPlace p q) := by
  constructor <;> first | rfl | exact id | exact List.Sublist.refl _ | skip
  simp [State.tallyPlace, Option.map_map, Function.comp_def]

/-! ## What owners do with the queue's answers -/

theorem ownerAccepted_frame (s : State) (r : OwnRef) (n : Nat) : QueueFrame s (s.ownerAccepted r n) := by
  unfold State.ownerAccepted
  split
  · exact modEntry_frame _ _ _ fun _ => rfl
  · exact modEntry_frame _ _ _ fun _ => rfl
  · exact modEntry_frame _ _ _ fun _ => rfl
  · exact modOut_frame _ _ _ fun e => e.unmark_live _ (by rfl) _
  · exact setRefusals_frame s _ s.nts.refusalsLost
  · exact modIn_frame _ _ _ _ fun e => by cases ‹ReceiptKind› <;> rfl
  · exact tallyPlace_frame _ _ _
  all_goals exact .refl s

theorem keepRefusal_frame (s : State) (d i : Nat) (m : Mark) : QueueFrame s (s.keepRefusal d i m) := by
  unfold State.keepRefusal
  split
  · exact .refl s
  · split
    · exact setRefusals_frame s _ s.nts.refusalsLost
    · exact setRefusals_frame s s.nts.refusals _

theorem ownerNotSent_frame (s : State) (r : OwnRef) (m : Mark) : QueueFrame s (s.ownerNotSent r m) := by
  unfold State.ownerNotSent
  split
  · exact modEntry_frame _ _ _ fun e => by split <;> rfl
  · exact modEntry_frame _ _ _ fun e => by split <;> rfl
  · exact modEntry_frame _ _ _ fun _ => rfl
  · exact modOut_frame _ _ _ fun e => e.unmark_live _ (by rfl) _
  · exact keepRefusal_frame _ _ _ _
  · exact modIn_frame _ _ _ _ fun e => by cases ‹ReceiptKind› <;> rfl
  · exact tallyPlace_frame _ _ _
  all_goals exact .refl s

theorem endMark_frame (s : State) (k : FrameKey) : QueueFrame s (s.endMark k) := by
  refine setRru_frame s _ rfl rfl rfl ?_ rfl
  have h := (List.filter_sublist (p := fun c : CacheEntry => !(c.key == k && c.firstHeard + cacheLife ≤ s.now))
    (l := s.rru.cache.map fun c => if c.key == k then { c with mark := .none } else c)).map (·.unmark)
  rwa [cache_marks] at h

theorem relayNotSent_frame (s : State) (k : FrameKey) : QueueFrame s (s.relayNotSent k) :=
  (setStats_frame s { s.rru.stats with relaysDropped := inc16 s.rru.stats.relaysDropped } rfl).trans (endMark_frame _ _)

/-! ## Taking a frame, "space", deciding and keying -/

theorem countRefused_frame (s : State) : QueueFrame s s.countRefused := setStats_frame s _ rfl

theorem displace_frame (s : State) (e : QEntry) : QueueFrame s (s.displace e) := by
  unfold State.displace
  dsimp only
  split
  · exact (setQueue_frame s _).trans (relayNotSent_frame _ _)
  · exact (setQueue_frame s _).trans ((countRefused_frame _).trans (ownerNotSent_frame _ _ _))

theorem acceptOwn_frame (s : State) (o : Offered) : QueueFrame s (s.acceptOwn o) := by
  unfold State.acceptOwn
  dsimp only
  split
  · exact (setQueue_frame s _).trans (ownerAccepted_frame _ _ _)
  · exact (setSeq_frame s _).trans ((setQueue_frame _ _).trans (ownerAccepted_frame _ _ _))

theorem refuseOwn_frame (s : State) (o : Offered) : QueueFrame s (s.refuseOwn o) :=
  (countRefused_frame s).trans (ownerNotSent_frame _ _ _)

theorem mergeOwn_frame (s : State) (o : Offered) (e : QEntry) : QueueFrame s (s.mergeOwn o e) :=
  (setQueue_frame s _).trans (ownerAccepted_frame _ _ _)

theorem deferOwn_frame (s : State) (o : Offered) (g : Group) : QueueFrame s (s.deferOwn o g) := by
  unfold State.deferOwn
  dsimp only
  split
  · exact (setCau_frame s _).trans (tallyPlace_frame _ _ _)
  · exact setCau_frame s _

theorem placeOwn_frame (s : State) (o : Offered) : QueueFrame s (s.placeOwn o) := by
  unfold State.placeOwn
  split
  · exact acceptOwn_frame s o
  · split
    · exact (displace_frame s _).trans (acceptOwn_frame _ _)
    · exact refuseOwn_frame s o

theorem offerOwnQ_frame (s : State) (o : Offered) : QueueFrame s (s.offerOwnQ o) := by
  unfold State.offerOwnQ
  split
  · exact .refl s
  · split
    · exact placeOwn_frame s o
    · split
      · exact mergeOwn_frame s o _
      · split
        · split
          · exact deferOwn_frame s o _
          · exact placeOwn_frame s o
        · exact placeOwn_frame s o

theorem offerRefQ_frame (s : State) (r : OwnRef) : QueueFrame s (s.offerRefQ r) := by
  unfold State.offerRefQ
  split
  · exact offerOwnQ_frame s _
  · exact .refl s

theorem reofferQ_frame (s : State) (r : OwnRef) : QueueFrame s (s.reofferQ r) := by
  unfold State.reofferQ
  split
  · exact offerOwnQ_frame s _
  · exact .refl s

theorem reofferAll_frame (after : State → State) (h : ∀ s, QueueFrame s (after s)) (n : Nat) (l : List (Nat × OwnRef))
    (s : State) : QueueFrame s (reofferAll after n l s) := by
  induction n generalizing l s with
  | zero => exact .refl s
  | succ n ih =>
    unfold reofferAll
    split
    · exact .refl s
    · exact (nextDraw_frame s).trans ((reofferQ_frame _ _).trans ((h _).trans (ih _ _)))

theorem spaceThen_frame (after : State → State) (h : ∀ s, QueueFrame s (after s)) (s : State) :
    QueueFrame s (s.spaceThen after) := by
  unfold State.spaceThen
  split
  · exact reofferAll_frame after h _ _ s
  · exact .refl s

/-- When a head may be keyed (R22, R23, R29). -/
theorem mayKey_iff (s : State) (e : QEntry) : s.mayKey e = true ↔ s.clearFor e.cls := by
  cases hc : s.pins.cd <;> cases hi : s.cau.idleRef <;> cases hb : s.cau.blocked <;> by_cases h0 : e.cls = 0 <;>
    simp [State.mayKey, State.clearFor, State.idleTime, guardTime, hc, hi, hb, h0, ms]
  all_goals omega

/-- Keying puts the entry on air for its airtime (R2, R25, R32). -/
theorem startTx_eq (s : State) (a b : QEntry) : s.startTx a b = s.airing b (s.cau.queue.erase a) := by
  by_cases h : s.rru.rx = .taking <;>
    simp [State.startTx, State.truncate, State.airing, State.setRru, State.setCau, Frame.airtime, bitPeriod, h]

/-- A draw is a wait of 1 or 2 slots against a class-0 head, and of 1..W otherwise (R24). -/
theorem drawBackoff_cases (s : State) (e : QEntry) (h : s.cau.windowLaw) :
    ∃ slots, 1 ≤ slots ∧ slots ≤ (if e.cls = 0 then 2 else s.cau.w)
      ∧ s.drawBackoff e = s.backingOff s.cau.queue slots := by
  have hm : 1 ≤ s.cau.w := by
    have : s.cau.w ∈ [4, 8, 16, 32, 64] := h
    simp at this; omega
  have range : ∀ hi, 1 ≤ hi → 1 ≤ s.randomIn 1 hi ∧ s.randomIn 1 hi ≤ hi := fun hi hh => by
    have := Nat.mod_lt (Config.free s.draws) (show 0 < hi + 1 - 1 by omega)
    simp only [State.randomIn]; omega
  refine ⟨s.randomIn 1 (if e.cls = 0 then 2 else s.cau.w), ?_, ?_, ?_⟩
  · exact (range _ (by split <;> omega)).1
  · exact (range _ (by split <;> omega)).2
  · simp [State.drawBackoff, State.backingOff, State.nextDraw, State.setCau]

theorem drawBackoff_frame (s : State) (e : QEntry) : QueueFrame s (s.drawBackoff e) :=
  (nextDraw_frame s).trans (setCau_frame _ _)

theorem truncate_frame (s : State) : QueueFrame s s.truncate := by
  unfold State.truncate
  split
  · exact setRru_frame s _ rfl rfl rfl (.refl _) rfl
  · exact .refl s

theorem startTx_frame (s : State) (a b : QEntry) : QueueFrame s (s.startTx a b) :=
  (truncate_frame s).trans
    ((setRru_frame _ { s.truncate.rru with rx := .idle } rfl rfl rfl (.refl _) rfl).trans (setCau_frame _ _))

theorem decideHead_frame (n : Nat) (failed : Bool) (s : State) : QueueFrame s (decideHead n failed s) := by
  induction n generalizing failed s with
  | zero => exact .refl s
  | succ n ih =>
    unfold decideHead
    split
    · exact setCau_frame s _
    · split
      · split
        · exact startTx_frame s _ _
        · exact (setQueue_frame s _).trans
            ((relayNotSent_frame _ _).trans ((spaceThen_frame id .refl _).trans (ih _ _)))
      · split
        · exact (setCau_frame s _).trans (drawBackoff_frame _ _)
        · exact drawBackoff_frame s _

theorem decide_frame (s : State) (failed : Bool) : QueueFrame s (s.decide failed) := decideHead_frame _ _ _

theorem kick_frame (s : State) : QueueFrame s s.kick := by
  unfold State.kick
  split
  · exact .refl s
  · split
    · exact .refl s
    · exact decide_frame s _
    · split
      · exact decide_frame s _
      · exact .refl s

/-- What offering a frame can do to the rest of the part (R15 to R29). -/
theorem offer_frame (s : State) (r : OwnRef) : QueueFrame s (s.offer r) := (offerRefQ_frame s r).trans (kick_frame _)

theorem space_frame (s : State) : QueueFrame s s.space := spaceThen_frame _ kick_frame s

/-- What a removal can do to the rest of the part (R20, R21). -/
theorem removeOwn_frame (s : State) (r : OwnRef) : QueueFrame s (s.removeOwn r) := by
  unfold State.removeOwn
  split
  · exact (setCau_frame s _).trans (space_frame _)
  · exact .refl s

theorem removeRelay_frame (s : State) (k : FrameKey) : QueueFrame s (s.removeRelay k) := by
  unfold State.removeRelay
  split
  · exact (setQueue_frame s _).trans (space_frame _)
  · exact .refl s

theorem acceptRelay_frame (s : State) (f : Frame) (t : Nat) : QueueFrame s (s.acceptRelay f t) :=
  (setQueue_frame s _).trans (setRru_frame _ _ rfl rfl rfl (by
    have h := cache_marks s.rru.cache (fun c => c.key == f.key) .queued
    exact h ▸ List.Sublist.refl _) rfl)

/-- What offering a relayed copy can do to the rest of the part (R44). -/
theorem offerRelay_frame (s : State) (f : Frame) (t : Nat) : QueueFrame s (s.offerRelay f t) := by
  unfold State.offerRelay
  split
  · exact (acceptRelay_frame s f t).trans (kick_frame _)
  · split
    · exact (displace_frame s _).trans ((acceptRelay_frame _ f t).trans (kick_frame _))
    · exact relayNotSent_frame s _

theorem removeClaims_frame (s : State) (ks : List JobKey) : QueueFrame s (s.removeClaims ks) := by
  induction ks generalizing s with
  | nil => exact .refl s
  | cons k ks ih => exact (removeOwn_frame s _).trans (ih _)

theorem offerDeferred_frame (s : State) (g : Group) : QueueFrame s (s.offerDeferred g) := by
  unfold State.offerDeferred
  split
  · exact (setCau_frame s _).trans (offerOwnQ_frame _ _)
  · exact .refl s

/-- A new receipt is offered to the queue (R149). -/
theorem sendReceipt_frame (s : State) (k : ReceiptKind) (d i : Nat) : QueueFrame s (s.sendReceipt k d i) :=
  offer_frame s _

end Sys2Proof.Machine
end

