-- ==== Sys2Proof/Laws/Avail.lean ====
section
/-! SUPPORT. What a recomputation of the availability can do to the rest of the part. -/

namespace Sys2Proof.Machine

theorem AvailFrame.refl (s : State) : AvailFrame s s := by
  constructor <;> first | rfl | exact id

theorem AvailFrame.trans {s t u : State} (h : AvailFrame s t) (k : AvailFrame t u) : AvailFrame s u where
  now := k.now.trans h.now
  powered := k.powered.trans h.powered
  storeLost := k.storeLost.trans h.storeLost
  pins := k.pins.trans h.pins
  ppu := by rw [k.ppu, h.ppu]
  fre := by rw [k.fre, h.fre]
  emu := k.emu.trans h.emu
  cpt := k.cpt.trans h.cpt
  pending := k.pending.trans h.pending
  ret := by rw [k.ret, h.ret]
  store := fun g => k.store (h.store g)
  board := k.board.trans h.board
  boardFull := k.boardFull.trans h.boardFull
  inbox := k.inbox.trans h.inbox
  outbox := k.outbox.trans h.outbox
  holds := k.holds.trans h.holds
  clash := k.clash.trans h.clash
  sync := k.sync.trans h.sync
  cache := k.cache.trans h.cache
  stats := k.stats.trans h.stats
  tally := k.tally.trans h.tally
  shiftTick := k.shiftTick.trans h.shiftTick

/-- The calm form depends on an entry only up to its marks. -/
theorem BoardEntry.calm_unmark (e : BoardEntry) : e.unmark.calm = e.calm := rfl

/-- A queue operation is one of them. -/
theorem QueueFrame.toAvail {s t : State} (h : QueueFrame s t) : AvailFrame s t where
  now := h.now
  powered := h.powered
  storeLost := h.storeLost
  pins := h.pins
  ppu := by rw [h.ppu]
  fre := by rw [h.fre]
  emu := h.emu
  cpt := h.cpt
  pending := h.pending
  ret := h.ret
  store := h.store
  board := by
    have := congrArg (List.map (Option.map BoardEntry.calm)) h.board
    simpa only [List.map_map, Option.map_comp_map, Function.comp_def, Option.map_map, BoardEntry.calm_unmark] using this
  boardFull := h.boardFull
  inbox := h.inbox
  outbox := h.outbox
  holds := h.holds
  clash := h.clash
  sync := h.sync
  cache := h.cache
  stats := h.stats
  tally := h.tally
  shiftTick := h.shiftTick

/-- R78 changes no entry beyond its calm form. -/
theorem BoardEntry.calm_toWatch (e : BoardEntry) (r : Reason) : (e.toWatch r).calm = e.calm := by
  cases h : e.state <;> simp [BoardEntry.toWatch, BoardEntry.calm, BoardEntry.unmark, OfferState.calm, h]

theorem mapBoard_frame (s : State) (f : BoardEntry → BoardEntry) (h : ∀ e, (f e).calm = e.calm) :
    AvailFrame s (s.mapBoard f) := by
  constructor <;> first | rfl | exact id | exact List.Sublist.refl _ | skip
  simp [State.mapBoard, Option.map_map, Function.comp_def, h]

theorem convertBoard_frame (s : State) (r : Reason) : AvailFrame s (s.convertBoard r) :=
  (mapBoard_frame s _ (fun e => e.calm_toWatch r)).trans (removeClaims_frame _ _).toAvail

theorem setBoardAvail_frame (s : State) (a : Option Avail) : AvailFrame s (s.setOfb { s.ofb with avail := a }) := by
  constructor <;> first | rfl | exact id

theorem boardAvail_frame (s : State) (a : Avail) : AvailFrame s (s.boardAvail a) := by
  unfold State.boardAvail
  dsimp only
  split
  · exact (setBoardAvail_frame s _).trans (convertBoard_frame _ _)
  · exact setBoardAvail_frame s _

theorem ppuAvail_frame (s : State) (a : Avail) : AvailFrame s (s.ppuAvail a) := by
  constructor <;> first | rfl | exact id

/-- What a recomputation of the availability can do to the rest of the part (R110). -/
theorem recompute_frame (s : State) : AvailFrame s s.recompute := by
  have h (a) : AvailFrame s (s.setFre { s.fre with avail := a }) := by
    constructor <;> first | rfl | exact id
  unfold State.recompute
  dsimp only
  split
  · exact .refl s
  · exact (h _).trans ((boardAvail_frame _ _).trans (ppuAvail_frame _ _))

/-- The board holds the availability it was notified of (R78). -/
theorem boardAvail_avail (s : State) (a : Avail) : (s.boardAvail a).ofb.avail = some a := by
  unfold State.boardAvail State.convertBoard
  dsimp only
  split
  · exact (removeClaims_frame _ _).boardAvail
  · rfl

/-- After a recomputation the availability held is the one its inputs give, and the board and the PPU have been
notified of it if they had been of the one before (R110). -/
theorem recompute_avail (s : State) (ho : s.ofb.avail = s.fre.avail) (hp : s.ppu.avail = s.fre.avail) :
    s.recompute.fre.avail = some s.availNow ∧ s.recompute.ofb.avail = some s.availNow
      ∧ s.recompute.ppu.avail = some s.availNow := by
  unfold State.recompute
  dsimp only
  split
  · next h => simp_all
  · refine ⟨?_, boardAvail_avail _ _, rfl⟩
    show (((s.setFre _).boardAvail _).ppuAvail _).fre.avail = _
    have : ((s.setFre { s.fre with avail := some s.availNow }).boardAvail s.availNow).fre.avail = some s.availNow := by
      unfold State.boardAvail State.convertBoard
      dsimp only
      split
      · rw [(removeClaims_frame _ _).fre]; rfl
      · rfl
    exact this

end Sys2Proof.Machine
end

