-- ==== Sys2Proof/Laws/Bytes.lean ====
section
/-! SUPPORT. Fields as bytes: what is written is read back, and how many bytes a field takes. -/

namespace Sys2Proof.Machine

@[simp] theorem put8_length (n : Nat) : (put8 n).length = 1 := rfl
@[simp] theorem put16_length (n : Nat) : (put16 n).length = 2 := rfl
@[simp] theorem put32_length (n : Nat) : (put32 n).length = 4 := rfl
@[simp] theorem putFlags_length (l : List Bool) : (putFlags l).length = 1 := rfl
@[simp] theorem putPoint_length (p : Point) : (putPoint p).length = 4 := rfl
@[simp] theorem putKey_length (k : JobKey) : (putKey k).length = 4 := rfl
@[simp] theorem wordBytes_length (w : BitVec 16) : (wordBytes w).length = 2 := rfl

/-- Reading past a run of bytes reads what follows it. -/
theorem at8_append_right (a b : List Byte) (i : Nat) (h : a.length ≤ i) : at8 (a ++ b) i = at8 b (i - a.length) := by
  simp [at8, List.getElem?_append_right h]

/-- Reading inside a run of bytes does not see what follows it. -/
theorem at8_append_left (a b : List Byte) (i : Nat) (h : i < a.length) : at8 (a ++ b) i = at8 a i := by
  simp [at8, List.getElem?_append_left h]

/-- Reading after dropping a run of bytes. -/
theorem at8_drop (l : List Byte) (n i : Nat) : at8 (l.drop n) i = at8 l (n + i) := by
  simp [at8, List.getD_eq_getElem?_getD]

/-- A byte read is a byte. -/
theorem at8_lt (l : List Byte) (i : Nat) : at8 l i < 256 := (l.getD i 0).isLt

/-- A one-byte field reads back saturated (R6). -/
theorem at8_put8 (n : Nat) (l : List Byte) : at8 (put8 n ++ l) 0 = min n 255 := by
  simp only [at8, put8, List.cons_append, List.getD_cons_zero, BitVec.toNat_ofNat]
  omega

/-- A two-byte field reads back saturated, high byte first (R6). -/
theorem at16_put16 (n : Nat) (l : List Byte) : at16 (put16 n ++ l) 0 = min n 65535 := by
  simp only [at16, at8, put16, List.cons_append, List.getD_cons_zero, List.getD_cons_succ, BitVec.toNat_ofNat]
  omega

/-- A four-byte field reads back saturated, high byte first (R6). -/
theorem at32_put32 (n : Nat) (l : List Byte) : at32 (put32 n ++ l) 0 = min n 4294967295 := by
  simp only [at32, at16, at8, put32, List.cons_append, List.getD_cons_zero, List.getD_cons_succ, BitVec.toNat_ofNat]
  omega

/-- The two bytes of a parameter, read as the port reads them, are the parameter (R192). -/
theorem pw_wordBytes (w : BitVec 16) (l : List Byte) : pw (wordBytes w ++ l) 0 = w := by
  simp only [pw, pb, wordBytes, List.cons_append, List.getD_cons_zero, List.getD_cons_succ]
  apply BitVec.eq_of_getLsbD_eq
  intro i hi
  simp only [BitVec.getLsbD_append, BitVec.getLsbD_extractLsb']
  split
  · simp [*]
  · have h1 : i - 8 < 8 := by omega
    have h2 : 8 + (i - 8) = i := by omega
    simp [h1, h2]

/-- The two bytes of a parameter, read as a number (R192). -/
theorem at16_wordBytes (w : BitVec 16) (l : List Byte) : at16 (wordBytes w ++ l) 0 = w.toNat := by
  simp only [at16, at8, wordBytes, List.cons_append, List.getD_cons_zero, List.getD_cons_succ,
    BitVec.extractLsb'_toNat, Nat.shiftRight_eq_div_pow]
  have := w.isLt
  omega

/-- The printable characters are left as they are by R9. -/
theorem clampChar_of_printable (c : Byte) (h : printable c = true) : clampChar c = c := by
  simp [clampChar, h]

end Sys2Proof.Machine
end

