-- ==== Sys2Proof/Laws/Choice.lean ====
section
/-! SUPPORT. The slot that a full table gives up: what choosing by the least time answers, in the words of the statements. -/

namespace Sys2Proof.Machine

variable {α : Type}

/-- The occupied slots with their numbers are what the slots read. -/
theorem mem_slotList (l : List (Option α)) (k i : Nat) (x : α) :
    (i, x) ∈ slotList l k ↔ k ≤ i ∧ slotGet l (i - k) = some x := by
  induction l generalizing k with
  | nil => simp [slotList, slotGet]
  | cons a l ih =>
    rcases Nat.lt_trichotomy i k with h | rfl | h
    · cases a <;> simp [slotList, ih] <;> omega
    · cases a <;> simp [slotList, ih, slotGet, eq_comm]
    · have e : i - k = (i - (k + 1)) + 1 := by omega
      have g : slotGet (a :: l) (i - k) = slotGet l (i - (k + 1)) := by rw [e]; simp [slotGet]
      have e1 : i ≠ k := by omega
      cases a <;> simp [slotList, ih, g, e1] <;> intro _ <;> omega

/-- No slot is listed twice. -/
theorem slotList_nodup (l : List (Option α)) (k : Nat) : (slotList l k).Nodup := by
  induction l generalizing k with
  | nil => exact List.nodup_nil
  | cons a l ih =>
    cases a with
    | none => exact ih (k + 1)
    | some y =>
      refine List.nodup_cons.mpr ⟨fun h => ?_, ih (k + 1)⟩
      have := ((mem_slotList l (k + 1) k y).mp h).1
      omega

/-- A table without a candidate gives up no slot. -/
theorem pickLeast_noSlot (s : State) (l : List (Option α)) (p : α → Bool) (time : α → Nat)
    (h : noSlot l fun x => p x = true) :
    (s.pickLeast (fun x : Nat × α => time x.2) ((slotList l 0).filter fun x => p x.2)).map (·.1) = none := by
  have : ((slotList l 0).filter fun x => p x.2) = [] := by
    refine List.filter_eq_nil_iff.mpr fun x hx => ?_
    exact h x.1 x.2 (by simpa using ((mem_slotList l 0 x.1 x.2).mp hx).2)
  simp [this, State.pickLeast, leastBy]

/-- The candidate whose time is the earliest gives up its slot, whatever the free value. -/
theorem pickLeast_firstSlot (s : State) (l : List (Option α)) (p : α → Bool) (time : α → Nat) (slot : Nat)
    (h : firstSlot l (fun x => p x = true) time slot) :
    (s.pickLeast (fun x : Nat × α => time x.2) ((slotList l 0).filter fun x => p x.2)).map (·.1) = some slot := by
  obtain ⟨x, hx, hp, hmin⟩ := h
  have hmem (q : Nat × α) : q ∈ (slotList l 0).filter (fun x => p x.2) ↔ slotGet l q.1 = some q.2 ∧ p q.2 = true := by
    rw [List.mem_filter, show q = (q.1, q.2) from rfl, mem_slotList]
    simp
  have hle (q : Nat × α) (hq : q ∈ (slotList l 0).filter fun x => p x.2) : q = (slot, x) ∨ time x < time q.2 := by
    obtain ⟨hq, hpq⟩ := (hmem q).mp hq
    by_cases he : q.1 = slot
    · refine .inl (Prod.ext he ?_)
      simpa [he, hx, eq_comm] using hq
    · exact .inr (hmin q.1 q.2 he hq hpq)
  have hleast : leastBy (fun x : Nat × α => time x.2) ((slotList l 0).filter fun x => p x.2) = [(slot, x)] := by
    have hnd := ((slotList_nodup l 0).filter fun x => p x.2).filter
      fun x => ((slotList l 0).filter fun x => p x.2).all fun y => decide (time x.2 ≤ time y.2)
    have heq (q : Nat × α) : q ∈ leastBy (fun x : Nat × α => time x.2) ((slotList l 0).filter fun x => p x.2)
        ↔ q = (slot, x) := by
      refine ⟨fun hq => ?_, ?_⟩
      · obtain ⟨hq, hall⟩ := List.mem_filter.mp hq
        refine (hle q hq).resolve_right fun hlt => ?_
        have := List.all_eq_true.mp hall (slot, x) ((hmem _).mpr ⟨hx, hp⟩)
        simp only [decide_eq_true_eq] at this
        omega
      · rintro rfl
        refine List.mem_filter.mpr ⟨(hmem _).mpr ⟨hx, hp⟩, List.all_eq_true.mpr fun y hy => ?_⟩
        rcases hle y hy with rfl | h
        · simp
        · simpa using Nat.le_of_lt h
    exact List.perm_singleton.mp ((List.perm_ext_iff_of_nodup hnd (List.nodup_singleton _)).mpr fun q => (heq q).trans List.mem_singleton.symm)
  simp [State.pickLeast, hleast]

end Sys2Proof.Machine
end

