-- ==== Sys2Proof/Laws/Ops.lean ====
section
/-! SUPPORT. One lemma per field for the named writes built on the block updates, and what running a command on the port does. -/

namespace Sys2Proof.Machine

variable (s : State)

@[simp] theorem State.raiseEvent_now (k : EventKind) (a b : Nat) : (s.raiseEvent k a b).now = s.now := rfl
@[simp] theorem State.raiseEvent_draws (k : EventKind) (a b : Nat) : (s.raiseEvent k a b).draws = s.draws := rfl
@[simp] theorem State.raiseEvent_powered (k : EventKind) (a b : Nat) : (s.raiseEvent k a b).powered = s.powered := rfl
@[simp] theorem State.raiseEvent_storeLost (k : EventKind) (a b : Nat) : (s.raiseEvent k a b).storeLost =
    s.storeLost := rfl
@[simp] theorem State.raiseEvent_ret (k : EventKind) (a b : Nat) : (s.raiseEvent k a b).ret = s.ret := rfl
@[simp] theorem State.raiseEvent_check (k : EventKind) (a b : Nat) : (s.raiseEvent k a b).check = s.check := rfl
@[simp] theorem State.raiseEvent_pins (k : EventKind) (a b : Nat) : (s.raiseEvent k a b).pins = s.pins := rfl
@[simp] theorem State.raiseEvent_cau (k : EventKind) (a b : Nat) : (s.raiseEvent k a b).cau = s.cau := rfl
@[simp] theorem State.raiseEvent_rru (k : EventKind) (a b : Nat) : (s.raiseEvent k a b).rru = s.rru := rfl
@[simp] theorem State.raiseEvent_ppu (k : EventKind) (a b : Nat) : (s.raiseEvent k a b).ppu = s.ppu := rfl
@[simp] theorem State.raiseEvent_ofb (k : EventKind) (a b : Nat) : (s.raiseEvent k a b).ofb = s.ofb := rfl
@[simp] theorem State.raiseEvent_fre (k : EventKind) (a b : Nat) : (s.raiseEvent k a b).fre = s.fre := rfl
@[simp] theorem State.raiseEvent_ttl (k : EventKind) (a b : Nat) : (s.raiseEvent k a b).ttl = s.ttl := rfl
@[simp] theorem State.raiseEvent_nts (k : EventKind) (a b : Nat) : (s.raiseEvent k a b).nts = s.nts := rfl
@[simp] theorem State.raiseEvent_emu (k : EventKind) (a b : Nat) : (s.raiseEvent k a b).emu = s.emu := rfl
@[simp] theorem State.raiseEvent_cpt (k : EventKind) (a b : Nat) : (s.raiseEvent k a b).cpt =
    { s.cpt with events := (raiseIn s.cpt.events s.cpt.overflow k a b).1, overflow := (raiseIn s.cpt.events s.cpt.overflow k a b).2 } := rfl
@[simp] theorem State.raiseEvent_pending (k : EventKind) (a b : Nat) : (s.raiseEvent k a b).pending = s.pending := rfl

@[simp] theorem State.setStats_now (u : Stats) : (s.setStats u).now = s.now := rfl
@[simp] theorem State.setStats_draws (u : Stats) : (s.setStats u).draws = s.draws := rfl
@[simp] theorem State.setStats_powered (u : Stats) : (s.setStats u).powered = s.powered := rfl
@[simp] theorem State.setStats_storeLost (u : Stats) : (s.setStats u).storeLost = s.storeLost := rfl
@[simp] theorem State.setStats_ret (u : Stats) : (s.setStats u).ret = s.ret := rfl
@[simp] theorem State.setStats_check (u : Stats) : (s.setStats u).check = s.check := rfl
@[simp] theorem State.setStats_pins (u : Stats) : (s.setStats u).pins = s.pins := rfl
@[simp] theorem State.setStats_cau (u : Stats) : (s.setStats u).cau = s.cau := rfl
@[simp] theorem State.setStats_rru (u : Stats) : (s.setStats u).rru = { s.rru with stats := u } := rfl
@[simp] theorem State.setStats_ppu (u : Stats) : (s.setStats u).ppu = s.ppu := rfl
@[simp] theorem State.setStats_ofb (u : Stats) : (s.setStats u).ofb = s.ofb := rfl
@[simp] theorem State.setStats_fre (u : Stats) : (s.setStats u).fre = s.fre := rfl
@[simp] theorem State.setStats_ttl (u : Stats) : (s.setStats u).ttl = s.ttl := rfl
@[simp] theorem State.setStats_nts (u : Stats) : (s.setStats u).nts = s.nts := rfl
@[simp] theorem State.setStats_emu (u : Stats) : (s.setStats u).emu = s.emu := rfl
@[simp] theorem State.setStats_cpt (u : Stats) : (s.setStats u).cpt = s.cpt := rfl
@[simp] theorem State.setStats_pending (u : Stats) : (s.setStats u).pending = s.pending := rfl

@[simp] theorem State.setQueue_now (q : List QEntry) : (s.setQueue q).now = s.now := rfl
@[simp] theorem State.setQueue_draws (q : List QEntry) : (s.setQueue q).draws = s.draws := rfl
@[simp] theorem State.setQueue_powered (q : List QEntry) : (s.setQueue q).powered = s.powered := rfl
@[simp] theorem State.setQueue_storeLost (q : List QEntry) : (s.setQueue q).storeLost = s.storeLost := rfl
@[simp] theorem State.setQueue_ret (q : List QEntry) : (s.setQueue q).ret = s.ret := rfl
@[simp] theorem State.setQueue_check (q : List QEntry) : (s.setQueue q).check = s.check := rfl
@[simp] theorem State.setQueue_pins (q : List QEntry) : (s.setQueue q).pins = s.pins := rfl
@[simp] theorem State.setQueue_cau (q : List QEntry) : (s.setQueue q).cau = { s.cau with queue := q } := rfl
@[simp] theorem State.setQueue_rru (q : List QEntry) : (s.setQueue q).rru = s.rru := rfl
@[simp] theorem State.setQueue_ppu (q : List QEntry) : (s.setQueue q).ppu = s.ppu := rfl
@[simp] theorem State.setQueue_ofb (q : List QEntry) : (s.setQueue q).ofb = s.ofb := rfl
@[simp] theorem State.setQueue_fre (q : List QEntry) : (s.setQueue q).fre = s.fre := rfl
@[simp] theorem State.setQueue_ttl (q : List QEntry) : (s.setQueue q).ttl = s.ttl := rfl
@[simp] theorem State.setQueue_nts (q : List QEntry) : (s.setQueue q).nts = s.nts := rfl
@[simp] theorem State.setQueue_emu (q : List QEntry) : (s.setQueue q).emu = s.emu := rfl
@[simp] theorem State.setQueue_cpt (q : List QEntry) : (s.setQueue q).cpt = s.cpt := rfl
@[simp] theorem State.setQueue_pending (q : List QEntry) : (s.setQueue q).pending = s.pending := rfl

@[simp] theorem State.putEntry_now (i : Nat) (e : BoardEntry) : (s.putEntry i e).now = s.now := rfl
@[simp] theorem State.putEntry_draws (i : Nat) (e : BoardEntry) : (s.putEntry i e).draws = s.draws := rfl
@[simp] theorem State.putEntry_powered (i : Nat) (e : BoardEntry) : (s.putEntry i e).powered = s.powered := rfl
@[simp] theorem State.putEntry_storeLost (i : Nat) (e : BoardEntry) : (s.putEntry i e).storeLost = s.storeLost := rfl
@[simp] theorem State.putEntry_ret (i : Nat) (e : BoardEntry) : (s.putEntry i e).ret = s.ret := rfl
@[simp] theorem State.putEntry_check (i : Nat) (e : BoardEntry) : (s.putEntry i e).check = s.check := rfl
@[simp] theorem State.putEntry_pins (i : Nat) (e : BoardEntry) : (s.putEntry i e).pins = s.pins := rfl
@[simp] theorem State.putEntry_cau (i : Nat) (e : BoardEntry) : (s.putEntry i e).cau = s.cau := rfl
@[simp] theorem State.putEntry_rru (i : Nat) (e : BoardEntry) : (s.putEntry i e).rru = s.rru := rfl
@[simp] theorem State.putEntry_ppu (i : Nat) (e : BoardEntry) : (s.putEntry i e).ppu = s.ppu := rfl
@[simp] theorem State.putEntry_ofb (i : Nat) (e : BoardEntry) : (s.putEntry i e).ofb =
    { s.ofb with slots := slotPut s.ofb.slots i e } := rfl
@[simp] theorem State.putEntry_fre (i : Nat) (e : BoardEntry) : (s.putEntry i e).fre = s.fre := rfl
@[simp] theorem State.putEntry_ttl (i : Nat) (e : BoardEntry) : (s.putEntry i e).ttl = s.ttl := rfl
@[simp] theorem State.putEntry_nts (i : Nat) (e : BoardEntry) : (s.putEntry i e).nts = s.nts := rfl
@[simp] theorem State.putEntry_emu (i : Nat) (e : BoardEntry) : (s.putEntry i e).emu = s.emu := rfl
@[simp] theorem State.putEntry_cpt (i : Nat) (e : BoardEntry) : (s.putEntry i e).cpt = s.cpt := rfl
@[simp] theorem State.putEntry_pending (i : Nat) (e : BoardEntry) : (s.putEntry i e).pending = s.pending := rfl

@[simp] theorem State.freeEntry_now (i : Nat) : (s.freeEntry i).now = s.now := rfl
@[simp] theorem State.freeEntry_draws (i : Nat) : (s.freeEntry i).draws = s.draws := rfl
@[simp] theorem State.freeEntry_powered (i : Nat) : (s.freeEntry i).powered = s.powered := rfl
@[simp] theorem State.freeEntry_storeLost (i : Nat) : (s.freeEntry i).storeLost = s.storeLost := rfl
@[simp] theorem State.freeEntry_ret (i : Nat) : (s.freeEntry i).ret = s.ret := rfl
@[simp] theorem State.freeEntry_check (i : Nat) : (s.freeEntry i).check = s.check := rfl
@[simp] theorem State.freeEntry_pins (i : Nat) : (s.freeEntry i).pins = s.pins := rfl
@[simp] theorem State.freeEntry_cau (i : Nat) : (s.freeEntry i).cau = s.cau := rfl
@[simp] theorem State.freeEntry_rru (i : Nat) : (s.freeEntry i).rru = s.rru := rfl
@[simp] theorem State.freeEntry_ppu (i : Nat) : (s.freeEntry i).ppu = s.ppu := rfl
@[simp] theorem State.freeEntry_ofb (i : Nat) : (s.freeEntry i).ofb =
    { s.ofb with slots := slotFree s.ofb.slots i } := rfl
@[simp] theorem State.freeEntry_fre (i : Nat) : (s.freeEntry i).fre = s.fre := rfl
@[simp] theorem State.freeEntry_ttl (i : Nat) : (s.freeEntry i).ttl = s.ttl := rfl
@[simp] theorem State.freeEntry_nts (i : Nat) : (s.freeEntry i).nts = s.nts := rfl
@[simp] theorem State.freeEntry_emu (i : Nat) : (s.freeEntry i).emu = s.emu := rfl
@[simp] theorem State.freeEntry_cpt (i : Nat) : (s.freeEntry i).cpt = s.cpt := rfl
@[simp] theorem State.freeEntry_pending (i : Nat) : (s.freeEntry i).pending = s.pending := rfl

@[simp] theorem State.putIn_now (i : Nat) (r : InNote) : (s.putIn i r).now = s.now := rfl
@[simp] theorem State.putIn_draws (i : Nat) (r : InNote) : (s.putIn i r).draws = s.draws := rfl
@[simp] theorem State.putIn_powered (i : Nat) (r : InNote) : (s.putIn i r).powered = s.powered := rfl
@[simp] theorem State.putIn_storeLost (i : Nat) (r : InNote) : (s.putIn i r).storeLost = s.storeLost := rfl
@[simp] theorem State.putIn_ret (i : Nat) (r : InNote) : (s.putIn i r).ret = s.ret := rfl
@[simp] theorem State.putIn_check (i : Nat) (r : InNote) : (s.putIn i r).check = s.check := rfl
@[simp] theorem State.putIn_pins (i : Nat) (r : InNote) : (s.putIn i r).pins = s.pins := rfl
@[simp] theorem State.putIn_cau (i : Nat) (r : InNote) : (s.putIn i r).cau = s.cau := rfl
@[simp] theorem State.putIn_rru (i : Nat) (r : InNote) : (s.putIn i r).rru = s.rru := rfl
@[simp] theorem State.putIn_ppu (i : Nat) (r : InNote) : (s.putIn i r).ppu = s.ppu := rfl
@[simp] theorem State.putIn_ofb (i : Nat) (r : InNote) : (s.putIn i r).ofb = s.ofb := rfl
@[simp] theorem State.putIn_fre (i : Nat) (r : InNote) : (s.putIn i r).fre = s.fre := rfl
@[simp] theorem State.putIn_ttl (i : Nat) (r : InNote) : (s.putIn i r).ttl = s.ttl := rfl
@[simp] theorem State.putIn_nts (i : Nat) (r : InNote) : (s.putIn i r).nts =
    { s.nts with inbox := slotPut s.nts.inbox i r } := rfl
@[simp] theorem State.putIn_emu (i : Nat) (r : InNote) : (s.putIn i r).emu = s.emu := rfl
@[simp] theorem State.putIn_cpt (i : Nat) (r : InNote) : (s.putIn i r).cpt = s.cpt := rfl
@[simp] theorem State.putIn_pending (i : Nat) (r : InNote) : (s.putIn i r).pending = s.pending := rfl

@[simp] theorem State.putOut_now (i : Nat) (r : OutNote) : (s.putOut i r).now = s.now := rfl
@[simp] theorem State.putOut_draws (i : Nat) (r : OutNote) : (s.putOut i r).draws = s.draws := rfl
@[simp] theorem State.putOut_powered (i : Nat) (r : OutNote) : (s.putOut i r).powered = s.powered := rfl
@[simp] theorem State.putOut_storeLost (i : Nat) (r : OutNote) : (s.putOut i r).storeLost = s.storeLost := rfl
@[simp] theorem State.putOut_ret (i : Nat) (r : OutNote) : (s.putOut i r).ret = s.ret := rfl
@[simp] theorem State.putOut_check (i : Nat) (r : OutNote) : (s.putOut i r).check = s.check := rfl
@[simp] theorem State.putOut_pins (i : Nat) (r : OutNote) : (s.putOut i r).pins = s.pins := rfl
@[simp] theorem State.putOut_cau (i : Nat) (r : OutNote) : (s.putOut i r).cau = s.cau := rfl
@[simp] theorem State.putOut_rru (i : Nat) (r : OutNote) : (s.putOut i r).rru = s.rru := rfl
@[simp] theorem State.putOut_ppu (i : Nat) (r : OutNote) : (s.putOut i r).ppu = s.ppu := rfl
@[simp] theorem State.putOut_ofb (i : Nat) (r : OutNote) : (s.putOut i r).ofb = s.ofb := rfl
@[simp] theorem State.putOut_fre (i : Nat) (r : OutNote) : (s.putOut i r).fre = s.fre := rfl
@[simp] theorem State.putOut_ttl (i : Nat) (r : OutNote) : (s.putOut i r).ttl = s.ttl := rfl
@[simp] theorem State.putOut_nts (i : Nat) (r : OutNote) : (s.putOut i r).nts =
    { s.nts with outbox := slotPut s.nts.outbox i r } := rfl
@[simp] theorem State.putOut_emu (i : Nat) (r : OutNote) : (s.putOut i r).emu = s.emu := rfl
@[simp] theorem State.putOut_cpt (i : Nat) (r : OutNote) : (s.putOut i r).cpt = s.cpt := rfl
@[simp] theorem State.putOut_pending (i : Nat) (r : OutNote) : (s.putOut i r).pending = s.pending := rfl

@[simp] theorem State.putPeer_now (i : Nat) (p : Peer) : (s.putPeer i p).now = s.now := rfl
@[simp] theorem State.putPeer_draws (i : Nat) (p : Peer) : (s.putPeer i p).draws = s.draws := rfl
@[simp] theorem State.putPeer_powered (i : Nat) (p : Peer) : (s.putPeer i p).powered = s.powered := rfl
@[simp] theorem State.putPeer_storeLost (i : Nat) (p : Peer) : (s.putPeer i p).storeLost = s.storeLost := rfl
@[simp] theorem State.putPeer_ret (i : Nat) (p : Peer) : (s.putPeer i p).ret = s.ret := rfl
@[simp] theorem State.putPeer_check (i : Nat) (p : Peer) : (s.putPeer i p).check = s.check := rfl
@[simp] theorem State.putPeer_pins (i : Nat) (p : Peer) : (s.putPeer i p).pins = s.pins := rfl
@[simp] theorem State.putPeer_cau (i : Nat) (p : Peer) : (s.putPeer i p).cau = s.cau := rfl
@[simp] theorem State.putPeer_rru (i : Nat) (p : Peer) : (s.putPeer i p).rru = s.rru := rfl
@[simp] theorem State.putPeer_ppu (i : Nat) (p : Peer) : (s.putPeer i p).ppu =
    { s.ppu with peers := slotPut s.ppu.peers i p } := rfl
@[simp] theorem State.putPeer_ofb (i : Nat) (p : Peer) : (s.putPeer i p).ofb = s.ofb := rfl
@[simp] theorem State.putPeer_fre (i : Nat) (p : Peer) : (s.putPeer i p).fre = s.fre := rfl
@[simp] theorem State.putPeer_ttl (i : Nat) (p : Peer) : (s.putPeer i p).ttl = s.ttl := rfl
@[simp] theorem State.putPeer_nts (i : Nat) (p : Peer) : (s.putPeer i p).nts = s.nts := rfl
@[simp] theorem State.putPeer_emu (i : Nat) (p : Peer) : (s.putPeer i p).emu = s.emu := rfl
@[simp] theorem State.putPeer_cpt (i : Nat) (p : Peer) : (s.putPeer i p).cpt = s.cpt := rfl
@[simp] theorem State.putPeer_pending (i : Nat) (p : Peer) : (s.putPeer i p).pending = s.pending := rfl

@[simp] theorem State.putAlarm_now (i : Nat) (a : AlarmEntry) : (s.putAlarm i a).now = s.now := rfl
@[simp] theorem State.putAlarm_draws (i : Nat) (a : AlarmEntry) : (s.putAlarm i a).draws = s.draws := rfl
@[simp] theorem State.putAlarm_powered (i : Nat) (a : AlarmEntry) : (s.putAlarm i a).powered = s.powered := rfl
@[simp] theorem State.putAlarm_storeLost (i : Nat) (a : AlarmEntry) : (s.putAlarm i a).storeLost = s.storeLost := rfl
@[simp] theorem State.putAlarm_ret (i : Nat) (a : AlarmEntry) : (s.putAlarm i a).ret = s.ret := rfl
@[simp] theorem State.putAlarm_check (i : Nat) (a : AlarmEntry) : (s.putAlarm i a).check = s.check := rfl
@[simp] theorem State.putAlarm_pins (i : Nat) (a : AlarmEntry) : (s.putAlarm i a).pins = s.pins := rfl
@[simp] theorem State.putAlarm_cau (i : Nat) (a : AlarmEntry) : (s.putAlarm i a).cau = s.cau := rfl
@[simp] theorem State.putAlarm_rru (i : Nat) (a : AlarmEntry) : (s.putAlarm i a).rru = s.rru := rfl
@[simp] theorem State.putAlarm_ppu (i : Nat) (a : AlarmEntry) : (s.putAlarm i a).ppu = s.ppu := rfl
@[simp] theorem State.putAlarm_ofb (i : Nat) (a : AlarmEntry) : (s.putAlarm i a).ofb = s.ofb := rfl
@[simp] theorem State.putAlarm_fre (i : Nat) (a : AlarmEntry) : (s.putAlarm i a).fre = s.fre := rfl
@[simp] theorem State.putAlarm_ttl (i : Nat) (a : AlarmEntry) : (s.putAlarm i a).ttl = s.ttl := rfl
@[simp] theorem State.putAlarm_nts (i : Nat) (a : AlarmEntry) : (s.putAlarm i a).nts = s.nts := rfl
@[simp] theorem State.putAlarm_emu (i : Nat) (a : AlarmEntry) : (s.putAlarm i a).emu =
    { s.emu with table := slotPut s.emu.table i a } := rfl
@[simp] theorem State.putAlarm_cpt (i : Nat) (a : AlarmEntry) : (s.putAlarm i a).cpt = s.cpt := rfl
@[simp] theorem State.putAlarm_pending (i : Nat) (a : AlarmEntry) : (s.putAlarm i a).pending = s.pending := rfl

@[simp] theorem State.freeAlarm_now (i : Nat) : (s.freeAlarm i).now = s.now := rfl
@[simp] theorem State.freeAlarm_draws (i : Nat) : (s.freeAlarm i).draws = s.draws := rfl
@[simp] theorem State.freeAlarm_powered (i : Nat) : (s.freeAlarm i).powered = s.powered := rfl
@[simp] theorem State.freeAlarm_storeLost (i : Nat) : (s.freeAlarm i).storeLost = s.storeLost := rfl
@[simp] theorem State.freeAlarm_ret (i : Nat) : (s.freeAlarm i).ret = s.ret := rfl
@[simp] theorem State.freeAlarm_check (i : Nat) : (s.freeAlarm i).check = s.check := rfl
@[simp] theorem State.freeAlarm_pins (i : Nat) : (s.freeAlarm i).pins = s.pins := rfl
@[simp] theorem State.freeAlarm_cau (i : Nat) : (s.freeAlarm i).cau = s.cau := rfl
@[simp] theorem State.freeAlarm_rru (i : Nat) : (s.freeAlarm i).rru = s.rru := rfl
@[simp] theorem State.freeAlarm_ppu (i : Nat) : (s.freeAlarm i).ppu = s.ppu := rfl
@[simp] theorem State.freeAlarm_ofb (i : Nat) : (s.freeAlarm i).ofb = s.ofb := rfl
@[simp] theorem State.freeAlarm_fre (i : Nat) : (s.freeAlarm i).fre = s.fre := rfl
@[simp] theorem State.freeAlarm_ttl (i : Nat) : (s.freeAlarm i).ttl = s.ttl := rfl
@[simp] theorem State.freeAlarm_nts (i : Nat) : (s.freeAlarm i).nts = s.nts := rfl
@[simp] theorem State.freeAlarm_emu (i : Nat) : (s.freeAlarm i).emu =
    { s.emu with table := slotFree s.emu.table i } := rfl
@[simp] theorem State.freeAlarm_cpt (i : Nat) : (s.freeAlarm i).cpt = s.cpt := rfl
@[simp] theorem State.freeAlarm_pending (i : Nat) : (s.freeAlarm i).pending = s.pending := rfl

@[simp] theorem State.setTrip_now (t : Trip) : (s.setTrip t).now = s.now := rfl
@[simp] theorem State.setTrip_draws (t : Trip) : (s.setTrip t).draws = s.draws := rfl
@[simp] theorem State.setTrip_powered (t : Trip) : (s.setTrip t).powered = s.powered := rfl
@[simp] theorem State.setTrip_storeLost (t : Trip) : (s.setTrip t).storeLost = s.storeLost := rfl
@[simp] theorem State.setTrip_ret (t : Trip) : (s.setTrip t).ret = { s.ret with trip := some t } := rfl
@[simp] theorem State.setTrip_check (t : Trip) : (s.setTrip t).check = storeCheck { s.ret with trip := some t } := rfl
@[simp] theorem State.setTrip_pins (t : Trip) : (s.setTrip t).pins = s.pins := rfl
@[simp] theorem State.setTrip_cau (t : Trip) : (s.setTrip t).cau = s.cau := rfl
@[simp] theorem State.setTrip_rru (t : Trip) : (s.setTrip t).rru = s.rru := rfl
@[simp] theorem State.setTrip_ppu (t : Trip) : (s.setTrip t).ppu = s.ppu := rfl
@[simp] theorem State.setTrip_ofb (t : Trip) : (s.setTrip t).ofb = s.ofb := rfl
@[simp] theorem State.setTrip_fre (t : Trip) : (s.setTrip t).fre = s.fre := rfl
@[simp] theorem State.setTrip_ttl (t : Trip) : (s.setTrip t).ttl = s.ttl := rfl
@[simp] theorem State.setTrip_nts (t : Trip) : (s.setTrip t).nts = s.nts := rfl
@[simp] theorem State.setTrip_emu (t : Trip) : (s.setTrip t).emu = s.emu := rfl
@[simp] theorem State.setTrip_cpt (t : Trip) : (s.setTrip t).cpt = s.cpt := rfl
@[simp] theorem State.setTrip_pending (t : Trip) : (s.setTrip t).pending = s.pending := rfl

@[simp] theorem State.setAlarm_now (a : AlarmState) (c : Bool) : (s.setAlarm a c).now = s.now := rfl
@[simp] theorem State.setAlarm_draws (a : AlarmState) (c : Bool) : (s.setAlarm a c).draws = s.draws := rfl
@[simp] theorem State.setAlarm_powered (a : AlarmState) (c : Bool) : (s.setAlarm a c).powered = s.powered := rfl
@[simp] theorem State.setAlarm_storeLost (a : AlarmState) (c : Bool) : (s.setAlarm a c).storeLost = s.storeLost := rfl
@[simp] theorem State.setAlarm_ret (a : AlarmState) (c : Bool) : (s.setAlarm a c).ret =
    { s.ret with alarm := a, covert := c } := rfl
@[simp] theorem State.setAlarm_check (a : AlarmState) (c : Bool) : (s.setAlarm a c).check =
    storeCheck { s.ret with alarm := a, covert := c } := rfl
@[simp] theorem State.setAlarm_pins (a : AlarmState) (c : Bool) : (s.setAlarm a c).pins = s.pins := rfl
@[simp] theorem State.setAlarm_cau (a : AlarmState) (c : Bool) : (s.setAlarm a c).cau = s.cau := rfl
@[simp] theorem State.setAlarm_rru (a : AlarmState) (c : Bool) : (s.setAlarm a c).rru = s.rru := rfl
@[simp] theorem State.setAlarm_ppu (a : AlarmState) (c : Bool) : (s.setAlarm a c).ppu = s.ppu := rfl
@[simp] theorem State.setAlarm_ofb (a : AlarmState) (c : Bool) : (s.setAlarm a c).ofb = s.ofb := rfl
@[simp] theorem State.setAlarm_fre (a : AlarmState) (c : Bool) : (s.setAlarm a c).fre = s.fre := rfl
@[simp] theorem State.setAlarm_ttl (a : AlarmState) (c : Bool) : (s.setAlarm a c).ttl = s.ttl := rfl
@[simp] theorem State.setAlarm_nts (a : AlarmState) (c : Bool) : (s.setAlarm a c).nts = s.nts := rfl
@[simp] theorem State.setAlarm_emu (a : AlarmState) (c : Bool) : (s.setAlarm a c).emu = s.emu := rfl
@[simp] theorem State.setAlarm_cpt (a : AlarmState) (c : Bool) : (s.setAlarm a c).cpt = s.cpt := rfl
@[simp] theorem State.setAlarm_pending (a : AlarmState) (c : Bool) : (s.setAlarm a c).pending = s.pending := rfl

@[simp] theorem State.startSecond_now : (s.startSecond).now = s.now := rfl
@[simp] theorem State.startSecond_draws : (s.startSecond).draws = s.draws := rfl
@[simp] theorem State.startSecond_powered : (s.startSecond).powered = s.powered := rfl
@[simp] theorem State.startSecond_storeLost : (s.startSecond).storeLost = s.storeLost := rfl
@[simp] theorem State.startSecond_ret : (s.startSecond).ret = s.ret := rfl
@[simp] theorem State.startSecond_check : (s.startSecond).check = s.check := rfl
@[simp] theorem State.startSecond_pins : (s.startSecond).pins = s.pins := rfl
@[simp] theorem State.startSecond_cau : (s.startSecond).cau = s.cau := rfl
@[simp] theorem State.startSecond_rru : (s.startSecond).rru = s.rru := rfl
@[simp] theorem State.startSecond_ppu : (s.startSecond).ppu = s.ppu := rfl
@[simp] theorem State.startSecond_ofb : (s.startSecond).ofb = s.ofb := rfl
@[simp] theorem State.startSecond_fre : (s.startSecond).fre =
    { s.fre with secondAt := some (s.now + 1000 * ms) } := rfl
@[simp] theorem State.startSecond_ttl : (s.startSecond).ttl = s.ttl := rfl
@[simp] theorem State.startSecond_nts : (s.startSecond).nts = s.nts := rfl
@[simp] theorem State.startSecond_emu : (s.startSecond).emu = s.emu := rfl
@[simp] theorem State.startSecond_cpt : (s.startSecond).cpt = s.cpt := rfl
@[simp] theorem State.startSecond_pending : (s.startSecond).pending = s.pending := rfl

@[simp] theorem State.stopSecond_now : (s.stopSecond).now = s.now := rfl
@[simp] theorem State.stopSecond_draws : (s.stopSecond).draws = s.draws := rfl
@[simp] theorem State.stopSecond_powered : (s.stopSecond).powered = s.powered := rfl
@[simp] theorem State.stopSecond_storeLost : (s.stopSecond).storeLost = s.storeLost := rfl
@[simp] theorem State.stopSecond_ret : (s.stopSecond).ret = s.ret := rfl
@[simp] theorem State.stopSecond_check : (s.stopSecond).check = s.check := rfl
@[simp] theorem State.stopSecond_pins : (s.stopSecond).pins = s.pins := rfl
@[simp] theorem State.stopSecond_cau : (s.stopSecond).cau = s.cau := rfl
@[simp] theorem State.stopSecond_rru : (s.stopSecond).rru = s.rru := rfl
@[simp] theorem State.stopSecond_ppu : (s.stopSecond).ppu = s.ppu := rfl
@[simp] theorem State.stopSecond_ofb : (s.stopSecond).ofb = s.ofb := rfl
@[simp] theorem State.stopSecond_fre : (s.stopSecond).fre = { s.fre with secondAt := none } := rfl
@[simp] theorem State.stopSecond_ttl : (s.stopSecond).ttl = s.ttl := rfl
@[simp] theorem State.stopSecond_nts : (s.stopSecond).nts = s.nts := rfl
@[simp] theorem State.stopSecond_emu : (s.stopSecond).emu = s.emu := rfl
@[simp] theorem State.stopSecond_cpt : (s.stopSecond).cpt = s.cpt := rfl
@[simp] theorem State.stopSecond_pending : (s.stopSecond).pending = s.pending := rfl

@[simp] theorem State.setCsn_now (low : Bool) : (s.setCsn low).now = s.now := rfl
@[simp] theorem State.setCsn_draws (low : Bool) : (s.setCsn low).draws = s.draws := rfl
@[simp] theorem State.setCsn_powered (low : Bool) : (s.setCsn low).powered = s.powered := rfl
@[simp] theorem State.setCsn_storeLost (low : Bool) : (s.setCsn low).storeLost = s.storeLost := rfl
@[simp] theorem State.setCsn_ret (low : Bool) : (s.setCsn low).ret = s.ret := rfl
@[simp] theorem State.setCsn_check (low : Bool) : (s.setCsn low).check = s.check := rfl
@[simp] theorem State.setCsn_pins (low : Bool) : (s.setCsn low).pins =
    { s.pins with csnLow := low } := rfl
@[simp] theorem State.setCsn_cau (low : Bool) : (s.setCsn low).cau = s.cau := rfl
@[simp] theorem State.setCsn_rru (low : Bool) : (s.setCsn low).rru = s.rru := rfl
@[simp] theorem State.setCsn_ppu (low : Bool) : (s.setCsn low).ppu = s.ppu := rfl
@[simp] theorem State.setCsn_ofb (low : Bool) : (s.setCsn low).ofb = s.ofb := rfl
@[simp] theorem State.setCsn_fre (low : Bool) : (s.setCsn low).fre = s.fre := rfl
@[simp] theorem State.setCsn_ttl (low : Bool) : (s.setCsn low).ttl = s.ttl := rfl
@[simp] theorem State.setCsn_nts (low : Bool) : (s.setCsn low).nts = s.nts := rfl
@[simp] theorem State.setCsn_emu (low : Bool) : (s.setCsn low).emu = s.emu := rfl
@[simp] theorem State.setCsn_cpt (low : Bool) : (s.setCsn low).cpt = s.cpt := rfl
@[simp] theorem State.setCsn_pending (low : Bool) : (s.setCsn low).pending = s.pending := rfl

@[simp] theorem State.csnRise_now : (s.csnRise).now = s.now := rfl
@[simp] theorem State.csnRise_draws : (s.csnRise).draws = s.draws := rfl
@[simp] theorem State.csnRise_powered : (s.csnRise).powered = s.powered := rfl
@[simp] theorem State.csnRise_storeLost : (s.csnRise).storeLost = s.storeLost := rfl
@[simp] theorem State.csnRise_ret : (s.csnRise).ret = s.ret := rfl
@[simp] theorem State.csnRise_check : (s.csnRise).check = s.check := rfl
@[simp] theorem State.csnRise_pins : (s.csnRise).pins =
    { s.pins with csnLow := false } := rfl
@[simp] theorem State.csnRise_cau : (s.csnRise).cau = s.cau := rfl
@[simp] theorem State.csnRise_rru : (s.csnRise).rru = s.rru := rfl
@[simp] theorem State.csnRise_ppu : (s.csnRise).ppu = s.ppu := rfl
@[simp] theorem State.csnRise_ofb : (s.csnRise).ofb = s.ofb := rfl
@[simp] theorem State.csnRise_fre : (s.csnRise).fre = s.fre := rfl
@[simp] theorem State.csnRise_ttl : (s.csnRise).ttl = s.ttl := rfl
@[simp] theorem State.csnRise_nts : (s.csnRise).nts = s.nts := rfl
@[simp] theorem State.csnRise_emu : (s.csnRise).emu = s.emu := rfl
@[simp] theorem State.csnRise_cpt : (s.csnRise).cpt =
    { s.cpt with muted := .off } := rfl
@[simp] theorem State.csnRise_pending : (s.csnRise).pending = s.pending := rfl
@[simp] theorem State.csnRise_sdoPin : s.csnRise.sdoPin = none := by simp [State.sdoPin]
@[simp] theorem State.afterByte_true : s.afterByte true = s.csnRise := rfl
@[simp] theorem State.afterByte_false : s.afterByte false = s := rfl

@[simp] theorem State.panicPin_now (low : Bool) : (s.panicPin low).now = s.now := rfl
@[simp] theorem State.panicPin_draws (low : Bool) : (s.panicPin low).draws = s.draws := rfl
@[simp] theorem State.panicPin_powered (low : Bool) : (s.panicPin low).powered = s.powered := rfl
@[simp] theorem State.panicPin_storeLost (low : Bool) : (s.panicPin low).storeLost = s.storeLost := rfl
@[simp] theorem State.panicPin_ret (low : Bool) : (s.panicPin low).ret = s.ret := rfl
@[simp] theorem State.panicPin_check (low : Bool) : (s.panicPin low).check = s.check := rfl
@[simp] theorem State.panicPin_pins (low : Bool) : (s.panicPin low).pins =
    { s.pins with panicLow := low } := rfl
@[simp] theorem State.panicPin_cau (low : Bool) : (s.panicPin low).cau = s.cau := rfl
@[simp] theorem State.panicPin_rru (low : Bool) : (s.panicPin low).rru = s.rru := rfl
@[simp] theorem State.panicPin_ppu (low : Bool) : (s.panicPin low).ppu = s.ppu := rfl
@[simp] theorem State.panicPin_ofb (low : Bool) : (s.panicPin low).ofb = s.ofb := rfl
@[simp] theorem State.panicPin_fre (low : Bool) : (s.panicPin low).fre = s.fre := rfl
@[simp] theorem State.panicPin_ttl (low : Bool) : (s.panicPin low).ttl = s.ttl := rfl
@[simp] theorem State.panicPin_nts (low : Bool) : (s.panicPin low).nts = s.nts := rfl
@[simp] theorem State.panicPin_emu (low : Bool) : (s.panicPin low).emu =
    { s.emu with
      filterAt := if s.powered && low != s.emu.panicLow then some (s.now + panicFilter) else none } := rfl
@[simp] theorem State.panicPin_cpt (low : Bool) : (s.panicPin low).cpt = s.cpt := rfl
@[simp] theorem State.panicPin_pending (low : Bool) : (s.panicPin low).pending = s.pending := rfl

/-- A reset row leaves the pin PANIC at the level it carries (R164). -/
@[simp] theorem State.samplePanic_pins (low : Bool) : (s.samplePanic low).pins = { s.pins with panicLow := low } := by
  unfold State.samplePanic
  split <;> simp_all

/-- Beyond the pin and its filter, a reset row's sampling changes nothing. -/
theorem State.samplePanic_eq (low : Bool) : s.samplePanic low
    = (s.setPins { s.pins with panicLow := low }).setEmu { s.emu with filterAt := (s.samplePanic low).emu.filterAt } := by
  unfold State.samplePanic
  split
  · rfl
  · simp_all [State.setPins, State.setEmu]

/-- The window of the hunt keeps to 16 bits (R31). -/
theorem clockBit_length (w : List Bool) (b : Bool) (h : w.length ≤ 16) : (clockBit w b).length ≤ 16 := by
  simp only [clockBit, List.length_drop, List.length_append, List.length_singleton]
  omega

/-- All that the receive clock can do: nothing, or one free bit into the window of a hunt (R31). -/
theorem State.clockRxd_cases : s.clockRxd = s ∨ ∃ w bit, s.rru.rx = .hunting w ∧ s.now % bitPeriod = 0
    ∧ s.clockRxd = s.nextDraw.setRru { s.rru with rx := .hunting (clockBit w bit) } := by
  unfold State.clockRxd
  split
  · next w h =>
    split
    · next hb => exact .inr ⟨w, s.randomIn 0 1 == 1, h, by simpa using hb, by rw [h]; rfl⟩
    · exact .inl rfl
  · exact .inl rfl

/-- No frame ends after the moment of its row. -/
theorem lastBit_le (l : List Byte) : s.lastBit l ≤ s.now := Nat.min_le_left _ _

/-- A frame whose bits have all had their time ends with its last check bit (R2, R7). -/
theorem lastBit_eq (l : List Byte) (h : s.rru.syncAt + l.length * 8 * bitPeriod ≤ s.now) :
    s.lastBit l = s.rru.syncAt + l.length * 8 * bitPeriod := Nat.min_eq_right h

/-- What a match of the sync word can do: end a hunt, with its moment held, or nothing (R31). -/
theorem syncMatch_cases :
    (∃ w, s.rru.rx = .hunting w ∧ s.syncMatch = s.setRru { s.rru with rx := s.rru.rx.sync, syncAt := s.now })
      ∨ ((∀ w, s.rru.rx ≠ .hunting w) ∧ s.syncMatch = s) := by
  unfold State.syncMatch
  split
  · next w h => exact .inl ⟨w, h, rfl⟩
  · next h => exact .inr ⟨h, rfl⟩

/-- What a partial byte can do: CSN rises, with PHASE-ERROR but for a transaction in progress at the last reset and in a part
without supply (R179, R188). -/
theorem partialByte_cases (older : Bool) :
    (s.partialByte older = s.csnRise ∧ (s.powered = false ∨ (older = true ∧ s.cpt.muted ≠ .off)))
      ∨ (s.partialByte older = s.csnRise.phaseErr ∧ s.powered = true ∧ (older = false ∨ s.cpt.muted = .off)) := by
  unfold State.partialByte
  cases hp : s.powered <;> cases older <;> cases hm : s.cpt.muted <;> simp

/-- SDO carries a byte exactly while a powered part is selected (R179). -/
theorem sdoPin_eq_some (b : Byte) : s.sdoPin = some b ↔ s.powered = true ∧ s.pins.csnLow = true ∧ s.cpt.sdo = b := by
  simp [State.sdoPin, and_assoc]

/-- CSN already high, its rise changes nothing on a port without muting. -/
theorem csnRise_of_high (hc : s.pins.csnLow = false) (hm : s.cpt.muted = .off) : s.csnRise = s := by
  have hp : { s.pins with csnLow := false } = s.pins := by rw [← hc]
  have hq : { s.cpt with muted := .off } = s.cpt := by rw [← hm]
  unfold State.csnRise State.setCsn State.setPins State.setCpt
  rw [hp]; simp only [hq]

/-- What eight clocks can do: nothing while CSN is high, else one byte is exchanged (R179). -/
theorem hostByte_cases (first : Bool) (b : Byte) :
    (s.hostByte first b = s ∧ first = false ∧ s.pins.csnLow = false ∧ s.cpt.muted = .off)
      ∨ (s.hostByte first b = s.lowByte first b ∧ (first = true ∨ s.pins.csnLow = true ∨ s.cpt.muted ≠ .off)) := by
  unfold State.hostByte State.clockedHigh
  cases first <;> cases hc : s.pins.csnLow <;> cases hm : s.cpt.muted <;> simp

/-- Without a record of the job a late cancel changes nothing at the trip log (R132). -/
theorem lateLog_none (k : JobKey) (h : ∀ r ∈ s.ret.tripLog, r.jobKey ≠ some k) : s.lateLog k = s := by
  have : (s.ret.tripLog.any fun r => r.jobKey == some k) = false := by simpa using h
  simp [State.lateLog, this]

/-- A command in a transaction of its own, on a powered READY port. -/
theorem hostCommand_ready (code : Byte) (ps : List Byte) (g : CmdGroup) (act : Act) (hp : s.powered = true)
    (hr : s.cpt.phase = .ready) : s.hostCommand code ps g act = ((s.collected ps).runAct g act).csnRise := by
  simp [State.hostCommand, hp, hr]

/-- An accepted command: its block acts, and the answer fills the result buffer (R183). -/
theorem runAct_accepted (g : CmdGroup) (act : Act) (h : g.accepts s.cpt.part = true) :
    s.runAct g act =
      (act (s.setCpt s.cpt.enterExec)).1.setCpt
        ((act (s.setCpt s.cpt.enterExec)).1.cpt.enterResult (act (s.setCpt s.cpt.enterExec)).2) := by
  have : g.accepts (s.setCpt s.cpt.enterExec).cpt.part = true := h
  simp only [State.runAct, this, if_true]

/-- A command the part state does not accept changes nothing but the port, which answers STATE (R185). -/
theorem runAct_refused (g : CmdGroup) (act : Act) (h : g.accepts s.cpt.part = false) :
    s.runAct g act = s.setCpt (s.cpt.enterExec.enterResult [Completion.state.code]) := by
  have : g.accepts (s.setCpt s.cpt.enterExec).cpt.part = false := h
  simp only [State.runAct, this, Bool.false_eq_true, if_false]
  rfl

/-- A timer is due exactly when it runs and its expiry has been reached. -/
theorem due_iff (t : Option Nat) (now : Nat) : due t now = true ↔ ∃ u, t = some u ∧ u ≤ now := by
  cases t <;> simp [due]

end Sys2Proof.Machine
end

