-- ==== Sys2Proof/Tests/Slice0.lean ====
section
/-! SUPPORT. Tests: ill-formed rows, the worked cases of the manual, and for every statement with hypotheses a state and
operands that meet them. -/

namespace Sys2Proof.Tests

open Sys2Proof Sys2Proof.Machine

set_option Elab.async false

/-! ## Ill-formed rows and frames -/

theorem test_illformed_rows :
    (Instr.loadZone (List.replicate 256 0)).wellFormed = false ∧ (Instr.postNote (List.replicate 256 0)).wellFormed = false
    ∧ (Instr.invalid 0).wellFormed = false ∧ (Instr.invalid 0x10).wellFormed = false
    ∧ (Instr.frameReceived [] 0).wellFormed = false
    ∧ (Instr.frameReceived (List.replicate 8 0 ++ [0, 0]) 9).wellFormed = false
    ∧ (Instr.overlongLength 52).wellFormed = false ∧ (Instr.cdFall [] 8).wellFormed = false
    ∧ (Instr.cacheExpiry 4096 1 0).wellFormed = false ∧ (Instr.cacheExpiry 40 12 0).wellFormed = false
    ∧ (Instr.cacheExpiry 40 1 256).wellFormed = false ∧ (Instr.relayHoldRelease 4).wellFormed = false
    ∧ (Instr.peerAging 32).wellFormed = false ∧ (Instr.claimPoint 16).wellFormed = false
    ∧ (Instr.latestClaimPoint 16).wellFormed = false ∧ (Instr.close 16).wellFormed = false
    ∧ (Instr.takeTurn 16).wellFormed = false ∧ (Instr.watchClose 16).wellFormed = false
    ∧ (Instr.entryRetentionEnd 16).wellFormed = false ∧ (Instr.noteRetry 4).wellFormed = false
    ∧ (Instr.alarmTableAging 4).wellFormed = false := by decide +kernel

def note (dest : Nat) (wanted : Bool) : NoteBody := ⟨dest, 9, wanted, false, none, [65, 66]⟩

theorem test_illformed_bodies :
    (Body.beacon ⟨0x10000, 0⟩ true none 5 none).wellFormed = false ∧ (Body.beacon ⟨0, 0⟩ true none 64 none).wellFormed = false
    ∧ (Body.beacon ⟨0, 0⟩ true none 5 (some 4)).wellFormed = false
    ∧ (Body.offer ⟨1, ⟨0, 0⟩, 5, 100, 15, false, List.replicate 25 65⟩).wellFormed = false
    ∧ (Body.claim ⟨32, 1⟩ 0 none).wellFormed = false ∧ (Body.claim ⟨3, 1⟩ 1024 none).wellFormed = false
    ∧ (Body.take ⟨3, 1⟩ 0 256 false).wellFormed = false ∧ (Body.drop ⟨0, 1⟩ 0).wellFormed = false
    ∧ (Body.cancel 1 3).wellFormed = false ∧ (Body.note (note 0 true)).wellFormed = false
    ∧ (Body.note { note 40 true with text := [] }).wellFormed = false ∧ (Body.receipt 4095 1 .read).wellFormed = false
    ∧ (Body.alarm 256 0 true false ⟨0, 0⟩).wellFormed = false ∧ (Body.alarmEnd 0 ⟨0, 0x10000⟩).wellFormed = false
    ∧ (Body.tally ⟨32, false, 0, 0, 0, 0, 0, 0⟩).wellFormed = false := by decide +kernel

/-- R8: a CLAIM comes from a cab; hops, sequence, fleet and sender stand in their fields (section 1.2). -/
theorem test_illformed_headers :
    let f : Frame := ⟨12, 517, 0, false, 517, 200, .claim ⟨3, 4410⟩ 67 (some 0)⟩
    f.wellFormed = true ∧ { f with origin := 9 }.wellFormed = false ∧ { f with hops := 4 }.wellFormed = false
    ∧ { f with seq := 256 }.wellFormed = false ∧ { f with fleet := 256 }.wellFormed = false
    ∧ { f with sender := 0 }.wellFormed = false := by decide +kernel

/-! ## Worked cases of the manual -/

/-- R5: over the nine characters "123456789" the check is 0x29B1. -/
theorem test_check_word : crc16 [0x31, 0x32, 0x33, 0x34, 0x35, 0x36, 0x37, 0x38, 0x39] = 0x29B1 := by decide +kernel

/-- Section 1.7: the CLAIM of cab 517 is a frame of 23 bytes and keys for 38.33 ms; the TAKE keys for 40.00 ms. -/
theorem test_claim_airtime :
    let f : Body → Frame := fun b => ⟨12, 517, 0, false, 517, 200, b⟩
    (f (.claim ⟨3, 4410⟩ 67 (some 0))).bytes.length + 6 = 23
    ∧ (f (.claim ⟨3, 4410⟩ 67 (some 0))).airtime * 100 / ms = 3833
    ∧ (f (.take ⟨3, 4410⟩ 67 0 false)).airtime = 40 * ms := by decide +kernel

/-- Section 1.7: the header of the CLAIM, written out byte by byte. -/
theorem test_claim_bytes :
    (⟨12, 517, 0, false, 517, 200, .claim ⟨3, 4410⟩ 67 (some 0)⟩ : Frame).content
      = [0x11, 12, 0x02, 0x05, 0x02, 0x05, 200, 7, 0x00, 0x03, 0x11, 0x3A, 0x00, 0x43, 0x00] := by decide +kernel

/-- Section 1.7, Judging received frames: base 9 may not send a CLAIM. -/
theorem test_claim_from_base_malformed :
    readFrame (⟨12, 9, 0, false, 9, 1, .claim ⟨3, 1⟩ 5 none⟩ : Frame).content = none := by decide +kernel

/-- Section 4.3: 768 units from (12000, 8000) to (12450, 7400). -/
theorem test_distance : distance ⟨12000, 8000⟩ ⟨12450, 7400⟩ = 768 := by decide +kernel

/-- Section 6.2: job 15 received at 0 with window 100 and score 67: 654 ms plus the jitter. -/
theorem test_claim_point : computedPointOf 0 100 67 0 (9750 * ms) = 654 * ms := by decide +kernel

/-- Section 7.12: tick 24 of the standing cab reaches Θ; the driven half second at STOP credits 288. -/
theorem test_trip_ticks :
    let x : Trip := {
      tariff := 3, flagFall := 350, incAmount := 20, incTime := 24, n0 := 2, dp := 240, theta := 5760, acc := 5520
      units := 0, bucket := 0, dist := 0, rem := 0, hiredS := 23, heldS := 0, applied := 1, surchSum := 300, extras := []
      flags := ⟨false, false, false, false⟩, hireTime := 0, stopTime := none, jobKey := none }
    (x.tickHired.acc = 0 ∧ x.tickHired.units = 1 ∧ x.tickHired.total = 650)
    ∧ (let y := { x with acc := 1440, units := 7, bucket := 12, hiredS := 90 }.settlePart 1
      y.acc = 1728 ∧ y.units = 7 ∧ y.hiredS = 91 ∧ { y with extras := [100] }.total = 850) := by decide +kernel

/-- Section 7.3: with k = 7000 an increment distance of 9362 m gives Dp 65,534 and one of 9999 m gives 69,993. -/
theorem test_dp : pulsesPerIncrement 9362 7000 = 65534 ∧ pulsesPerIncrement 9999 7000 = 69993
    ∧ pulsesPerIncrement 120 2000 = 240 := by decide +kernel

/-! ## The states of the witnesses -/

def t0 : Nat := 100000000

def stn : Station := ⟨517, 7, 3, 0, .auto, 500, 20, 40, 30, 1234, 4321, true⟩

/-- A cab in RUN: vacant and FREE in zone 5 with an open shift, waiting out a backoff. -/
def cab : State :=
  let ret : Retained := { Retained.cleared with
    tariffs := [none, none, some ⟨350, 20, 120, 24, 2⟩, none, none, none, none, none], surcharges := [300, 0, 0]
    k := some 2000, shiftOpen := true, retainedLost := false, seq := 9 }
  { State.reset with
    now := t0
    ret := ret
    check := storeCheck ret
    cau := { Cau.reset with au := .waiting (t0 + 100), idleRef := some (t0 - 60 * ms) }
    ppu := { Ppu.reset with
      position := some ⟨12300, 7750⟩
      fix := true
      fixTime := some t0
      stale := false
      zone := 5
      zones := (List.replicate 64 none).set 5 (some ⟨12200, 13000, 7000, 7800, 1, 16⟩)
      avail := some .free }
    ofb := { Ofb.reset with avail := some .free }
    fre := ⟨.available, some .free, some 0, none⟩
    ttl := ⟨none, some (t0 + 1)⟩
    cpt := { Cpt.reset false with part := .run, muted := .off, config := some stn } }

def job : JobKey := ⟨3, 15⟩

/-- The entry of job 15 whose times have all come. -/
def entry (st : OfferState) : BoardEntry where
  key := job
  state := st
  reason := none
  received := t0 - 10000 * ms
  close := t0
  pickup := ⟨12450, 7400⟩
  zone := 5
  mask := 15
  account := false
  note := [65]
  viaRelay := false
  score := some 67
  acceptTime := none
  rank := none
  claims := []
  takenBy := none
  claimMark := none
  takeMark := none
  dropMark := none
  repeatUsed := false
  termTime := none
  computedPoint := t0
  claimPoint := some t0
  latestPoint := t0
  latestTaken := false
  closeTaken := false
  droppedFromTaking := false
  retentionPassed := false

def board (e : BoardEntry) : State := cab.withEntry 4 e

/-- A cab on its way to the job. -/
def onCall (e : BoardEntry) : State :=
  { (board e).withRet { cab.ret with fare := .onCall } with ofb := { (board e).ofb with avail := some .onCall } }

def frame (b : Body) : Frame := ⟨7, if b.kind = .offer ∨ b.kind = .cancel then 3 else 40, 1, false, 40, 3, b⟩

/-- A transmit queue entry. -/
def waiting (cls : Nat) (o : Owner) (b : Body) : QEntry := ⟨frame b, cls, 5, o, none, none⟩

def queued (q : List QEntry) (s : State) : State := { s with cau := { s.cau with queue := q } }

def keying (o : Owner) (s : State) : State :=
  { s with cau := { s.cau with onAir := some ⟨waiting 2 o (.cancel 1 0), 0, t0⟩ } }

/-- Eight entries of one class. -/
def full (cls : Nat) (o : Owner) (s : State) : State :=
  queued ((List.range 8).map fun i => { waiting cls o (.cancel 1 0) with enq := i }) s

def inbox (r : InNote) : State := { cab with nts := { cab.nts with inbox := cab.nts.inbox.set 3 (some r) } }

def inNote (st : InState) : InNote := ⟨40, false, 9, true, true, none, 0, [65], st, none, none, none⟩

def outbox (r : OutNote) : State := { cab with nts := { cab.nts with outbox := cab.nts.outbox.set 2 (some r) } }

def outNote (st : OutState) : OutNote := ⟨40, 9, true, false, none, [65], 1, some t0, none, st, none⟩

def alarmed (st : AlarmState) : State :=
  { cab with ret := { cab.ret with alarm := st, covert := decide (st = .covert) }, ofb := { cab.ofb with avail := some .alarm } }

def trip : Trip where
  tariff := 3
  flagFall := 350
  incAmount := 20
  incTime := 24
  n0 := 2
  dp := 240
  theta := 5760
  acc := 5520
  units := 7
  bucket := 12
  dist := 0
  rem := 0
  hiredS := 90
  heldS := 0
  applied := 0
  surchSum := 0
  extras := []
  flags := ⟨false, false, false, false⟩
  hireTime := 0
  stopTime := none
  jobKey := none

/-- A trip so dear that its total stands at the clamp. -/
def dear : Trip := { trip with flagFall := 999999 }

def riding (f : FareState) (x : Trip) : State :=
  { cab with ret := { cab.ret with fare := f, trip := some x }, fre := { cab.fre with secondAt := some t0 } }

/-- A part in CONFIG that holds values. -/
def bench : State := { State.reset with cpt := { Cpt.reset false with config := some stn } }

/-- The access unit takes no decision, as a test. -/
def waitsTest (s : State) : Bool :=
  s.cau.onAir.isSome || (match s.cau.au with
    | .waiting _ => !s.cau.blocked
    | .rest => false)

theorem waits_of {s : State} (h : waitsTest s = true) : s.cau.waits := by
  unfold waitsTest at h
  unfold Cau.waits
  cases ha : s.cau.au <;> cases hb : s.cau.blocked <;> simp_all

theorem room_of {s : State} (h : s.cpt.part = .run ∧ s.cau.count < 8 ∧ waitsTest s = true) : s.room :=
  ⟨h.1, h.2.1, waits_of h.2.2⟩

/-- A slot holds the record with the property and the earliest time, as a test. -/
def firstTest {α : Type} (l : List (Option α)) (p : α → Bool) (time : α → Nat) (slot : Nat) : Bool :=
  (slotGet l slot).any fun x => p x && (List.range l.length).all fun i =>
    i == slot || (slotGet l i).all fun y => !p y || decide (time x < time y)

/-- A table without a record that has the property, as a test. -/
def noTest {α : Type} (l : List (Option α)) (p : α → Bool) : Bool :=
  (List.range l.length).all fun i => (slotGet l i).all fun y => !p y

theorem slot_lt {α : Type} {l : List (Option α)} {i : Nat} {y : α} (h : slotGet l i = some y) : i < l.length := by
  simp only [slotGet, Option.join_eq_some_iff] at h
  exact (List.getElem?_eq_some_iff.mp h).1

theorem firstSlot_of {α : Type} {l : List (Option α)} {p : α → Prop} [DecidablePred p] {time : α → Nat} {slot : Nat}
    (h : firstTest l (fun x => decide (p x)) time slot = true) : firstSlot l p time slot := by
  simp only [firstTest, Option.any_eq_true, Bool.and_eq_true, List.all_eq_true, List.mem_range, decide_eq_true_eq] at h
  obtain ⟨x, hx, hp, hall⟩ := h
  refine ⟨x, hx, hp, fun i y hi hy hpy => ?_⟩
  have := hall i (slot_lt hy)
  simpa [hi, hy, hpy] using this

theorem noSlot_of {α : Type} {l : List (Option α)} {p : α → Prop} [DecidablePred p]
    (h : noTest l (fun x => decide (p x)) = true) : noSlot l p := by
  simp only [noTest, List.all_eq_true, List.mem_range] at h
  intro i y hy hp
  simpa [hy, hp] using h i (slot_lt hy)

/-! ## Witnesses: rows, frames and the channel -/

theorem witness_StepRunsTheFrontRow : { cab with pending := [.pulse, .go] }.pending = .pulse :: [.go] := by decide +kernel

theorem witness_EmptyQueueRunsTheTimebase :
    (cab.pending = [] ∧ cab.dueRows = [])
    ∧ ({ cab with now := t0 + 1 }.pending = [] ∧ { cab with now := t0 + 1 }.dueRows ≠ []) := by decide +kernel

/-- A cab that hunts, with nothing due at a period of the receive clock and at the moment before one. -/
theorem witness_HuntClocksItsBits :
    let hunt (now : Nat) : State := { cab with now := now, rru := { cab.rru with rx := .hunting [true] } }
    ∀ now ∈ [t0 - 1, t0 - 2], (hunt now).pending = [] ∧ (hunt now).dueRows = []
      ∧ (hunt now).rru.rx = .hunting [true] ∧ ((now + 1) % 5 = 0 ↔ now = t0 - 1) := by decide +kernel

theorem witness_FrameBytesReadBack :
    ∀ b ∈ [Body.beacon ⟨65535, 0⟩ true (some .alarm) 255 none, .offer ⟨65535, ⟨0, 0⟩, 63, 255, 15, true, List.replicate 24 126⟩,
      .claim ⟨31, 0⟩ 1023 (some 3), .take ⟨1, 65535⟩ 1023 255 true, .drop ⟨31, 1⟩ 255, .cancel 65535 2,
      .note ⟨4095, 255, true, true, some ⟨40, 1⟩, List.replicate 40 32⟩, .receipt 4094 255 .refusedFull,
      .alarm 255 255 true true ⟨0, 65535⟩, .alarmEnd 0 ⟨0, 0⟩, .tally ⟨31, true, 65535, cap32, 0, 0, cap32, 65535⟩],
      (frame b).wellFormed = true := by decide +kernel

/-- R8, R9 on bytes built by hand: a CLAIM of cab 40 with a score above 1023 and class 9 is read with 1023 and no class; with base
id 32 it is malformed, as is a RECEIPT of kind 3. -/
theorem test_clamped_and_malformed_frames :
    let claim (base : Byte) : List Byte := [0x11, 7, 0, 40, 0, 41, 5, 7, 0, base, 0, 15, 0xFF, 0xFF, 9]
    readFrame (claim 31) = some ⟨7, 40, 0, false, 41, 5, .claim ⟨31, 15⟩ 1023 none⟩ ∧ readFrame (claim 32) = none
    ∧ readFrame [0x21, 7, 0x80, 40, 0, 40, 5, 4, 0, 41, 9, 3] = none := by decide +kernel

/-- Taking a frame, with CD active. -/
def taking : State :=
  { cab with
    pins := ⟨true, false, false, false⟩
    rru := { cab.rru with rx := .taking } }

/-- R7, R2: a DROP of 15 bytes ends 120 bit periods after its sync word, wherever CD falls between the bit clocks after it. -/
theorem test_frame_ends_with_its_last_check_bit :
    ∀ late ∈ [0, 3, 5, 38], (taking.setRru { taking.rru with syncAt := t0 - 120 * 5 - late }).lastBit
      (frame (.drop job 0)).bytes = t0 - late := by decide +kernel

/-- Whole bytes with a good check. -/
def checked (l : List Byte) : List Byte := l ++ crcBytes l

theorem witness_ReceivedFramesAreFiltered :
    let bad : List Byte := (frame (.cancel 1 0)).content ++ [0, 0]
    let good := (frame (.cancel 1 0)).bytes
    let other := { frame (.cancel 1 0) with fleet := 8 }.bytes
    let odd := { frame (.cancel 1 0) with origin := 40 }.bytes
    let own := { frame (.cancel 1 0) with sender := 517 }
    let echo := { frame (.drop job 0) with origin := 517 }
    taking.rru.rx = .taking ∧ taking.ownFleet = 7 ∧ taking.ownId = 517
    ∧ (frameWhole bad = true ∧ checkGood bad = false)
    ∧ (frameWhole good = true ∧ checkGood good = true ∧ 8 ≤ (8 : Nat))
    ∧ (frameWhole other = true ∧ checkGood other = true ∧ (7 : Nat) < 8 ∧ at8 other 1 ≠ taking.ownFleet)
    ∧ (frameWhole odd = true ∧ checkGood odd = true ∧ at8 odd 1 = taking.ownFleet
      ∧ readFrame (odd.take (odd.length - 2)) = none)
    ∧ (frameWhole own.bytes = true ∧ checkGood own.bytes = true ∧ at8 own.bytes 1 = taking.ownFleet
      ∧ readFrame (own.bytes.take (own.bytes.length - 2)) = some own ∧ own.sender = taking.ownId)
    ∧ (frameWhole echo.bytes = true ∧ checkGood echo.bytes = true ∧ at8 echo.bytes 1 = taking.ownFleet
      ∧ readFrame (echo.bytes.take (echo.bytes.length - 2)) = some echo ∧ echo.sender ≠ taking.ownId
      ∧ echo.origin = taking.ownId) := by decide +kernel

theorem witness_ReceivedFramesAreDelivered :
    taking.rru.rx = .taking ∧ (∀ c ∈ taking.rru.cache, c.key ≠ (frame (.cancel 1 0)).key) ∧ taking.rru.cache.length < 16
    ∧ ∀ b ∈ [Body.beacon ⟨0, 0⟩ true none 5 none, .claim job 67 none, .cancel 1 0],
      (frame b).wellFormed = true ∧ (frame b).sender ≠ taking.ownId ∧ (frame b).origin ≠ taking.ownId
      ∧ (frame b).fleet = taking.ownFleet := by decide +kernel

def peer (lastHeard : Nat) : Peer := ⟨40, 0, lastHeard, some lastHeard, 65535, none, none⟩

def withPeer (s : State) (p : Peer) : State := { s with ppu := { s.ppu with peers := s.ppu.peers.set 31 (some p) } }

theorem witness_BeaconHeardUpdatesThePeerTable :
    let f := frame (.beacon ⟨1, 2⟩ true (some .free) 5 (some 0))
    f.wellFormed = true ∧ f.sender = f.origin ∧ f.sender ≠ taking.ownId ∧ f.fleet = taking.ownFleet
    ∧ taking.rru.rx = .taking ∧ (withPeer taking (peer 0)).rru.rx = .taking
    ∧ (withPeer taking (peer 0)).peer f.sender = some (31, peer 0)
    ∧ taking.peer f.sender = none ∧ lowestFree taking.ppu.peers = some 0 := by decide +kernel

theorem witness_CopiesCountAndAFullCacheEvicts :
    let f := frame (.drop job 0)
    let cached (c : CacheEntry) : State := { taking with rru := { taking.rru with cache := [] ++ c :: [] } }
    let c : CacheEntry := ⟨f.key, t0, 2, .hold 3⟩
    let old (i : Nat) : CacheEntry := ⟨⟨41, .drop, i⟩, i, 1, .none⟩
    let sixteen : List CacheEntry := [{ old 0 with mark := .queued }] ++ old 1 :: (List.range 14).map (fun i => old (i + 2))
    let filled : State := { taking with rru := { taking.rru with cache := sixteen } }
    (f.wellFormed = true ∧ f.sender ≠ taking.ownId ∧ f.origin ≠ taking.ownId ∧ f.fleet = taking.ownFleet
      ∧ f.body.kind ≠ .beacon ∧ f.body.kind ≠ .claim)
    ∧ ((cached c).rru.rx = .taking ∧ c.key = f.key ∧ (∀ x ∈ ([] ++ [] : List CacheEntry), x.key ≠ f.key)
      ∧ c.mark = .hold 3 ∧ c.copies = 2 ∧ (cached c).now < c.firstHeard + 60000 * ms ∧ { c with copies := 3 }.copies ≠ 2)
    ∧ (filled.rru.rx = .taking ∧ (∀ x ∈ filled.rru.cache, x.key ≠ f.key) ∧ filled.rru.cache.length = 16
      ∧ (old 1).mark = .none
      ∧ ∀ x ∈ [{ old 0 with mark := .queued }] ++ (List.range 14).map (fun i => old (i + 2)),
        x.mark = .none → (old 1).firstHeard < x.firstHeard) := by decide +kernel

theorem witness_QueuedRelayIsCancelled :
    let f := frame (.drop job 0)
    let c : CacheEntry := ⟨f.key, t0, 2, .queued⟩
    let e : QEntry := { waiting 2 .relay (.drop job 0) with frame := f.relayCopy 517 }
    let s : State := { queued [e] taking with rru := { taking.rru with cache := [] ++ c :: [] } }
    (s.rru.rx = .taking ∧ c.key = f.key ∧ c.mark = .queued ∧ c.copies = 2 ∧ s.now < c.firstHeard + 60000 * ms
      ∧ s.standingMarks = [] ∧ f.wellFormed = true ∧ f.sender ≠ s.ownId ∧ f.origin ≠ s.ownId ∧ f.fleet = s.ownFleet
      ∧ e.owner = .relay ∧ e.frame.key = f.key) ∧ s.cau.waits := ⟨by decide +kernel, waits_of (by decide +kernel)⟩

/-- R63: thirty-two stations, the one heard longest ago protected by its alarm. -/
def known (protected_ : Nat → Bool) : State :=
  let peers := (List.range 32).map fun i => some { peer (if i = 6 then 100 else 200 + i) with id := 60 + i }
  let alarm (i : Nat) : Option AlarmEntry :=
    if protected_ i then some ⟨60 + i, 5, 0, 0, none, none, false, 0, 1, 0, .active⟩ else none
  { cab with ppu := { cab.ppu with peers := peers }, emu := { cab.emu with table := (List.range 32).map alarm } }

theorem witness_PeerNoticeUpdatesSenderAndOrigin :
    let f : Frame := { frame (.cancel 1 0) with sender := 40, origin := 3 }
    let g : Frame := frame (.drop job 0)
    let both : State := withPeer (withPeer cab (peer 5)) (peer 5)
    let two : State := { both with ppu := { both.ppu with peers := both.ppu.peers.set 4 (some { peer 0 with id := 3 }) } }
    (f.sender ≠ f.origin ∧ two.peer f.sender = some (31, peer 5) ∧ two.peer f.origin = some (4, { peer 0 with id := 3 }))
    ∧ (both.peer f.sender = some (31, peer 5) ∧ both.peer f.origin = none ∧ lowestFree both.ppu.peers = some 0)
    ∧ (g.sender = g.origin ∧ ∀ p ∈ [fun _ => false, fun i => decide (i = 6), fun _ => true],
      (known p).peer g.origin = none ∧ lowestFree (known p).ppu.peers = none)
    ∧ firstSlot (known fun _ => false).ppu.peers
      (fun p => ∀ a ∈ slotEntries (known fun _ => false).emu.table, a.origin = p.id → a.state ≠ .active ∧ a.state ≠ .silent)
      (·.lastHeard) 6
    ∧ firstSlot (known fun i => decide (i = 6)).ppu.peers
      (fun p => ∀ a ∈ slotEntries (known fun i => decide (i = 6)).emu.table,
        a.origin = p.id → a.state ≠ .active ∧ a.state ≠ .silent) (·.lastHeard) 0
    ∧ noSlot (known fun _ => true).ppu.peers
      (fun p => ∀ a ∈ slotEntries (known fun _ => true).emu.table,
        a.origin = p.id → a.state ≠ .active ∧ a.state ≠ .silent) :=
  ⟨by decide +kernel, by decide +kernel, by decide +kernel, firstSlot_of (by decide +kernel),
    firstSlot_of (by decide +kernel), noSlot_of (by decide +kernel)⟩

theorem witness_NewFramesAreHeldOrCancelled :
    let f := frame (.cancel 15 2)
    let cached (c : CacheEntry) : State := { taking with rru := { taking.rru with cache := [] ++ c :: [] } }
    let c : CacheEntry := ⟨f.key, t0, 2, .hold 3⟩
    (f.wellFormed = true ∧ f.sender ≠ taking.ownId ∧ f.origin ≠ taking.ownId ∧ f.fleet = taking.ownFleet)
    ∧ (taking.rru.rx = .taking ∧ (∀ c ∈ taking.rru.cache, c.key ≠ f.key) ∧ taking.rru.cache.length < 16
      ∧ taking.entry ⟨f.origin, 15⟩ = none ∧ 1 ≤ f.hops ∧ lowestFree taking.rru.holds = some 0)
    ∧ ((cached c).rru.rx = .taking ∧ c.key = f.key ∧ (∀ x ∈ ([] ++ [] : List CacheEntry), x.key ≠ f.key)
      ∧ { c with mark := .none }.mark = .none ∧ { c with copies := 15 }.copies ≠ 2
      ∧ c.mark = .hold 3 ∧ c.copies = 2 ∧ (cached c).now < c.firstHeard + 60000 * ms) := by decide +kernel

def held (s : State) : State :=
  { s with rru := { s.rru with holds := s.rru.holds.set 3 (some ⟨frame (.cancel 15 2), 0, t0⟩) } }

theorem witness_HeldFramesAreReleased :
    let h : Hold := ⟨frame (.cancel 15 2), 0, t0⟩
    (slotGet (held cab).rru.holds 3 = some h ∧ h.release ≤ (held cab).now)
    ∧ ((held cab).cau.count < 8 ∧ (held cab).cau.waits)
    ∧ (slotGet (held (full 2 .relay cab)).rru.holds 3 = some h ∧ h.release ≤ (held (full 2 .relay cab)).now
      ∧ 8 ≤ (held (full 2 .relay cab)).cau.count ∧ ∀ x ∈ (held (full 2 .relay cab)).cau.queue, x.cls ≤ 2) :=
  ⟨by decide +kernel, ⟨by decide +kernel, waits_of (by decide +kernel)⟩, by decide +kernel⟩

theorem witness_FullQueueDisplaces :
    let claimBody := Body.claim job 67 (some 0)
    let low := full 2 .relay (board (entry .claimPending))
    let high := full 1 .relay (board (entry .claimPending))
    (low.cpt.part = .run ∧ (OwnRef.claim job).group = none ∧ low.ownBody (.claim job) = some claimBody
      ∧ 8 ≤ low.cau.count ∧ (∃ e ∈ low.cau.queue, victim (OwnRef.claim job).cls true low.cau.queue = some e)
      ∧ (headOf low.cau.queue).isSome = true)
    ∧ (high.cpt.part = .run ∧ high.ownBody (.claim job) = some claimBody ∧ 8 ≤ high.cau.count
      ∧ victim (OwnRef.claim job).cls true high.cau.queue = none
      ∧ high.entry job = some (4, entry .claimPending) ∧ (entry .claimPending).state = .claimPending)
    ∧ low.cau.waits ∧ high.cau.waits :=
  ⟨by decide +kernel, by decide +kernel, waits_of (by decide +kernel), waits_of (by decide +kernel)⟩

theorem witness_FullQueueMarksEveryOwner :
    let takes := full 1 .relay (onCall (entry .taking))
    let drops := full 2 .relay (board (entry .dropped))
    let notes := full 3 .relay (outbox (outNote .queued))
    let receipts := full 3 .relay (inbox (inNote .read))
    (takes.entry job = some (4, entry .taking) ∧ (entry .taking).state.holdsJob = true ∧ takes.cpt.part = .run
      ∧ takes.ownBody (.take job) = some (.take job 67 0 false) ∧ 8 ≤ takes.cau.count
      ∧ victim (OwnRef.take job).cls true takes.cau.queue = none)
    ∧ (drops.entry job = some (4, entry .dropped) ∧ drops.cpt.part = .run ∧ (drops.ownBody (.drop job)).isSome = true
      ∧ 8 ≤ drops.cau.count ∧ victim (OwnRef.drop job).cls true drops.cau.queue = none)
    ∧ (slotGet notes.nts.outbox 2 = some (outNote .queued) ∧ (outNote .queued).state.live = true ∧ notes.cpt.part = .run
      ∧ (notes.ownBody (.note 2)).isSome = true ∧ 8 ≤ notes.cau.count
      ∧ victim (OwnRef.note 2).cls true notes.cau.queue = none)
    ∧ (receipts.inNote 40 9 = some (3, inNote .read) ∧ receipts.cpt.part = .run
      ∧ receipts.ownBody (.receipt .read 40 9) = some (.receipt 40 9 .read) ∧ 8 ≤ receipts.cau.count
      ∧ victim (OwnRef.receipt .read 40 9).cls true receipts.cau.queue = none)
    ∧ takes.cau.waits ∧ drops.cau.waits ∧ notes.cau.waits ∧ receipts.cau.waits :=
  ⟨by decide +kernel, by decide +kernel, by decide +kernel, by decide +kernel, waits_of (by decide +kernel),
    waits_of (by decide +kernel), waits_of (by decide +kernel), waits_of (by decide +kernel)⟩

theorem witness_OwnFramesJoin :
    let s := full 2 .relay (board (entry .claimPending))
    let one := { s with cau := { s.cau with queue := s.cau.queue.take 7 } }
    (one.cpt.part = .run ∧ (OwnRef.claim job).group = none ∧ one.ownBody (.claim job) = some (.claim job 67 (some 0))
      ∧ one.cau.count < 8) ∧ one.cau.waits := ⟨by decide +kernel, waits_of (by decide +kernel)⟩

/-- A resting access unit on an idle channel, on a busy one, and in the blocked condition, where a waiting one counts as well. -/
def resting (s : State) : State := { s with cau := { s.cau with au := .rest } }

theorem witness_FramesThatBecomeTheHead :
    let idle := resting (board (entry .claimPending))
    let busy := { idle with pins := { idle.pins with cd := true } }
    let blocked (s : State) : State := { s with cau := { s.cau with blocked := true, queue := [waiting 1 .relay (.cancel 1 0)] } }
    (idle.cpt.part = .run ∧ idle.ownBody (.claim job) = some (.claim job 67 (some 0)) ∧ idle.cau.onAir = none
      ∧ idle.cau.queue = [] ∧ idle.cau.au = .rest ∧ idle.cau.windowLaw
      ∧ idle.pins.cd = false ∧ idle.cau.idleRef = some (t0 - 60 * ms) ∧ t0 - 60 * ms + 60 * ms ≤ idle.now)
    ∧ (busy.ownBody (.claim job) = some (.claim job 67 (some 0)) ∧ busy.pins.cd = true ∧ busy.cau.blocked = false
      ∧ busy.cau.queue = [] ∧ busy.cau.au = .rest)
    ∧ (∀ s ∈ [blocked cab, blocked idle], s.cpt.part = .run ∧ s.ownBody .alarm = some s.alarmBody ∧ s.cau.onAir = none
      ∧ s.cau.blocked = true ∧ OwnRef.alarm.cls = 0 ∧ s.cau.count < 8
      ∧ ∀ x ∈ s.cau.queue, 0 < x.cls ∧ x.owner.inGroup .class0 = false) := by decide +kernel

theorem witness_HeldFrameReachesARestingUnit :
    let s := resting (held cab)
    slotGet s.rru.holds 3 = some ⟨frame (.cancel 15 2), 0, t0⟩ ∧ t0 ≤ s.now ∧ s.cau.queue = [] ∧ s.cau.onAir = none
    ∧ s.cau.au = .rest ∧ s.cau.windowLaw ∧ s.pins.cd = false ∧ s.cau.idleRef = some (t0 - 60 * ms)
    ∧ t0 - 60 * ms + 60 * ms ≤ s.now ∧ (frame (.cancel 15 2)).body.kind ≠ .offer
    ∧ { s with pins := { s.pins with cd := true } }.pins.cd = true ∧ s.cau.blocked = false := by decide +kernel

theorem witness_OwnFramesMerge :
    let e := waiting 4 (.own .beacon) (.cancel 1 0)
    let s := queued ([waiting 2 .relay (.cancel 1 0)] ++ e :: [waiting 2 .relay (.cancel 2 0)]) cab
    (s.cpt.part = .run ∧ OwnRef.beacon.group = some .beacon ∧ s.ownBody .beacon = some s.beaconBody
      ∧ e.owner.inGroup .beacon = true
      ∧ (∀ x ∈ [waiting 2 .relay (.cancel 1 0)], x.owner.inGroup .beacon = false ∧ x ≠ e)
      ∧ e ∉ [waiting 2 .relay (.cancel 2 0)]) ∧ s.cau.waits := ⟨by decide +kernel, waits_of (by decide +kernel)⟩

theorem witness_OwnFramesAreDeferred :
    let s := keying (.own .beacon) cab
    s.cpt.part = .run ∧ OwnRef.beacon.group = some .beacon ∧ s.ownBody .beacon = some s.beaconBody
    ∧ (∀ x ∈ s.cau.queue, x.owner.inGroup .beacon = false)
    ∧ s.cau.onAir = some ⟨waiting 2 (.own .beacon) (.cancel 1 0), 0, t0⟩
    ∧ (waiting 2 (.own .beacon) (.cancel 1 0)).owner.inGroup .beacon = true := by decide +kernel

theorem witness_OwnFramesReturn :
    let s (seq : Option Nat) := board { entry .claimPending with claimMark := some ⟨5, seq⟩ }
    (∀ seq ∈ [none, some 8], (s seq).cpt.part = .run ∧ (OwnRef.claim job).group = none
      ∧ (s seq).ownBody (.claim job) = some (.claim job 67 (some 0)) ∧ (s seq).ownMark (.claim job) = some ⟨5, seq⟩
      ∧ (s seq).standingMarks = [(5, .claim job)] ∧ (s seq).cau.count < 8)
    ∧ (s none).cau.waits ∧ (s (some 8)).cau.waits :=
  ⟨by decide +kernel, waits_of (by decide +kernel), waits_of (by decide +kernel)⟩

theorem witness_CarrierEdgesAndTheReceiver :
    let up := { cab with pins := ⟨true, false, false, false⟩ }
    (cab.powered = true ∧ cab.cpt.part = .run ∧ cab.pins.cd = false)
    ∧ (up.powered = true ∧ up.cpt.part = .run ∧ up.pins.cd = true ∧ up.rru.rx = .idle)
    ∧ (taking.powered = true ∧ taking.cpt.part = .run ∧ taking.pins.cd = true ∧ taking.rru.rx = .taking
      ∧ frameWhole [0x11, 7] = false ∧ frameOverlong [0x11, 7] = false)
    ∧ (∀ w ∈ [[], [true], syncBits], { up with rru := { up.rru with rx := .hunting w } }.rru.rx = .hunting w)
    ∧ syncBits = [true, true, true, false, false, false, true, false, false, true, false, true, true, false, true, false]
    ∧ 52 < (53 : Byte).toNat := by decide +kernel

/-- R7: the length byte 52 is no malformed one, and 53 is. -/
theorem witness_CarrierFallEndsTheFrame :
    taking.powered = true ∧ taking.cpt.part = .run ∧ taking.pins.cd = true ∧ taking.rru.rx = .taking ∧ (7 : Nat) < 8
    ∧ frameOverlong (List.replicate 7 0 ++ [53]) = true ∧ frameOverlong (List.replicate 7 0 ++ [52]) = false
    ∧ frameWhole (List.replicate 7 0 ++ 52 :: List.replicate 54 0) = true := by decide +kernel

def blocking (s : State) : State := { s with cau := { s.cau with blockedAt := some t0 } }

theorem witness_BlockedConditionKeysClassZero :
    let e := waiting 0 .relay (.alarmEnd 1 ⟨0, 0⟩)
    let air := blocking (keying .relay cab)
    let late := blocking (queued [waiting 1 .relay (.cancel 1 0)] cab)
    let open_ := { cab with cau := { cab.cau with blocked := true, clearAt := some t0 } }
    let zero := blocking (queued [e] cab)
    (air.powered = true ∧ t0 ≤ air.now ∧ air.cau.blockedAt = some t0 ∧ air.cau.onAir.isSome = true)
    ∧ ((blocking cab).cau.blockedAt = some t0 ∧ (blocking cab).cau.queue = [])
    ∧ (late.cau.blockedAt = some t0 ∧ late.cau.au = .waiting (t0 + 100) ∧ ∀ x ∈ late.cau.queue, 0 < x.cls)
    ∧ (zero.cau.blockedAt = some t0 ∧ zero.cau.onAir = none ∧ headOf zero.cau.queue = some e ∧ e.cls = 0
      ∧ e.endOfCopy = none)
    ∧ (open_.powered = true ∧ t0 ≤ open_.now ∧ open_.cau.clearAt = some t0) := by decide +kernel

/-- A backoff that ends now. -/
def ending (s : State) : State := { s with cau := { s.cau with au := .waiting t0 } }

theorem witness_WaitEndKeysOrDrawsAgain :
    let e := waiting 2 .relay (.cancel 1 0)
    let one := ending (queued [e] cab)
    let busy := { one with pins := ⟨true, false, false, false⟩ }
    let early := { one with cau := { one.cau with idleRef := some (t0 - 60 * ms + 1), w := 64 } }
    ((ending cab).cau.au = .waiting t0 ∧ t0 ≤ (ending cab).now ∧ (ending cab).cau.blocked = false
      ∧ (ending cab).cau.windowLaw ∧ (ending cab).cau.queue = [])
    ∧ (one.cau.au = .waiting t0 ∧ one.cau.blocked = false ∧ one.cau.windowLaw ∧ headOf one.cau.queue = some e
      ∧ one.pins.cd = false ∧ 60 * ms ≤ (one.cau.idleRef.map (one.now - ·)).getD 0 ∧ e.endOfCopy = none)
    ∧ (busy.pins.cd = true ∧ busy.cau.windowLaw ∧ headOf busy.cau.queue = some e)
    ∧ (early.cau.windowLaw ∧ headOf early.cau.queue = some e
      ∧ (early.cau.idleRef.map (early.now - ·)).getD 0 < 60 * ms) := by decide +kernel

def relayedOffer (window ended : Nat) : QEntry :=
  { waiting 2 .relay (.offer ⟨1, ⟨0, 0⟩, 5, window, 15, false, []⟩) with endOfCopy := some ended }

theorem witness_RelayedOffersAreKeyedOrDropped :
    ∀ window ∈ [20, 19],
      let e := relayedOffer window t0
      let s := ending (queued [e] cab)
      (s.cau.au = .waiting t0 ∧ t0 ≤ s.now ∧ s.pins.cd = false
        ∧ (s.cau.idleRef = some (t0 - 60 * ms) ∧ t0 - 60 * ms + 60 * ms ≤ s.now) ∧ s.cau.queue = [e]
        ∧ e.owner = .relay ∧ e.cls = 2 ∧ e.frame.body = .offer ⟨1, ⟨0, 0⟩, 5, window, 15, false, []⟩
        ∧ e.endOfCopy = some t0 ∧ s.rru.rx ≠ .taking ∧ s.standingMarks = []
        ∧ (window * (100 * ms) - (s.now - t0)) / (100 * ms) = window) := by decide +kernel

theorem witness_TransmissionEndTellsItsOwner :
    let claims := keying (.own (.claim job)) (board (entry .claimPending))
    let takes := keying (.own (.take job)) (onCall (entry .taking))
    let notes := keying (.own (.note 2)) (outbox (outNote .queued))
    let ends := keying (.own .alarmEnd) { alarmed .ending with emu := { cab.emu with ending := some .first } }
    let first := keying (.own .alarm) { alarmed .alerting with emu := { cab.emu with firstSent := true } }
    let tally := keying (.own .tally) cab
    let drops := keying (.own (.drop job)) (board { entry .dropped with retentionPassed := true })
    (claims.cau.onAir.isSome = true ∧ t0 ≤ claims.now ∧ claims.ofb.keyLaw)
    ∧ (takes.cau.onAir.isSome = true ∧ t0 ≤ takes.now ∧ takes.ofb.keyLaw)
    ∧ (notes.cau.onAir.isSome = true ∧ notes.ofb.keyLaw ∧ slotGet notes.nts.outbox 2 = some (outNote .queued)
      ∧ (outNote .queued).state = .queued)
    ∧ (ends.cau.onAir.isSome = true ∧ ends.ofb.keyLaw ∧ ends.emu.ending = some .first)
    ∧ (first.cau.onAir.isSome = true ∧ first.ofb.keyLaw ∧ first.emu.firstSent = true ∧ first.ret.alarm = .alerting)
    ∧ (tally.cau.onAir.isSome = true ∧ tally.ofb.keyLaw ∧ tally.cau.deferredTally = none)
    ∧ (drops.cau.onAir.isSome = true ∧ drops.ofb.keyLaw)
    ∧ ((keying (.own .beacon) cab).ofb.keyLaw ∧ (keying .relay cab).ofb.keyLaw
      ∧ (keying (.own (.receipt .read 40 9)) (inbox (inNote .read))).ofb.keyLaw) := by decide +kernel

theorem witness_DeferredFrameFollowsItsGroup :
    let o (r : OwnRef) (b : Body) : Offered := ⟨r, b, none, none⟩
    let later (g : Group) (r : OwnRef) (b : Body) (s : State) : State :=
      { s with cau := s.cau.setDeferred g (some (o r b)) }
    let beacon := later .beacon .beacon (.cancel 1 0) (keying (.own .beacon) cab)
    let tally := later .tally .tally (.cancel 1 0) { keying (.own .tally) cab with
      ttl := ⟨some ⟨⟨3, true, 0, 0, 0, 0, 0, 0⟩, none, .offered⟩, none⟩ }
    let alarm := later .class0 .alarmEnd (.alarmEnd 5 ⟨0, 0⟩) (keying (.own .alarm) (alarmed .ending))
    ∀ p ∈ [(beacon, Group.beacon, OwnRef.beacon), (tally, .tally, .tally), (alarm, .class0, .alarmEnd)],
      (p.1.cau.onAir.map (·.stop)) = some t0 ∧ t0 ≤ p.1.now ∧ p.1.cpt.part = .run ∧ p.1.emu.firstSent = false
      ∧ ((p.1.cau.deferred p.2.1).map (·.ref)) = some p.2.2 ∧ p.2.2.group = some p.2.1
      ∧ (∀ g ∈ [Group.class0, .tally, .beacon], g ≠ p.2.1 → p.1.cau.deferred g = none) ∧ p.1.cau.queue = []
      ∧ p.1.cau.blocked = false ∧ p.1.standingMarks = [] := by decide +kernel

/-! ## Witnesses: position, peers and the board -/

def alarmRow (st : HeardState) (heard : Nat) (ended : Option Nat) : AlarmEntry :=
  ⟨40, 5, 0, heard, ended, some ⟨⟨1, 2⟩, true⟩, false, 0, 1, 0, st⟩

def withAlarm (a : AlarmEntry) : State := { cab with emu := { cab.emu with table := cab.emu.table.set 3 (some a) } }

theorem witness_TableEntriesAgeAtTheirTimes :
    (∀ p ∈ [peer (t0 - 300000 * ms), peer (t0 - 300000 * ms + 1)], slotGet (withPeer cab p).ppu.peers 31 = some p)
    ∧ (t0 - 300000 * ms + 300000 * ms ≤ cab.now ∧ cab.now < t0 - 300000 * ms + 1 + 300000 * ms)
    ∧ (∀ a ∈ [alarmRow .active (t0 - 60000 * ms) none, alarmRow .active t0 none, alarmRow .silent (t0 - 300000 * ms) none,
        alarmRow .silent t0 none, alarmRow .ended 0 (some (t0 - 60000 * ms)), alarmRow .ended 0 (some t0)],
      slotGet (withAlarm a).emu.table 3 = some a)
    ∧ (t0 - 60000 * ms + 60000 * ms ≤ cab.now ∧ cab.now < t0 + 60000 * ms)
    ∧ (∀ e ∈ [{ entry .watch with close := t0 - 9000 * ms }, entry .watch, entry .opened,
        { entry .done with termTime := some (t0 - 60000 * ms) }, { entry .done with termTime := some t0 },
        { entry .dropped with
          termTime := some 0
          dropMark := some ⟨0, none⟩ }],
      slotGet (board e).ofb.slots 4 = some e)
    ∧ ((entry .done).state.live = false ∧ (entry .done).retentionPassed = false ∧ (entry .done).dropMark = none
      ∧ (board (entry .done)).cau.holds (.drop job) = false
      ∧ (queued [waiting 2 (.own (.drop job)) (.drop job 0)] (board (entry .dropped))).cau.holds (.drop job) = true)
    := by decide +kernel

theorem witness_LowestZoneWins :
    cab.ppu.zones.length = 64 ∧ zoneOf cab.ppu.zones ⟨12200, 7800⟩ = 5 ∧ zoneOf cab.ppu.zones ⟨12199, 7800⟩ = 255
    ∧ cab.inBidSet 5 = true ∧ cab.inBidSet 4 = true ∧ cab.inBidSet 6 = false ∧ cab.inBidSet 255 = false := by
  decide +kernel

/-- A trip whose cab stood in zone 6. -/
def moved (x : Trip) : State := { riding .hired x with ppu := { cab.ppu with zone := 6 } }

theorem witness_PositionIsSetAndTurnsStale :
    let stale := { cab with ppu := { cab.ppu with stale := true, zone := 255 } }
    let old (t : Nat) := { cab with ppu := { cab.ppu with fixTime := some t } }
    (cab.ready .run ∧ cab.ppu.stale = false ∧ zoneOf cab.ppu.zones ⟨12300, 7750⟩ = cab.ppu.zone)
    ∧ (stale.ready .run ∧ stale.ret.fare ≠ .hired ∧ stale.ret.fare ≠ .held ∧ stale.ppu.stale = true)
    ∧ (zoneOf cab.ppu.zones ⟨0, 0⟩ ≠ cab.ppu.zone ∧ cab.ret.fare ≠ .hired ∧ cab.ret.fare ≠ .held)
    ∧ (∀ x ∈ [trip, dear, { trip with applied := 1 }], (moved x).ready .run ∧ (moved x).ret.trip = some x
      ∧ (moved x).ret.fare = .hired ∧ zoneOf (moved x).ppu.zones ⟨12300, 7750⟩ ≠ (moved x).ppu.zone)
    ∧ (zoneOf (moved trip).ppu.zones ⟨0, 0⟩ ≠ (moved trip).ppu.zone ∧ trip.rawTotal + 300 < 999999
      ∧ 999999 ≤ dear.rawTotal + 300 ∧ dear.flags.fareLimit = false)
    ∧ (cab.ret.alarm = .quiet ∧ cab.ret.fare = .vacant ∧ cab.fre.avail = some .free ∧ cab.ofb.avail = some .free
      ∧ slotGet (board (entry .claimPending)).ofb.slots 4 = some (entry .claimPending))
    ∧ ((old (t0 - 30000 * ms)).ppu.fixTime = some (t0 - 30000 * ms) ∧ (old 0).ppu.stale = false
      ∧ t0 - 30000 * ms + 30000 * ms ≤ (old 0).now)
    ∧ ((old t0).ppu.fixTime = some t0 ∧ (old t0).now < t0 + 30000 * ms) := by decide +kernel

theorem witness_BeaconTimersOfferABeacon :
    let a := { cab with ppu := { cab.ppu with intervalAt := some t0 } }
    let b := { cab with ppu := { cab.ppu with changeAt := some t0 } }
    (a.cpt.config = some stn ∧ a.cpt.part = .run ∧ t0 ≤ a.now ∧ a.ppu.intervalAt = some t0 ∧ a.cau.count < 8
      ∧ (∀ x ∈ a.cau.queue, x.owner.inGroup .beacon = false) ∧ ∀ x ∈ a.cau.onAir, x.entry.owner.inGroup .beacon = false)
    ∧ (b.cpt.config = some stn ∧ b.cpt.part = .run ∧ t0 ≤ b.now ∧ b.ppu.changeAt = some t0 ∧ b.cau.count < 8
      ∧ (∀ x ∈ b.cau.queue, x.owner.inGroup .beacon = false) ∧ ∀ x ∈ b.cau.onAir, x.entry.owner.inGroup .beacon = false)
    ∧ a.cau.waits ∧ b.cau.waits :=
  ⟨by decide +kernel, by decide +kernel, waits_of (by decide +kernel), waits_of (by decide +kernel)⟩

theorem witness_ClaimPlacementKeepsTheFourBest :
    let l : List Claim := [⟨41, 10⟩, ⟨40, 20⟩, ⟨42, 20⟩, ⟨43, 1023⟩]
    claimsLaw l ∧ (0 : Nat) ≤ 1023 ∧ (⟨43, 1023⟩ : Claim) ∉ placeClaim ⟨44, 1022⟩ l
    ∧ (⟨44, 1023⟩ : Claim) ∉ placeClaim ⟨44, 1023⟩ l ∧ placeClaim ⟨43, 15⟩ l ≠ l := by decide +kernel

/-- R76: one offer for each reason, and one that passes every test. -/
theorem witness_OfferIsJudgedOnceAtAdmission :
    let o : OfferBody := ⟨16, ⟨12450, 7400⟩, 5, 20, 1, false, []⟩
    let f : Frame := frame (.offer o)
    let told (a : Avail) : State := { cab with ofb := { cab.ofb with avail := some a } }
    (f.body = .offer o ∧ cab.cpt.config = some stn ∧ cab.ppu.position = some ⟨12300, 7750⟩)
    ∧ (board { entry .watch with key := ⟨3, 16⟩ }).entry ⟨f.origin, o.job⟩
      = some (4, { entry .watch with key := ⟨3, 16⟩ })
    ∧ (cab.entry ⟨f.origin, o.job⟩ = none ∧ lowestFree cab.ofb.slots = some 0)
    ∧ ({ o with window := 19 }.window < 20 ∧ (told .alarm).ofb.avail = some .alarm ∧ (told .hired).ofb.avail ≠ some .free
      ∧ { o with mask := 2 }.mask.getLsbD stn.vclass = false ∧ cab.inBidSet { o with zone := 6 }.zone = false
      ∧ stn.maxDist < distance ⟨12300, 7750⟩ ⟨13000, 7400⟩)
    ∧ (20 ≤ o.window ∧ cab.ofb.avail = some .free ∧ o.mask.getLsbD stn.vclass = true ∧ cab.inBidSet o.zone = true
      ∧ distance ⟨12300, 7750⟩ o.pickup ≤ stn.maxDist) := by decide +kernel

/-- R74: a full board with terminal entries, of which the one in slot 6 ended first but has its DROP waiting. -/
def fullBoard (st : OfferState) : State :=
  let entries := (List.range 16).map fun i => some { entry st with
    key := ⟨9, i⟩
    termTime := some (if i = 6 then 5 else 10 + i)
    dropMark := if i = 6 then some ⟨5, none⟩ else none }
  { cab with ofb := { cab.ofb with slots := entries } }

theorem witness_FullBoardGivesUpASlot :
    let past (s : State) (e : BoardEntry) : Prop := e.state.live = false ∧ e.dropMark = none
      ∧ s.cau.holds (.drop e.key) = false ∧ s.cau.airs (.drop e.key) = false
    (∀ st ∈ [OfferState.watch, .lost], (fullBoard st).entry ⟨3, 16⟩ = none
      ∧ lowestFree (fullBoard st).ofb.slots = none)
    ∧ noSlot (fullBoard .watch).ofb.slots (past (fullBoard .watch))
    ∧ firstSlot (fullBoard .lost).ofb.slots (past (fullBoard .lost)) (·.termTime.getD 0) 0
    ∧ ({ cab with ppu := { cab.ppu with position := none } }.ppu.position.map fun here => distance here ⟨0, 0⟩) = none :=
  ⟨by decide +kernel, noSlot_of (by decide +kernel), firstSlot_of (by decide +kernel), rfl⟩

theorem witness_ClaimPointsOfferTheClaim :
    let e := entry .opened
    let later := { e with claimPoint := some (t0 + 1) }
    (slotGet (board e).ofb.slots 4 = some e ∧ (board e).ofb.keyLaw ∧ e.state = .opened ∧ e.claimPoint = some t0
      ∧ t0 ≤ (board e).now)
    ∧ (slotGet (board later).ofb.slots 4 = some later ∧ (board later).ofb.keyLaw ∧ (board later).now < t0 + 1)
    ∧ (slotGet (board (entry .watch)).ofb.slots 4 = some (entry .watch) ∧ (entry .watch).state ≠ .opened)
    ∧ (board e).room := ⟨by decide +kernel, by decide +kernel, by decide +kernel, room_of (by decide +kernel)⟩

def confirming (s : State) : State :=
  { s with cpt := { s.cpt with config := some { stn with bidMode := BidMode.confirm } } }

theorem witness_LatestClaimPointsEndTheClaim :
    (∀ st ∈ [OfferState.opened, .claimPending, .watch], slotGet (board (entry st)).ofb.slots 4 = some (entry st)
      ∧ (board (entry st)).ofb.keyLaw ∧ (entry st).latestTaken = false ∧ (entry st).latestPoint ≤ (board (entry st)).now)
    ∧ (entry .opened).claimMark = none ∧ (confirming (board (entry .opened))).bidMode = .confirm
    ∧ (entry .opened).acceptTime = none ∧ (board (entry .claimPending)).cau.airs (.claim job) = false
    ∧ (keying (.own (.claim job)) (board (entry .claimPending))).cau.airs (.claim job) = true := by decide +kernel

theorem witness_DriverAcceptsOrPasses :
    let early := { entry .opened with computedPoint := t0 }
    let late := { entry .opened with computedPoint := t0 - 1 }
    let done := { entry .opened with acceptTime := some 0 }
    (∀ e ∈ [early, late, done, entry .unanswered, entry .watch, entry .claimPending],
      let s := confirming (board e)
      s.ready .run ∧ (4 : Byte).toNat < 16 ∧ slotGet s.ofb.slots (4 : Byte).toNat = some e ∧ s.ofb.keyLaw
        ∧ s.bidMode = .confirm)
    ∧ (early.state = .opened ∧ early.acceptTime = none ∧ cab.now ≤ early.computedPoint)
    ∧ (late.acceptTime = none ∧ late.computedPoint < cab.now ∧ done.acceptTime ≠ none)
    ∧ (board early).bidMode = .auto ∧ (confirming (board late)).room :=
  ⟨by decide +kernel, by decide +kernel, by decide +kernel, by decide +kernel, room_of (by decide +kernel)⟩

theorem witness_CloseRanks :
    let e (l : List Claim) := { entry .claimed with claims := l }
    let own : Claim := ⟨517, 67⟩
    let c (n : Nat) : Claim := ⟨n, n⟩
    (∀ l ∈ [[], [c 40], [c 40, own], [c 40, c 41, own], [c 40, c 41, c 42, own], [own, c 90]],
      slotGet (board (e l)).ofb.slots 4 = some (e l) ∧ (e l).closeTaken = false ∧ (e l).close ≤ (board (e l)).now
        ∧ (e l).state = .claimed ∧ (board (e l)).ofb.keyLaw)
    ∧ ((∀ x ∈ [c 40], x.id ≠ cab.ownId) ∧ own.id = cab.ownId
      ∧ ([] : List Claim) ++ own :: [c 90] = (e [own, c 90]).claims ∧ [c 40, c 41] ++ own :: [] = (e [c 40, c 41, own]).claims
      ∧ [c 40] ++ own :: [] = (e [c 40, own]).claims ∧ [c 40, c 41, c 42] ++ own :: [] = (e [c 40, c 41, c 42, own]).claims)
    ∧ (slotGet (board (entry .watch)).ofb.slots 4 = some (entry .watch) ∧ (entry .watch).state ≠ .claimed) := by
  decide +kernel

theorem witness_TakeTurnsWin :
    let ranked := { entry .ranked with
      rank := some 1
      close := t0 - 3000 * ms }
    let first := { entry .claimed with claims := [⟨517, 67⟩] }
    let gone : State := { board ranked with ofb := { (board ranked).ofb with avail := some .noFix } }
    (slotGet (board ranked).ofb.slots 4 = some ranked ∧ (board ranked).ofb.keyLaw ∧ ranked.state = .ranked
      ∧ ranked.close + ranked.rank.getD 0 * (3000 * ms) ≤ (board ranked).now ∧ (board ranked).ofb.avail = some .free
      ∧ (board ranked).ret.fare = .vacant ∧ ∀ x ∈ slotEntries (board ranked).ofb.slots, x.state ≠ .claimPending)
    ∧ (slotGet (board first).ofb.slots 4 = some first ∧ (board first).ofb.keyLaw ∧ first.state = .claimed
      ∧ first.closeTaken = false ∧ first.close ≤ (board first).now ∧ first.claims = ⟨517, 67⟩ :: []
      ∧ (⟨517, 67⟩ : Claim).id = (board first).ownId)
    ∧ (slotGet gone.ofb.slots 4 = some ranked ∧ gone.ofb.keyLaw ∧ gone.ofb.avail ≠ some .free)
    ∧ (board ranked).room := ⟨by decide +kernel, by decide +kernel, by decide +kernel, room_of (by decide +kernel)⟩

theorem witness_ReleaseJobDropsTheJob :
    (∀ st ∈ [OfferState.taking, .taken],
      let s := onCall (entry st)
      s.ready .run ∧ (1 : Byte).toNat ≤ 1 ∧ s.ofb.keyLaw ∧ s.jobEntry = some (4, entry st) ∧ s.ret.fare = .onCall
        ∧ s.ofb.avail ≠ some .free ∧ s.cau.holds (.take job) = false ∧ s.cau.defers (.take job) = false)
    ∧ (cab.ready .run ∧ cab.ofb.keyLaw ∧ cab.jobEntry = none)
    ∧ (onCall (entry .taking)).room ∧ (onCall (entry .taken)).room :=
  ⟨by decide +kernel, by decide +kernel, room_of (by decide +kernel), room_of (by decide +kernel)⟩

theorem witness_ClaimHeardIsPlacedOrOutbids :
    let f := frame (.claim job 5 none)
    let l : List Claim := [⟨41, 10⟩, ⟨42, 20⟩]
    let better (e : BoardEntry) := ((placeClaim ⟨f.origin, 5⟩ e.claims).filter fun c => decide
      (c.score < e.score.getD 0 ∨ (c.score = e.score.getD 0 ∧ c.id < cab.ownId))).length
    f.body = .claim job 5 none ∧ cab.ofb.keyLaw ∧ cab.entry job = none
    ∧ (∀ e ∈ [{ entry .claimed with closeTaken := true }, entry .watch, entry .opened,
        { entry .opened with claims := l }, { entry .claimPending with claims := l }],
      (board e).entry job = some (4, e) ∧ (board e).ofb.keyLaw)
    ∧ better (entry .opened) < 3 ∧ 3 ≤ better { entry .opened with claims := l }
    ∧ 3 ≤ better { entry .claimPending with claims := l } := by decide +kernel

theorem witness_TakeHeardEndsOrSettlesTheJob :
    (∀ st ∈ [OfferState.opened, .claimed, .ranked, .claimPending, .watch, .done, .lost, .taking, .taken],
      (board (entry st)).entry job = some (4, entry st) ∧ (board (entry st)).ofb.keyLaw ∧ (entry st).claimMark = none)
    ∧ (frame (.take job 67 0 false)).body = .take job 67 0 false ∧ (entry .lost).state.live = false
    ∧ (∀ st ∈ [OfferState.taking, .taken],
      let s := onCall (entry st)
      s.entry job = some (4, entry st) ∧ s.ofb.keyLaw ∧ s.ret.fare = .onCall ∧ (entry st).reason = none
        ∧ (67 = (entry st).score.getD 0 ∧ (frame (.take job 67 0 false)).origin < s.ownId)
        ∧ ¬ (68 < (entry st).score.getD 0 ∨ 68 = (entry st).score.getD 0) ∧ s.ofb.avail ≠ some .free
        ∧ s.cau.holds (.take job) = false ∧ s.cau.defers (.take job) = false)
    ∧ { entry .taken with repeatUsed := true }.repeatUsed = true ∧ (entry .taken).repeatUsed = false
    ∧ (onCall (entry .taking)).room ∧ (onCall (entry .taken)).room :=
  ⟨by decide +kernel, by decide +kernel, by decide +kernel, by decide +kernel, by decide +kernel, by decide +kernel,
    room_of (by decide +kernel), room_of (by decide +kernel)⟩

def logged (k : Option JobKey) : TripRecord :=
  ⟨1, 3, 0, 0, 0, 0, 0, 350, 0, 0, 0, 350, 0, k, ⟨false, false, false, false⟩⟩

theorem witness_CancelWithdrawsAndDropClears :
    let riding := { board (entry .done) with
      ret := { cab.ret with
        fare := .hired
        trip := some { trip with jobKey := some job } } }
    let past := { board (entry .done) with
      ret := { cab.ret with tripLog := [logged none] ++ logged (some job) :: [logged (some job)] } }
    let hailed := { board (entry .done) with ret := { cab.ret with tripLog := [logged none, logged (some ⟨3, 1⟩)] } }
    (∀ st ∈ [OfferState.opened, .claimed, .ranked, .watch, .claimPending, .done, .lost],
      (board (entry st)).ofb.keyLaw ∧ (board (entry st)).entry job = some (4, entry st))
    ∧ (∀ st ∈ [OfferState.taking, .taken], (onCall (entry st)).ofb.keyLaw
      ∧ (onCall (entry st)).entry job = some (4, entry st) ∧ (onCall (entry st)).ret.fare = .onCall)
    ∧ ((frame (.cancel 15 2)).body = .cancel job.job 2 ∧ (frame (.cancel 15 2)).origin = job.base
      ∧ (frame (.drop job 0)).body = .drop job 0)
    ∧ (riding.ofb.keyLaw ∧ riding.entry job = some (4, entry .done)
      ∧ (riding.ret.trip.map (·.jobKey)) = some (some job))
    ∧ (past.ofb.keyLaw ∧ past.entry job = some (4, entry .done) ∧ past.ret.trip = none
      ∧ (logged (some job)).jobKey = some job ∧ ∀ x ∈ [logged none], x.jobKey ≠ some job)
    ∧ (hailed.ofb.keyLaw ∧ hailed.entry job = some (4, entry .done) ∧ hailed.ret.trip = none
      ∧ ∀ x ∈ hailed.ret.tripLog, x.jobKey ≠ some job) := by decide +kernel

/-! ## Witnesses: fares, totals and notes -/

theorem witness_AvailabilityIsTheFirstLineThatHolds :
    (∀ alarm ∈ [AlarmState.arming, .alerting, .covert, .ending], alarm ≠ .quiet)
    ∧ availability .quiet .vacant false true .available = .free ∧ availability .ending .hired false true .off = .alarm := by
  decide +kernel

def shut : State := { cab with ret := { cab.ret with shiftOpen := false } }

theorem witness_DriverStatusAndShift :
    let tally : State := { shut with ttl := ⟨some ⟨⟨3, true, 0, 0, 0, 0, 0, 0⟩, none, .offered⟩, none⟩ }
    (cab.ready .run ∧ cab.ret.shiftOpen = true ∧ cab.ret.fare = .vacant ∧ cab.cpt.config = some stn
      ∧ 1 ≤ stn.home ∧ stn.home ≤ 31 ∧ cab.ttl.shiftTickAt = some (t0 + 1) ∧ t0 + 1 ≤ { cab with now := t0 + 1 }.now)
    ∧ (shut.ready .run ∧ shut.ret.shiftOpen = false ∧ shut.ret.fare = .vacant ∧ shut.ttl.tally = none)
    ∧ (tally.ready .run ∧ (tally.ttl.tally.map (·.body.shiftEnd)) = some true)
    ∧ ((riding .hired trip).ready .run ∧ (riding .hired trip).ret.fare ≠ .vacant)
    ∧ ((board (entry .opened)).ready .run ∧ (board (entry .opened)).ret.alarm = .quiet ∧ cab.ppu.stale = false
      ∧ (board (entry .opened)).fre.avail = some .free ∧ (board (entry .opened)).ofb.avail = some .free
      ∧ slotGet (board (entry .opened)).ofb.slots 4 = some (entry .opened) ∧ 3 ≤ (3 : Byte).toNat) := by decide +kernel

theorem witness_HireStartsATrip :
    let noK := { cab with ret := { cab.ret with k := none } }
    let job_ := onCall (entry .taken)
    (cab.ready .run ∧ 1 ≤ (3 : Byte).toNat ∧ (3 : Byte).toNat ≤ 8 ∧ cab.ret.fare = .vacant ∧ cab.ret.alarm ≠ .alerting
      ∧ cab.ret.shiftOpen = true ∧ slotGet cab.ret.tariffs ((3 : Byte).toNat - 1) = some ⟨350, 20, 120, 24, 2⟩
      ∧ cab.ret.k = some 2000 ∧ ∀ a ∈ cab.ret.surcharges, a ≤ 65535)
    ∧ (noK.ready .run ∧ noK.ret.k = none ∧ noK.ret.fare = .vacant ∧ noK.ret.shiftOpen = true)
    ∧ ((8 : Byte).toNat ≤ 8 ∧ slotGet cab.ret.tariffs ((8 : Byte).toNat - 1) = none)
    ∧ (job_.ready .run ∧ job_.ret.fare = .onCall ∧ job_.ret.alarm ≠ .alerting ∧ job_.ret.shiftOpen = true
      ∧ job_.jobEntry = some (4, entry .taken))
    ∧ ((riding .total trip).ready .run ∧ shut.ready .run ∧ (alarmed .alerting).ready .run) := by decide +kernel

theorem witness_StopFreezes :
    let s (f : FareState) (x : Trip) := riding f x
    let y (x : Trip) := (x.acc + x.bucket * x.incTime) / x.theta
    (∀ x ∈ [trip, dear, { trip with acc := 5759 }, { dear with acc := 5759 }], (s .hired x).ready .run
      ∧ (s .hired x).ret.trip = some x ∧ (s .hired x).fre.secondAt = some t0 ∧ (s .hired x).ret.fare = .hired)
    ∧ ((s .held trip).ready .run ∧ (s .held trip).ret.trip = some trip ∧ (s .held trip).ret.fare = .held)
    ∧ y { trip with acc := 5400 } = 0 ∧ (y trip = 1 ∧ trip.rawTotal < 999999)
    ∧ (y dear = 1 ∧ 999999 ≤ dear.rawTotal ∧ dear.flags.fareLimit = false) := by decide +kernel

theorem witness_ResumeContinues :
    let on := { trip with applied := 1 }
    let out : State := { riding .total trip with ppu := { cab.ppu with zone := 255 } }
    (∀ x ∈ [trip, on, dear], (riding .total x).ready .run ∧ (riding .total x).ret.fare = .total
      ∧ (riding .total x).ret.trip = some x ∧ (riding .total x).zoneSurcharge = some 1)
    ∧ (out.ready .run ∧ out.ret.fare = .total ∧ out.ret.trip = some trip ∧ out.zoneSurcharge = none)
    ∧ (on.hasApplied 1 = true ∧ trip.hasApplied 1 = false ∧ dear.hasApplied 1 = false
      ∧ trip.rawTotal + 300 < 999999 ∧ 999999 ≤ dear.rawTotal + 300 ∧ dear.flags.fareLimit = false) := by decide +kernel

theorem witness_SettleBooksTheTrip :
    (riding .total trip).ready .run ∧ (riding .total trip).cpt.config = some stn ∧ (riding .total trip).ret.fare = .total
    ∧ (riding .total trip).ret.trip = some trip ∧ (2 : Byte).toNat ≤ 2 := by decide +kernel

theorem witness_AddExtraRaisesTheTotal :
    (∀ x ∈ [trip, dear, { trip with extras := List.replicate 7 1 }, { trip with extras := List.replicate 8 1 },
        { trip with flagFall := 999999 - 100 - 9999 }, { trip with flagFall := 999999 - 101 - 9999 }],
      (riding .hired x).ready .run ∧ (riding .hired x).ret.trip = some x ∧ (riding .hired x).ret.fare ≠ .vacant
        ∧ (riding .hired x).ret.fare ≠ .onCall)
    ∧ (cab.ready .run ∧ cab.ret.fare = .vacant ∧ 1 ≤ (9999#16).toNat ∧ (9999#16).toNat ≤ 9999)
    ∧ { trip with flagFall := 999999 - 100 - 9999 }.rawTotal + 9999 = 999999
    ∧ { trip with flagFall := 999999 - 101 - 9999 }.rawTotal + 9999 < 999999 := by decide +kernel

theorem witness_SecondsAreCharged :
    (∀ x ∈ [trip, dear], ∀ f ∈ [FareState.hired, .held], (riding f x).ret.trip = some x
      ∧ (riding f x).fre.secondAt = some t0 ∧ t0 ≤ (riding f x).now ∧ (riding f x).ret.fare = f ∧ 1 ≤ x.theta)
    ∧ (dear.tickHired.units ≠ dear.units ∧ 999999 ≤ dear.tickHired.rawTotal ∧ dear.flags.fareLimit = false)
    ∧ { trip with acc := 0 }.tickHired.units = trip.units := by decide +kernel

theorem witness_PulsesAreCharged :
    let noK := { cab with ret := { cab.ret with k := none } }
    let fast := { trip with bucket := 4000 }
    (noK.powered = true ∧ noK.ret.k = none)
    ∧ (cab.powered = true ∧ cab.ret.k = some 2000 ∧ 500 ≤ (2000 : Nat) ∧ cab.ret.totalRem < 2000 ∧ cab.ret.fare ≠ .hired
      ∧ cab.ret.fare ≠ .held)
    ∧ (∀ f ∈ [FareState.hired, .held], (riding f fast).powered = true ∧ (riding f fast).ret.k = some 2000
      ∧ (riding f fast).ret.trip = some fast ∧ fast.rem < 2000 ∧ (riding f fast).ret.fare = f)
    ∧ (4000 ≤ fast.bucket ∧ trip.bucket < 4000) := by decide +kernel

theorem witness_PostedNotesAreSent :
    let busy := { cab with nts := { cab.nts with outbox := List.replicate 4 (some (outNote .await)) } }
    let ok (n : Nat) : Prop := 1 ≤ (List.replicate n (126 : Byte)).length ∧ (List.replicate n (126 : Byte)).length ≤ 40
      ∧ ([0].take (n % 2) : List Byte).length = (List.replicate n (126 : Byte)).length % 2
      ∧ ∀ c ∈ List.replicate n (126 : Byte), 0x20 ≤ c.toNat ∧ c.toNat ≤ 0x7E
    let past (r : OutNote) : Prop := r.state.live = false
    let rows := (List.range 4).map fun i =>
      some { outNote (if i = 0 then .await else .sent) with termTime := some (if i = 0 then 0 else 10 - i) }
    let ended : State := { cab with nts := { cab.nts with outbox := rows } }
    (cab.ready .run ∧ lowestFree cab.nts.outbox = some 0)
    ∧ (busy.ready .run ∧ lowestFree busy.nts.outbox = none ∧ noSlot busy.nts.outbox past)
    ∧ (ended.ready .run ∧ lowestFree ended.nts.outbox = none ∧ firstSlot ended.nts.outbox past (·.termTime.getD 0) 3)
    ∧ (1 ≤ (4095#16).toNat ∧ (4095#16).toNat ≤ 4095 ∧ (4095#16).toNat ≠ cab.ownId ∧ (7 : Byte).toNat < 8
      ∧ (7 : Byte).getLsbD 2 = true ∧ 1 ≤ (31#16).toNat ∧ (31#16).toNat ≤ 31)
    ∧ cab.room ∧ ok 1 ∧ ok 40 :=
  ⟨by decide +kernel, ⟨by decide +kernel, by decide +kernel, noSlot_of (by decide +kernel)⟩,
    ⟨by decide +kernel, by decide +kernel, firstSlot_of (by decide +kernel)⟩, by decide +kernel,
    room_of (by decide +kernel), by decide, by decide⟩

theorem witness_NotesAreRetried :
    (∀ made ∈ [3, 4],
      let r := { outNote .await with made := made }
      slotGet (outbox r).nts.outbox 2 = some r ∧ r.state = .await ∧ r.retryAt = some t0 ∧ t0 ≤ (outbox r).now)
    ∧ (outbox { outNote .await with made := 3 }).room := ⟨by decide +kernel, room_of (by decide +kernel)⟩

theorem witness_NotesHeardAreStored :
    let f (dest : Nat) (wanted : Bool) := frame (.note (note dest wanted))
    let marked := { inNote .read with storedMark := some ⟨0, none⟩ }
    (∀ dest ∈ [517, 4095, 41], ∀ w ∈ [true, false], (f dest w).body = .note (note dest w))
    ∧ ((note 41 true).dest ≠ cab.ownId ∧ (note 41 true).dest ≠ 4095)
    ∧ (∀ r ∈ [inNote .unread, marked], (inbox r).inNote (f 517 true).origin (note 517 true).id = some (3, r))
    ∧ (cab.inNote (f 517 true).origin (note 517 true).id = none ∧ lowestFree cab.nts.inbox = some 0)
    ∧ cab.room ∧ (inbox (inNote .unread)).room :=
  ⟨by decide +kernel, by decide +kernel, by decide +kernel, by decide +kernel, room_of (by decide +kernel),
    room_of (by decide +kernel)⟩

def crowded : State :=
  { cab with nts := { cab.nts with inbox := (List.range 12).map fun i => some { inNote .unread with id := 20 + i } } }

/-- An inbox of READ notes, urgent but for those that `plain` names, the first of them to arrive in slot 4 holding a mark, with
one DELETED note or none. -/
def readInbox (deleted : Bool) (plain : Nat → Bool) : State :=
  { cab with nts := { cab.nts with inbox := (List.range 12).map fun i => some { inNote .read with
    id := 20 + i
    urgent := !plain i
    arrival := if i = 4 then 1 else 10 + i
    storedMark := if i = 4 then some ⟨1, none⟩ else none
    state := if deleted && i == 9 then .deleted else .read } } }

theorem witness_FullInboxGivesUpASlot :
    let free (p : InNote → Prop) (r : InNote) : Prop := r.storedMark = none ∧ r.readMark = none ∧ p r
    let deleted := free fun r => r.state = .deleted
    let read := free fun r => r.state = .read
    let plain := free fun r => r.state = .read ∧ r.urgent = false
    let a := readInbox true fun _ => true
    let b := readInbox false fun i => decide (i = 7)
    let c := readInbox false fun _ => false
    (∀ s ∈ [a, b, c], s.inNote 40 9 = none ∧ lowestFree s.nts.inbox = none)
    ∧ firstSlot a.nts.inbox deleted (·.arrival) 9
    ∧ (noSlot b.nts.inbox deleted ∧ firstSlot b.nts.inbox plain (·.arrival) 7)
    ∧ (noSlot c.nts.inbox deleted ∧ noSlot c.nts.inbox plain ∧ firstSlot c.nts.inbox read (·.arrival) 0) :=
  ⟨by decide +kernel, firstSlot_of (by decide +kernel),
    ⟨noSlot_of (by decide +kernel), firstSlot_of (by decide +kernel)⟩,
    noSlot_of (by decide +kernel), noSlot_of (by decide +kernel), firstSlot_of (by decide +kernel)⟩

/-- R149: the list without the pair, with it, and with four others. -/
theorem witness_RefusalsAreListed :
    let p (n : Nat) : RefusedPair := ⟨40, n, ⟨5, none⟩⟩
    let s (l : List RefusedPair) : State := full 3 .relay { crowded with nts := { crowded.nts with refusals := l } }
    (∀ l ∈ [[], [p 9], [p 1, p 2, p 3], [p 1, p 2, p 3, p 4]], (s l).cpt.part = .run ∧ 8 ≤ (s l).cau.count
      ∧ (s l).nts.refusals = l ∧ ∀ x ∈ (s l).cau.queue, x.cls ≤ 3)
    ∧ (∀ l, (s l).cau.waits) := ⟨by decide +kernel, fun l => waits_of rfl⟩

theorem witness_NotesHeardAreRefused :
    (∀ n ∈ [note 517 true, note 517 false, note 4095 true], (n.dest = crowded.ownId ∨ n.dest = 4095)
      ∧ crowded.inNote (frame (.note n)).origin n.id = none)
    ∧ (∀ x ∈ crowded.nts.inbox, (x.map (·.state)) = some .unread) ∧ crowded.room :=
  ⟨by decide +kernel, by decide +kernel, room_of (by decide +kernel)⟩

theorem witness_NotesAreReadDeletedCleared :
    (∀ r ∈ [inNote .unread, { inNote .unread with toAll := true }, inNote .read, inNote .deleted],
      (inbox r).ready .run ∧ (3 : Byte).toNat < 12 ∧ slotGet (inbox r).nts.inbox (3 : Byte).toNat = some r)
    ∧ ((inNote .unread).toAll = false ∧ (inNote .unread).wanted = true)
    ∧ ((outbox (outNote .sent)).ready .run ∧ (outbox (outNote .sent)).nts.outbox.length = 4)
    ∧ (inbox (inNote .unread)).room :=
  ⟨by decide +kernel, by decide +kernel, by decide +kernel, room_of (by decide +kernel)⟩

theorem witness_NotesAreAnswered :
    (∀ st ∈ [OutState.pending, .queued, .await, .sent, .delivered, .read, .refused, .failed],
      slotFind (fun r : OutNote => r.id == 9 && r.dest == (frame (.receipt 517 9 .read)).origin)
        (outbox (outNote st)).nts.outbox 0 = some (2, outNote st))
    ∧ (frame (.receipt 517 9 .read)).body = .receipt cab.ownId 9 .read ∧ (outNote .await).state.live = true := by
  decide +kernel

/-! ## Witnesses: alarms and the port -/

/-- The switch held to its end in this state. -/
def pressed (s : State) : State :=
  { s with
    ret := { s.ret with alarm := .arming }
    pins := { s.pins with panicLow := true }
    emu := { s.emu with
      panicLow := true
      holdAt := some t0 } }

/-- The pin of PANIC at this level, its filter expiring at this time. -/
def filtering (low : Bool) (time : Nat) (s : State) : State :=
  { s with
    pins := { s.pins with panicLow := low }
    emu := { s.emu with filterAt := some time } }

theorem witness_AlertingIsEntered :
    (cab.ready .run ∧ cab.ret.alarm = .quiet ∧ cab.ret.fare ≠ .hired ∧ cab.jobEntry = none
      ∧ (∀ x ∈ cab.cau.queue, x.owner.inGroup .class0 = false) ∧ (∀ a ∈ cab.cau.onAir, a.entry.owner.inGroup .class0 = false)
      ∧ ∀ e ∈ slotEntries cab.ofb.slots, e.state ≠ .claimPending)
    ∧ (∀ s ∈ [cab, riding .hired trip, onCall (entry .taken)], (pressed s).ret.alarm = .arming
      ∧ (pressed s).emu.panicLow = true ∧ (pressed s).emu.holdAt = some t0 ∧ t0 ≤ (pressed s).now)
    ∧ ((riding .hired trip).ready .run ∧ (riding .hired trip).ret.alarm = .quiet ∧ (riding .hired trip).jobEntry = none
      ∧ (riding .hired trip).ret.trip = some trip
      ∧ (trip.settlePart (riding .hired trip).partSecond).rawTotal < 999999)
    ∧ ((onCall (entry .taken)).ready .run ∧ (onCall (entry .taken)).ret.alarm = .quiet
      ∧ (onCall (entry .taken)).jobEntry = some (4, entry .taken) ∧ (onCall (entry .taken)).ret.fare = .onCall)
    ∧ cab.room ∧ (pressed cab).room :=
  ⟨by decide +kernel, by decide +kernel, by decide +kernel, by decide +kernel, room_of (by decide +kernel),
    room_of (by decide +kernel)⟩

theorem witness_CancelAlarmEndsOrHides :
    stn.cancelCode ≠ stn.duressCode ∧ (1234#16).toNat = stn.cancelCode ∧ (4321#16).toNat = stn.duressCode
    ∧ (9999#16).toNat ≤ 9999 ∧ (9999#16).toNat ≠ stn.cancelCode ∧ (9999#16).toNat ≠ stn.duressCode
    ∧ (∀ st ∈ [AlarmState.quiet, .alerting, .covert], (alarmed st).ready .run ∧ (alarmed st).cpt.config = some stn
      ∧ (alarmed st).ret.alarm = st ∧ (alarmed st).ret.covert = decide ((alarmed st).ret.alarm = AlarmState.covert)) := by
  decide +kernel

theorem witness_AlarmFramesFollowTheCodes :
    let known (s : State) : State := { s with fre := { s.fre with avail := some .alarm } }
    let bare := known (alarmed .alerting)
    let e := waiting 0 (.own .alarm) (.alarm 5 0 true false ⟨0, 0⟩)
    let unsent := queued ([waiting 2 .relay (.cancel 1 0)] ++ e :: []) bare
    let air := keying (.own .alarm) (queued [e] (known (alarmed .covert)))
    (∀ s ∈ [bare, unsent, air], s.ready .run ∧ s.fre.avail = some .alarm ∧ s.standingMarks = [] ∧ s.cau.count < 8
      ∧ ∀ x ∈ s.cau.queue, x.owner.inGroup .class0 = true → x.owner = .own .alarm)
    ∧ (e.owner = .own .alarm ∧ (∀ x ∈ [waiting 2 .relay (.cancel 1 0)], x.owner.inGroup .class0 = false) ∧ bare.cau.onAir = none
      ∧ (air.cau.onAir.map (·.entry.owner.inGroup .class0)) = some true)
    ∧ bare.cau.waits ∧ unsent.cau.waits ∧ air.cau.waits :=
  ⟨by decide +kernel, by decide +kernel, waits_of (by decide +kernel), waits_of (by decide +kernel),
    waits_of (by decide +kernel)⟩

theorem witness_HiddenSwitchArmsAndDisarms :
    let press := filtering true t0 cab
    let release := filtering false t0 (pressed cab)
    (press.powered = true ∧ press.pins.panicLow = true ∧ press.emu.filterAt = some t0 ∧ t0 ≤ press.now
      ∧ press.emu.panicLow = false ∧ press.ret.alarm = .quiet)
    ∧ (release.powered = true ∧ release.pins.panicLow = false ∧ release.emu.filterAt = some t0 ∧ t0 ≤ release.now
      ∧ release.emu.panicLow = true ∧ release.ret.alarm = .arming)
    ∧ ((filtering true t0 (alarmed .alerting)).powered = true ∧ (alarmed .alerting).ret.alarm ≠ .quiet
      ∧ (alarmed .alerting).ret.alarm ≠ .arming)
    ∧ ((filtering true (t0 + 1) cab).emu.filterAt = some (t0 + 1) ∧ (filtering true (t0 + 1) cab).now < t0 + 1)
    ∧ (cab.pins.panicLow ≠ true ∧ Instr.panicPress ≠ .panicLevelChange true) := by decide +kernel

theorem witness_AlarmTimers :
    let timed (st : AlarmState) (n : Nat) : State := { alarmed st with
      emu := { cab.emu with
        repeats := n
        repeatAt := some t0 } }
    let gap : State := { alarmed .ending with
      emu := { cab.emu with
        ending := some .gap
        gapAt := some t0 } }
    let second : State := keying (.own .alarmEnd) { alarmed .ending with emu := { cab.emu with ending := some .second } }
    let lit : State := { alarmed .alerting with emu := { cab.emu with flash := some ⟨true, t0⟩ } }
    (∀ n ∈ [28, 29, 255], ∀ st ∈ [AlarmState.alerting, .covert], (timed st n).ret.alarm = st
      ∧ (timed st n).emu.repeatAt = some t0 ∧ t0 ≤ (timed st n).now
      ∧ (∀ x ∈ (timed st n).cau.queue, x.owner.inGroup .class0 = false)
      ∧ ∀ a ∈ (timed st n).cau.onAir, a.entry.owner.inGroup .class0 = false)
    ∧ (gap.emu.ending = some .gap ∧ gap.emu.gapAt = some t0 ∧ t0 ≤ gap.now)
    ∧ ((second.cau.onAir.map (·.entry.owner)) = some (.own .alarmEnd) ∧ second.emu.ending = some .second)
    ∧ lit.emu.flash = some ⟨true, t0⟩ ∧ (timed .alerting 29).room ∧ gap.room :=
  ⟨by decide +kernel, by decide +kernel, by decide +kernel, by decide +kernel, room_of (by decide +kernel),
    room_of (by decide +kernel)⟩

/-- R174, R177: an entry heard straight from its cab takes hop 1 from a relayed ALARM-END that ends it, and keeps hop 0 when the
serial is another and the frame is ignored. -/
theorem test_relayed_alarm_end_gives_its_hop :
    let relayed : Frame := { frame (.alarmEnd 5 ⟨1, 2⟩) with sender := 41, relayed := true }
    let hops (serial : Nat) : List Nat := (slotEntries ((withAlarm (alarmRow .active 0 none)).alarmEndHeard relayed t0 serial
      ⟨1, 2⟩).emu.table).map (·.hop)
    (alarmRow .active 0 none).hop = 0 ∧ hops 5 = [1] ∧ hops 6 = [0] := by decide +kernel

theorem witness_AlarmTableFollowsTheFrames :
    let raised := frame (.alarm 5 1 true true ⟨1, 2⟩)
    let ended := frame (.alarmEnd 5 ⟨1, 2⟩)
    (raised.body = .alarm 5 1 true true ⟨1, 2⟩ ∧ ended.body = .alarmEnd 5 ⟨1, 2⟩)
    ∧ (cab.alarmOf raised.origin = none ∧ lowestFree cab.emu.table = some 0)
    ∧ (∀ a ∈ [alarmRow .active 0 none, alarmRow .ended 0 (some 0), { alarmRow .silent 0 none with serial := 4 }],
      (withAlarm a).alarmOf raised.origin = some (3, a)) := by decide +kernel

/-- R176: a full table of alarms in these states, the later slots heard and ended the earlier. -/
def alarms (l : List HeardState) : State :=
  let row (i : Nat) (st : HeardState) : AlarmEntry := ⟨70 + i, 5, 0, 20 - i, some (20 - i), none, false, 0, 1, 0, st⟩
  { cab with emu := { cab.emu with table := l.mapIdx fun i st => some (row i st) } }

theorem witness_FullAlarmTableGivesUpASlot :
    let in_ (st : HeardState) (a : AlarmEntry) : Prop := a.state = st
    let a := alarms [.ended, .ended, .silent, .active]
    let b := alarms [.silent, .silent, .active, .active]
    let c := alarms [.active, .active, .active, .active]
    (∀ s ∈ [a, b, c], s.alarmOf 40 = none ∧ lowestFree s.emu.table = none)
    ∧ firstSlot a.emu.table (in_ .ended) (·.endedTime.getD 0) 1
    ∧ (noSlot b.emu.table (in_ .ended) ∧ firstSlot b.emu.table (in_ .silent) (·.lastHeard) 1)
    ∧ (noSlot c.emu.table (in_ .ended) ∧ noSlot c.emu.table (in_ .silent)
      ∧ firstSlot c.emu.table (in_ .active) (·.lastHeard) 3) :=
  ⟨by decide +kernel, firstSlot_of (by decide +kernel),
    ⟨noSlot_of (by decide +kernel), firstSlot_of (by decide +kernel)⟩,
    noSlot_of (by decide +kernel), noSlot_of (by decide +kernel), firstSlot_of (by decide +kernel)⟩

def events (l : List Event) : State := { cab with cpt := { cab.cpt with events := l } }

/-- Events of sixteen subjects. -/
def sixteen (k : EventKind) : List Event := (List.range 16).map fun i => ⟨k, i, 0, 1⟩

theorem witness_RaisedEventsMergeOrDisplace :
    let e : Event := ⟨.offerNew, 7, 0, 255⟩
    let l := sixteen .offerLost
    ((events ([] ++ e :: [⟨.start, 0, 0, 1⟩])).cpt.events = [] ++ e :: [⟨.start, 0, 0, 1⟩] ∧ e.kind = .offerNew
      ∧ e.subject = 7 ∧ ∀ x ∈ ([] : List Event) ++ [⟨.start, 0, 0, 1⟩], ¬ (x.kind = .offerNew ∧ x.subject = 7))
    ∧ (cab.cpt.events.length < 16 ∧ cab.cpt.eventLaw)
    ∧ ((events l).cpt.eventLaw ∧ 16 ≤ l.length ∧ l = [] ++ ⟨.offerLost, 0, 0, 1⟩ :: l.tail
      ∧ ∀ x ∈ l, ¬ (x.kind = .alarmHeard ∧ x.subject = 40))
    ∧ ((events (sixteen .alarmEnded)).cpt.eventLaw ∧ ∀ x ∈ sixteen .alarmEnded, x.kind = .alarmEnded ∧ x.subject ≠ 40) := by
  decide +kernel

theorem witness_SenseEventRemovesTheOldest :
    let e : Event := ⟨.offerNew, 3, 0, 255⟩
    (cab.powered = true ∧ cab.cpt.phase = .ready ∧ cab.cpt.events = [])
    ∧ ((events [e, ⟨.offerNew, 7, 0, 2⟩]).powered = true ∧ (events [e, ⟨.offerNew, 7, 0, 2⟩]).cpt.phase = .ready
      ∧ (events [e, ⟨.offerNew, 7, 0, 2⟩]).cpt.events = e :: [⟨.offerNew, 7, 0, 2⟩]
      ∧ (∀ x ∈ [(⟨.offerNew, 7, 0, 2⟩ : Event)], ¬ e.clash x) ∧ [(⟨.offerNew, 7, 0, 2⟩ : Event)].length < 16) := by
  decide +kernel

/-- The HIRE of section 11.7 is the bytes 0x40, 0x03. -/
theorem witness_CommandRowsAreTheirBytes :
    (Instr.hire 3).command = some (.operating, 0x40, [3]) ∧ (Instr.hire 3).wellFormed = true
    ∧ (Instr.restart true).command = some (.any, 0x12, []) ∧ (Instr.restart true).wellFormed = true
    ∧ (Instr.loadZone (List.replicate 255 0)).wellFormed = true
    ∧ (Instr.loadZone (List.replicate 255 0)).command = some (.config, 0x02, 255 :: List.replicate 255 0) := by
  decide +kernel

def port (c : Cpt) : State := { cab with cpt := c }

/-- R188, R179: after a reset a cut byte of the transaction then in progress sets no PHASE-ERROR, one of a new transaction does,
whether the reset came between two bytes or inside the first. -/
theorem test_partial_byte_after_a_reset :
    ∀ csnLow older : Bool, ((port (.reset csnLow)).partialByte older).cpt.phaseError = !older := by decide +kernel

/-- R179: the part sends the result byte while CSN is low, SDO is high impedance once CSN has risen, and clocks are then
ignored. -/
theorem test_sdo_follows_csn :
    let s : State := (port { cab.cpt with phase := .result, result := [0, 7] }).setCsn true
    (s.hostByte false 0).sdoPin = some 0 ∧ ((s.hostByte false 0).afterByte true).sdoPin = none
    ∧ (((s.hostByte false 0).afterByte true).hostByte false 0).cpt.result = [7] := by decide +kernel

theorem witness_PortPhasesTakeTheirBytes :
    let params (time : Nat) : Cpt := { cab.cpt with
      phase := .param
      code := 0x01
      params := List.replicate 15 0
      abandonAt := some time }
    let result (m : Muting) : Cpt := { cab.cpt with
      phase := .result
      result := [0]
      muted := m }
    (cab.powered = true ∧ cab.cpt.phase = .ready ∧ (0xEE : Byte) ≠ 0 ∧ shapeOf 0xEE = none ∧ cab.cpt.muted = .off)
    ∧ ((port (params t0)).powered = true ∧ (port (params t0)).cpt.phase = .param ∧ (port (params t0)).cpt.muted = .off
      ∧ shapeOf (port (params t0)).cpt.code = some (.fixed 17) ∧ (port (params t0)).cpt.params.length + 1 < 17
      ∧ (port (params t0)).cpt.abandonAt = some t0 ∧ t0 ≤ (port (params t0)).now)
    ∧ ((port (params (t0 + 1))).cpt.abandonAt = some (t0 + 1) ∧ (port (params (t0 + 1))).now < t0 + 1)
    ∧ ((port (result .off)).powered = true ∧ (port (result .off)).cpt.phase = .result
      ∧ (port (result .off)).cpt.result = 0 :: [] ∧ (port (result .off)).cpt.muted = .off)
    ∧ ((port (params t0)).pins.csnLow = false ∧ (port (result .off)).pins.csnLow = false)
    ∧ (((port (params t0)).setCsn true).pins.csnLow = true ∧ ((port (params t0)).setCsn true).cpt.muted = .off
      ∧ ((port (result .off)).setCsn true).pins.csnLow = true ∧ ((port (result .off)).setCsn true).cpt.muted = .off)
    ∧ (∀ m ∈ [Muting.armed, .on], (port (result m)).powered = true ∧ (port (result m)).cpt.muted = m) := by decide +kernel

/-- R156, step 1, for cab 40. -/
def posts (l : List Byte) : Bool := cab.postOk (postedOf l) l.length

/-- A POST-NOTE for each ground of step 1 of R156, at the edge of its range: the length byte, n of 0 and of 41, the destinations 0,
4096 and own, flags of 8, the bases 0 and 32 under a job reference, and the characters 0x1F and 0x7F. -/
def refusedPosts : List (List Byte) :=
  [[0, 1, 0, 0, 0, 0, 0, 1, 0x41], [0, 1, 0, 0, 0, 0, 0, 0], [0, 1, 0, 0, 0, 0, 0, 41] ++ List.replicate 42 0x41,
    [0, 0, 0, 0, 0, 0, 0, 1, 0x41, 0], [0x10, 0, 0, 0, 0, 0, 0, 1, 0x41, 0],
    wordBytes (BitVec.ofNat 16 cab.ownId) ++ [0, 0, 0, 0, 0, 1, 0x41, 0], [0, 1, 8, 0, 0, 0, 0, 1, 0x41, 0],
    [0, 1, 4, 0, 0, 0, 0, 1, 0x41, 0], [0, 1, 4, 0, 32, 0, 0, 1, 0x41, 0], [0, 1, 0, 0, 0, 0, 0, 1, 0x1F, 0],
    [0, 1, 0, 0, 0, 0, 0, 2, 0x41, 0x7F]]

theorem witness_RefusedCommandsChangeNothing :
    (cab.powered = true ∧ cab.cpt.phase = .ready ∧ cab.cpt.part = .run ∧ Instr.go.command = some (.config, 0x0F, []))
    ∧ (bench.powered = true ∧ bench.cpt.phase = .ready ∧ bench.cpt.part = .config
      ∧ (Instr.hire 3).command = some (.operating, 0x40, [3]))
    ∧ (cab.ready .run ∧ cab.ret.fare ≠ .hired ∧ cab.ret.fare ≠ .held ∧ cab.ret.fare ≠ .total)
    ∧ (slotGet cab.ppu.peers (31 : Byte).toNat = none ∧ slotGet cab.ofb.slots (15 : Byte).toNat = none
      ∧ cab.ret.tripLog.length ≤ (0 : Byte).toNat ∧ slotGet cab.nts.inbox (11 : Byte).toNat = none
      ∧ slotGet cab.nts.outbox (3 : Byte).toNat = none ∧ slotGet cab.emu.table (3 : Byte).toNat = none)
    ∧ (4095 ≤ (4095#16).toNat ∧ 2 ^ 17 ≤ (0x20000#24).toNat)
    ∧ (let l : List Byte := [0, 1, 4, 0, 32, 0, 0, 1, 0x7F, 0]
      (l.getD 2 0).getLsbD 2 = true ∧ 31 < (l.getD 3 0).toNat * 256 + (l.getD 4 0).toNat
      ∧ ∃ x ∈ (l.drop 8).take (l.getD 7 0).toNat, x.toNat < 0x20 ∨ 0x7E < x.toNat)
    ∧ posts [0x0F, 0xFF, 0, 0, 0, 0, 0, 1, 0x41, 0] = true
    ∧ (∀ l ∈ refusedPosts, posts l = false) := by
  decide +kernel

theorem witness_ResetsAndSupplies :
    cab.powered = true ∧ cab.cpt.phase = .ready ∧ cab.storeLost = false ∧ cab.check = storeCheck cab.ret
    ∧ { cab with storeLost := true }.storeLost = true ∧ { cab with powered := false }.powered = false :=
  ⟨rfl, rfl, rfl, rfl, rfl, rfl⟩

theorem witness_ConfigureAndLoadZone :
    (State.reset.ready .config ∧ bench.ready .config)
    ∧ ((32 ≤ (4094#16).toNat ∧ (4094#16).toNat ≤ 4094) ∧ (254 : Byte).toNat ≤ 254 ∧ 10 ≤ (120 : Byte).toNat
      ∧ (120 : Byte).toNat ≤ 120)
    ∧ ¬ (4095#16).toNat ≤ 4094 ∧ (List.replicate 8 (255 : Byte)).length ≤ 8 ∧ (63 : Byte).toNat ≤ 63
    ∧ (List.replicate 245 (0 : Byte)).length ≤ 245 ∧ (List.replicate 9 (0 : Byte)).length < 10 := by decide +kernel

theorem witness_MeterFigures :
    let k65 : State := { bench with ret := { bench.ret with k := some 7000 } }
    let tar : State := { bench with ret := { bench.ret with tariffs := [some ⟨0, 1, 9999, 1, 0⟩] } }
    (bench.ready .config ∧ bench.ret.k = none ∧ slotEntries bench.ret.tariffs = [])
    ∧ (k65.ready .config ∧ (9362 * 7000 + 500) / 1000 ≤ 65535 ∧ ¬ (9999 * 7000 + 500) / 1000 ≤ 65535)
    ∧ (tar.ready .config ∧ slotEntries tar.ret.tariffs = [⟨0, 1, 9999, 1, 0⟩] ∧ (9999 * 500 + 500) / 1000 ≤ 65535
      ∧ ¬ (9999 * 65000 + 500) / 1000 ≤ 65535)
    ∧ ((65000#16).toNat ≤ 65000 ∧ (999#16).toNat ≤ 999 ∧ (10#16).toNat = 10) := by decide +kernel

theorem witness_GoStartsEveryBlock :
    State.reset.ready .config ∧ State.reset.cpt.config = none
    ∧ ∀ st ∈ [AlarmState.quiet, .alerting, .covert, .ending],
      let s : State := { bench with ret := { bench.ret with alarm := st } }
      s.ready .config ∧ s.cpt.config = some stn ∧ s.ret.alarm = st := by decide +kernel

theorem witness_ReadsReport :
    let s : State := withPeer (board (entry .lost)) (peer 0)
    let t : State := { inbox (inNote .read) with ret := { cab.ret with
      tripLog := List.replicate 16 (logged none)
      covert := true } }
    (s.powered = true ∧ s.cpt.phase = .ready ∧ s.cpt.part = .run)
    ∧ slotGet s.ppu.peers (31 : Byte).toNat = some (peer 0) ∧ slotGet s.ofb.slots (4 : Byte).toNat = some (entry .lost)
    ∧ (s.ofb.slots.length = 16 ∧ (scanOrder 15 16) = [15] ++ 0 :: (List.range 15).tail)
    ∧ (∀ x ∈ cab.ret.trip, x.extras.length ≤ 8)
    ∧ (t.powered = true ∧ t.cpt.phase = .ready ∧ t.cpt.part = .run ∧ t.ret.tripLog[(15 : Byte).toNat]? = some (logged none)
      ∧ slotGet t.nts.inbox (3 : Byte).toNat = some (inNote .read) ∧ (19 : Byte).toNat ≤ 19 ∧ t.nts.inbox.length = 12
      ∧ t.ret.covert = true)
    ∧ slotGet (outbox (outNote .await)).nts.outbox (2 : Byte).toNat = some (outNote .await)
    ∧ (slotGet (withAlarm (alarmRow .active 0 none)).emu.table (3 : Byte).toNat = some (alarmRow .active 0 none)
      ∧ cab.ret.covert = false) := by decide +kernel

/-! ## Witnesses: the laws -/

/-- A TAKEN job, a CLAIM in the queue and a shift open. -/
def working : State :=
  let s := queued [waiting 2 .relay (.cancel 1 0)] (onCall { entry .taken with claims := [⟨41, 10⟩, ⟨517, 67⟩] })
  { s with
    fre := { s.fre with
      avail := some .onCall
      idleSince := none }
    ppu := { s.ppu with avail := some .onCall } }

theorem witness_StoreLaws : working.storeLaw ∧ working.ret.totalsLaw ∧ working.ret.countersLaw :=
  ⟨rfl, by decide +kernel, by decide +kernel⟩

theorem witness_TableLaws :
    (working.cau.queueLaw ∧ working.cau.windowLaw) ∧ (working.cpt.phaseLaw ∧ working.cpt.eventLaw ∧ working.sizeLaw)
    ∧ (working.ofb.keyLaw ∧ working.nts.keyLaw ∧ working.emu.keyLaw ∧ working.ofb.claimLaw) := by decide +kernel

/-- A transaction muted in progress, a hunt and a filter that run. -/
theorem witness_PinLaws :
    let muted : State := { cab with
      pins := { cab.pins with csnLow := true }
      cpt := { cab.cpt with muted := .on } }
    muted.csnLaw ∧ cab.csnLaw ∧ (filtering true t0 cab).filterLaw ∧ cab.filterLaw ∧ working.rru.windowLaw
    ∧ { cab.rru with rx := .hunting syncBits }.windowLaw :=
  ⟨by decide +kernel, by decide +kernel, by decide +kernel, by decide +kernel,
    fun w h => by simp [working, queued, onCall, board, cab, State.withRet, State.withEntry, State.reset, Rru.reset] at h,
    fun w h => by obtain rfl := RxState.hunting.inj h; decide +kernel⟩

/-- The pins of a cab that keys, flashes and holds an event. -/
theorem witness_OutputPinsFollowTheState :
    (keying .relay cab).cau.onAir = some ⟨waiting 2 .relay (.cancel 1 0), 0, t0⟩ ∧ cab.cau.onAir = none
    ∧ cab.emu.flash = none ∧ { cab.emu with flash := some ⟨true, t0⟩ }.flash = some ⟨true, t0⟩
    ∧ cab.powered = true ∧ cab.cpt.phase = .ready := by decide +kernel

theorem witness_DeviceLaws : working.powered = true ∧ working.deviceLaw ∧ working.ret.tripLaw := by decide +kernel

theorem witness_TripLaws :
    (riding .hired trip).ret.tripLaw ∧ (riding .hired trip).sizeLaw ∧ (riding .hired trip).ret.trip = some trip := by
  decide +kernel

theorem witness_RelayAndPeerLaws :
    (held working).relayLaw ∧ (held working).peerLaw ∧ (withPeer working (peer 0)).peerLaw := by decide +kernel

end Sys2Proof.Tests
end

section
/-! PROOFS. The distance between two positions of the fleet grid (R58). -/

namespace Sys2Proof
open Sys2Proof.Machine

/-- The difference of two coordinates, which the model takes in `Nat` as the larger less the smaller, is the absolute value of
their integer difference: neither order of the two truncates. -/
theorem max_sub_min_eq_natAbs (a b : Nat) : max a b - min a b = ((a : Int) - b).natAbs := by
  obtain hab | hba := Nat.le_total a b
  · rw [max_eq_right hab, min_eq_left hab]
    omega
  · rw [max_eq_left hba, min_eq_right hba]
    omega

/-- Settles O14: the model's formula is R58's once each coordinate difference is read as an absolute value. -/
theorem distanceAddsThreeEighthsOfTheSmaller : Obligations.DistanceAddsThreeEighthsOfTheSmaller := by
  intro p q
  simp only [distance, max_sub_min_eq_natAbs]

end Sys2Proof
end

section
/-! PROOFS. Claim lists of the offer board: the order of two records and the placing of one (R71, R87). -/

namespace Sys2Proof
open Sys2Proof.Machine

/-! ## The order of two records -/

theorem better_iff (a b : Claim) : a.better b = true ↔ a.score < b.score ∨ (a.score = b.score ∧ a.id < b.id) := by
  simp [Claim.better]

theorem better_trans {a b c : Claim} (hab : a.better b = true) (hbc : b.better c = true) : a.better c = true := by
  rw [better_iff] at *
  omega

/-- Records of two stations are never equal in the order: the station id breaks a tie of the scores. -/
theorem better_of_not_better {a b : Claim} (hid : a.id ≠ b.id) (hab : ¬ a.better b = true) : b.better a = true := by
  rw [better_iff] at *
  omega

/-! ## Inserting a record -/

/-- The model's insertion is the library's, at the strict order of R71, so what it holds is the library's to say. -/
theorem insertClaim_eq_orderedInsert (c : Claim) (l : List Claim) :
    insertClaim c l = l.orderedInsert (fun a b => a.better b = true) c := by
  induction l with
  | nil => rfl
  | cons x l ih => simp only [insertClaim, List.orderedInsert_cons, ih]

theorem insertClaim_perm (c : Claim) (l : List Claim) : (insertClaim c l).Perm (c :: l) :=
  insertClaim_eq_orderedInsert c l ▸ List.perm_orderedInsert _ c l

@[simp] theorem mem_insertClaim {x c : Claim} {l : List Claim} : x ∈ insertClaim c l ↔ x = c ∨ x ∈ l :=
  (insertClaim_perm c l).mem_iff.trans List.mem_cons

theorem insertClaim_pairwise_better {c : Claim} {l : List Claim} (hl : l.Pairwise fun a b => a.better b = true)
    (hid : ∀ x ∈ l, c.id ≠ x.id) : (insertClaim c l).Pairwise fun a b => a.better b = true := by
  induction l with
  | nil => exact List.pairwise_singleton _ c
  | cons x l ih =>
    obtain ⟨hx, hl'⟩ := List.pairwise_cons.mp hl
    rw [insertClaim]
    split
    next hcx =>
      refine List.pairwise_cons.mpr ⟨fun y hy => ?_, hl⟩
      obtain rfl | hy := List.mem_cons.mp hy
      · exact hcx
      · exact better_trans hcx (hx y hy)
    next hcx =>
      refine List.pairwise_cons.mpr ⟨fun y hy => ?_, ih hl' fun y hy => hid y (List.mem_cons_of_mem x hy)⟩
      obtain rfl | hy := mem_insertClaim.mp hy
      · exact better_of_not_better (hid x List.mem_cons_self) hcx
      · exact hx y hy

theorem insertClaim_pairwise_id_ne {c : Claim} {l : List Claim} (hl : l.Pairwise fun a b => a.id ≠ b.id)
    (hid : ∀ x ∈ l, c.id ≠ x.id) : (insertClaim c l).Pairwise fun a b => a.id ≠ b.id :=
  (List.pairwise_cons.mpr ⟨hid, hl⟩).perm (insertClaim_perm c l).symm Ne.symm

/-! ## Placing a record -/

theorem id_ne_of_mem_filter {x c : Claim} {l : List Claim} (hx : x ∈ l.filter fun x => x.id != c.id) : c.id ≠ x.id :=
  (bne_iff_ne.mp (List.mem_filter.mp hx).2).symm

/-- The list that R71 cuts to four: the station's earlier record is out of it and the new one is in. -/
def uncutClaims (c : Claim) (l : List Claim) : List Claim := insertClaim c (l.filter fun x => x.id != c.id)

theorem placeClaim_eq_take (c : Claim) (l : List Claim) : placeClaim c l = (uncutClaims c l).take 4 := rfl

@[simp] theorem mem_uncutClaims {x c : Claim} {l : List Claim} :
    x ∈ uncutClaims c l ↔ x = c ∨ (x ∈ l ∧ x.id ≠ c.id) := by
  simp [uncutClaims]

theorem uncutClaims_pairwise_better {l : List Claim} (c : Claim) (hl : l.Pairwise fun a b => a.better b = true) :
    (uncutClaims c l).Pairwise fun a b => a.better b = true :=
  insertClaim_pairwise_better (hl.filter _) fun _ => id_ne_of_mem_filter

theorem uncutClaims_pairwise_id_ne {l : List Claim} (c : Claim) (hl : l.Pairwise fun a b => a.id ≠ b.id) :
    (uncutClaims c l).Pairwise fun a b => a.id ≠ b.id :=
  insertClaim_pairwise_id_ne (hl.filter _) fun _ => id_ne_of_mem_filter

theorem mem_of_mem_placeClaim {x c : Claim} {l : List Claim} (hx : x ∈ placeClaim c l) :
    x = c ∨ (x ∈ l ∧ x.id ≠ c.id) :=
  mem_uncutClaims.mp (List.mem_of_mem_take hx)

theorem placeClaim_keeps_claimsLaw {c : Claim} {l : List Claim} (hl : claimsLaw l) (hc : c.score ≤ 1023) :
    claimsLaw (placeClaim c l) := by
  obtain ⟨-, hsorted, hids, hscores⟩ := hl
  refine ⟨List.length_take_le 4 _, (uncutClaims_pairwise_better c hsorted).take, (uncutClaims_pairwise_id_ne c hids).take,
    fun x hx => ?_⟩
  obtain rfl | ⟨hxl, -⟩ := mem_of_mem_placeClaim hx
  · exact hc
  · exact hscores x hxl

/-- A record that the cut removes stands behind the four that stay. -/
theorem placeClaim_pushes_out_only_worse {y c : Claim} {l : List Claim}
    (hsorted : l.Pairwise fun a b => a.better b = true) (hy : y ∈ uncutClaims c l) (hout : y ∉ placeClaim c l) :
    (placeClaim c l).length = 4 ∧ ∀ x ∈ placeClaim c l, x.better y = true := by
  rw [placeClaim_eq_take] at *
  have hcut : y ∈ (uncutClaims c l).drop 4 := by
    rw [← List.take_append_drop 4 (uncutClaims c l)] at hy
    exact (List.mem_append.mp hy).resolve_left hout
  have hlong : 0 < (uncutClaims c l).length - 4 := List.length_drop ▸ List.length_pos_of_mem hcut
  have hpair := uncutClaims_pairwise_better c hsorted
  rw [← List.take_append_drop 4 (uncutClaims c l)] at hpair
  obtain ⟨-, -, hcross⟩ := List.pairwise_append.mp hpair
  exact ⟨List.length_take_of_le (by omega), fun x hx => hcross x hx y hcut⟩

/-- Settles O18: the list before the cut is sorted and holds each station once, and its first four records stand before
every other. -/
theorem claimPlacementKeepsTheFourBest : Obligations.ClaimPlacementKeepsTheFourBest := by
  intro c l hl hc
  refine ⟨placeClaim_keeps_claimsLaw hl hc, fun x => mem_of_mem_placeClaim, fun y hy hout => ?_⟩
  obtain ⟨-, hsorted, -, -⟩ := hl
  simpa only [better_iff] using placeClaim_pushes_out_only_worse hsorted (mem_uncutClaims.mpr hy) hout

end Sys2Proof
end

section
/-! PROOFS. The table of the availability, line by line (R109). -/

namespace Sys2Proof
open Sys2Proof.Machine

section
variable {alarm : AlarmState} (fare : FareState) {stale shiftOpen : Bool} (driver : DriverStatus)

/-- Line 1 holds whatever the other four inputs are. -/
theorem availability_of_ne_quiet (stale shiftOpen : Bool) (h : alarm ≠ .quiet) :
    availability alarm fare stale shiftOpen driver = .alarm :=
  if_pos (bne_iff_ne.mpr h)

/-- Lines 2 to 4, which a fare state other than VACANT decides alone. -/
theorem availability_quiet_of_fare (stale shiftOpen : Bool) :
    availability .quiet .onCall stale shiftOpen driver = .onCall
    ∧ availability .quiet .hired stale shiftOpen driver = .hired
    ∧ availability .quiet .held stale shiftOpen driver = .hired
    ∧ availability .quiet .total stale shiftOpen driver = .total :=
  ⟨rfl, rfl, rfl, rfl⟩

/-- Line 5 goes before the driver status. -/
theorem availability_vacant_of_stale_or_closed (h : stale = true ∨ shiftOpen = false) :
    availability .quiet .vacant stale shiftOpen driver = .noFix := by
  obtain rfl | rfl := h
  · rfl
  · cases stale <;> rfl

/-- Lines 6 to 8, on a fresh position in an open shift. -/
theorem availability_vacant_of_driver :
    availability .quiet .vacant false true .onBreak = .onBreak
    ∧ availability .quiet .vacant false true .off = .off
    ∧ availability .quiet .vacant false true .available = .free :=
  ⟨rfl, rfl, rfl⟩

end

/-- Settles O27: each line of the table is a lemma above. -/
theorem availabilityIsTheFirstLineThatHolds : Obligations.AvailabilityIsTheFirstLineThatHolds := by
  intro alarm fare stale shiftOpen driver
  refine ⟨availability_of_ne_quiet fare driver stale shiftOpen, ?_, fun _ => rfl, rfl⟩
  rintro rfl
  obtain ⟨honCall, hhired, hheld, htotal⟩ := availability_quiet_of_fare driver stale shiftOpen
  refine ⟨?onCall, ?hired, ?total, ?vacant⟩
  case onCall => rintro rfl; exact honCall
  case hired =>
    rintro (rfl | rfl)
    · exact hhired
    · exact hheld
  case total => rintro rfl; exact htotal
  case vacant =>
    rintro rfl
    refine ⟨availability_vacant_of_stale_or_closed driver, ?_⟩
    rintro rfl rfl
    obtain ⟨honBreak, hoff, hfree⟩ := availability_vacant_of_driver
    refine ⟨?_, ?_, ?_⟩ <;> rintro rfl
    · exact honBreak
    · exact hoff
    · exact hfree

end Sys2Proof
end

section
/-! PROOFS. The event queue: raising an event (R189), and the removal of the oldest (R190). -/

namespace Sys2Proof
open Sys2Proof.Machine

/-! ## The tests of R189 on one entry -/

/-- The entry is of this kind and subject, so a new event of them merges with it. -/
abbrev sharesKey (k : EventKind) (subject : Nat) (e : Event) : Prop := e.kind = k ∧ e.subject = subject

theorem sameAs_iff (e : Event) (k : EventKind) (subject : Nat) : e.sameAs k subject = true ↔ sharesKey k subject e := by
  simp [Event.sameAs]

theorem isAlarm_iff (k : EventKind) : k.isAlarm = true ↔ k = .alarmHeard ∨ k = .alarmEnded := by
  cases k <;> simp [EventKind.isAlarm]

/-! ## What the raising of one event does to the queue -/

section
variable {k : EventKind} {subject : Nat} (detail : Nat)

theorem mergeIn_of_same {e : Event} (h : sharesKey k subject e) :
    e.mergeIn k subject detail = { e with count := min 255 (e.count + 1), detail := detail } :=
  if_pos ((sameAs_iff e k subject).mpr h)

theorem mergeIn_of_not_same {e : Event} (h : ¬ sharesKey k subject e) : e.mergeIn k subject detail = e :=
  if_neg ((sameAs_iff e k subject).not.mpr h)

theorem map_mergeIn_of_none_same {l : List Event} (h : ∀ x ∈ l, ¬ sharesKey k subject x) :
    l.map (Event.mergeIn k subject detail) = l :=
  (List.map_congr_left fun x hx => mergeIn_of_not_same detail (h x hx)).trans (List.map_id' l)

variable {l : List Event} (overflow : Bool)

theorem raiseIn_of_same {e : Event} (he : e ∈ l) (h : sharesKey k subject e) :
    raiseIn l overflow k subject detail = (l.map (Event.mergeIn k subject detail), overflow) :=
  if_pos (List.any_eq_true.mpr ⟨e, he, (sameAs_iff e k subject).mpr h⟩)

/-- Only the one entry of the kind and subject changes, and it keeps its place. -/
theorem raiseIn_merges {a b : List Event} {e : Event} (h : sharesKey k subject e)
    (hothers : ∀ x ∈ a ++ b, ¬ sharesKey k subject x) :
    raiseIn (a ++ e :: b) overflow k subject detail
      = (a ++ { e with count := min 255 (e.count + 1), detail := detail } :: b, overflow) := by
  obtain ⟨ha, hb⟩ := List.forall_mem_append.mp hothers
  rw [raiseIn_of_same detail overflow (List.mem_append_cons_self) h, List.map_append, List.map_cons,
    map_mergeIn_of_none_same detail ha, mergeIn_of_same detail h, map_mergeIn_of_none_same detail hb]

section
variable (hnew : ∀ x ∈ l, ¬ sharesKey k subject x)
include hnew

/-- Without an entry to merge with, the length of the queue and the kinds decide. -/
theorem raiseIn_of_none_same :
    raiseIn l overflow k subject detail
      = if l.length < 16 then (l ++ [⟨k, subject, detail, 1⟩], overflow)
        else if k.isAlarm && l.any (fun e => !e.kind.isAlarm) then
          (dropOldestOther l ++ [⟨k, subject, detail, 1⟩], true)
        else (l, true) := by
  refine if_neg fun hany => ?_
  obtain ⟨x, hx, hsame⟩ := List.any_eq_true.mp hany
  exact hnew x hx ((sameAs_iff x k subject).mp hsame)

theorem raiseIn_places (hlen : l.length < 16) :
    raiseIn l overflow k subject detail = (l ++ [⟨k, subject, detail, 1⟩], overflow) := by
  rw [raiseIn_of_none_same detail overflow hnew, if_pos hlen]

theorem raiseIn_displaces (hlen : 16 ≤ l.length) (hk : k.isAlarm = true) (hl : ∃ e ∈ l, e.kind.isAlarm = false) :
    raiseIn l overflow k subject detail = (dropOldestOther l ++ [⟨k, subject, detail, 1⟩], true) := by
  rw [raiseIn_of_none_same detail overflow hnew, if_neg (Nat.not_lt.mpr hlen), if_pos]
  simpa [hk] using hl

theorem raiseIn_loses (hlen : 16 ≤ l.length) (h : k.isAlarm = false ∨ ∀ e ∈ l, e.kind.isAlarm = true) :
    raiseIn l overflow k subject detail = (l, true) := by
  rw [raiseIn_of_none_same detail overflow hnew, if_neg (Nat.not_lt.mpr hlen), if_neg]
  obtain hk | hl := h
  · simp [hk]
  · simpa using fun _ => hl

end

/-- The entry that an ALARM-HEARD or ALARM-ENDED displaces is the first of another kind. -/
theorem dropOldestOther_append_cons {a b : List Event} {e : Event} (ha : ∀ x ∈ a, x.kind.isAlarm = true)
    (he : e.kind.isAlarm = false) : dropOldestOther (a ++ e :: b) = a ++ b := by
  rw [dropOldestOther, List.eraseP_append_right _ (by simpa using ha), List.eraseP_cons_of_pos (by simpa using he)]

/-- All that raising an event can do: it merges, it is placed, it displaces, or it is lost. -/
theorem raiseIn_cases (l : List Event) (k : EventKind) (subject : Nat) :
    ((∃ e ∈ l, sharesKey k subject e)
      ∧ raiseIn l overflow k subject detail = (l.map (Event.mergeIn k subject detail), overflow))
    ∨ (∀ x ∈ l, ¬ sharesKey k subject x)
      ∧ (l.length < 16 ∧ raiseIn l overflow k subject detail = (l ++ [⟨k, subject, detail, 1⟩], overflow)
        ∨ 16 ≤ l.length
          ∧ ((k.isAlarm = true ∧ ∃ e ∈ l, e.kind.isAlarm = false)
              ∧ raiseIn l overflow k subject detail = (dropOldestOther l ++ [⟨k, subject, detail, 1⟩], true)
            ∨ (k.isAlarm = false ∨ ∀ e ∈ l, e.kind.isAlarm = true)
              ∧ raiseIn l overflow k subject detail = (l, true))) := by
  by_cases hsame : ∃ e ∈ l, sharesKey k subject e
  · obtain ⟨e, he, h⟩ := hsame
    exact .inl ⟨⟨e, he, h⟩, raiseIn_of_same detail overflow he h⟩
  have hnew : ∀ x ∈ l, ¬ sharesKey k subject x := fun x hx h => hsame ⟨x, hx, h⟩
  refine .inr ⟨hnew, ?_⟩
  obtain hlen | hlen := Nat.lt_or_ge l.length 16
  · exact .inl ⟨hlen, raiseIn_places detail overflow hnew hlen⟩
  refine .inr ⟨hlen, ?_⟩
  by_cases hother : k.isAlarm = true ∧ ∃ e ∈ l, e.kind.isAlarm = false
  · exact .inl ⟨hother, raiseIn_displaces detail overflow hnew hlen hother.1 hother.2⟩
  · have hlost : k.isAlarm = false ∨ ∀ e ∈ l, e.kind.isAlarm = true := by simpa [imp_iff_not_or] using hother
    exact .inr ⟨hlost, raiseIn_loses detail overflow hnew hlen hlost⟩

end

/-! ## The law of the queue -/

/-- The law of the event queue, said of its entries alone. -/
def eventsLaw (l : List Event) : Prop :=
  l.length ≤ 16 ∧ l.Pairwise (fun a b => ¬ a.clash b) ∧ ∀ e ∈ l, 1 ≤ e.count ∧ e.count ≤ cap8

theorem eventLaw_iff (c : Cpt) : c.eventLaw ↔ eventsLaw c.events := Iff.rfl

section
variable {l : List Event} {k : EventKind} {subject : Nat} (detail : Nat)

theorem mergeIn_keeps_clash (a b : Event) :
    (a.mergeIn k subject detail).clash (b.mergeIn k subject detail) ↔ a.clash b := by
  have hkey (e : Event) :
      (e.mergeIn k subject detail).kind = e.kind ∧ (e.mergeIn k subject detail).subject = e.subject := by
    unfold Event.mergeIn
    split <;> exact ⟨rfl, rfl⟩
  simp only [Event.clash, hkey]

theorem mergeIn_keeps_count_law {e : Event} (h : 1 ≤ e.count ∧ e.count ≤ cap8) :
    1 ≤ (e.mergeIn k subject detail).count ∧ (e.mergeIn k subject detail).count ≤ cap8 := by
  unfold Event.mergeIn
  split
  · exact ⟨Nat.le_min.mpr ⟨by decide, Nat.le_add_left 1 _⟩, Nat.min_le_left _ _⟩
  · exact h

theorem eventsLaw.merge (h : eventsLaw l) : eventsLaw (l.map (Event.mergeIn k subject detail)) := by
  obtain ⟨hlen, hkeys, hcounts⟩ := h
  refine ⟨by rwa [List.length_map], ?_, ?_⟩
  · exact List.pairwise_map.mpr (hkeys.imp (mergeIn_keeps_clash detail _ _).not.mpr)
  · exact List.forall_mem_map.mpr fun e he => mergeIn_keeps_count_law detail (hcounts e he)

theorem eventsLaw.place (h : eventsLaw l) (hlen : l.length < 16)
    (hnew : ∀ x ∈ l, ¬ sharesKey k subject x) : eventsLaw (l ++ [⟨k, subject, detail, 1⟩]) := by
  obtain ⟨-, hkeys, hcounts⟩ := h
  refine ⟨by rw [List.length_append]; exact hlen, ?_, ?_⟩
  · refine List.pairwise_append.mpr ⟨hkeys, List.pairwise_singleton _ _, fun x hx y hy => ?_⟩
    exact List.mem_singleton.mp hy ▸ hnew x hx
  · exact List.forall_mem_append.mpr ⟨hcounts, by simp [cap8]⟩

theorem eventsLaw.sublist {r : List Event} (h : eventsLaw l) (hr : r.Sublist l) : eventsLaw r := by
  obtain ⟨hlen, hkeys, hcounts⟩ := h
  exact ⟨hr.length_le.trans hlen, hkeys.sublist hr, fun e he => hcounts e (hr.subset he)⟩

theorem dropOldestOther_sublist (l : List Event) : (dropOldestOther l).Sublist l := List.eraseP_sublist

theorem dropOldestOther_length_lt (h : ∃ e ∈ l, e.kind.isAlarm = false) : (dropOldestOther l).length < l.length := by
  obtain ⟨e, he, hk⟩ := h
  have hlen : (dropOldestOther l).length = l.length - 1 := List.length_eraseP_of_mem he (by simp [hk])
  have hpos := List.length_pos_of_mem he
  omega

theorem raiseIn_keeps_eventsLaw (overflow : Bool) (k : EventKind) (subject : Nat) (h : eventsLaw l) :
    eventsLaw (raiseIn l overflow k subject detail).1 := by
  obtain ⟨-, hmerge⟩ | ⟨hnew, ⟨hlen, hplace⟩ | ⟨-, ⟨⟨-, hother⟩, hdisplace⟩ | ⟨-, hlost⟩⟩⟩ :=
    raiseIn_cases detail overflow l k subject
  · rw [hmerge]
    exact h.merge detail
  · rw [hplace]
    exact h.place detail hlen hnew
  · rw [hdisplace]
    have hsub := dropOldestOther_sublist l
    have hlen : (dropOldestOther l).length < 16 := (dropOldestOther_length_lt hother).trans_le h.1
    exact (h.sublist hsub).place detail hlen fun x hx => hnew x (hsub.subset hx)
  · rw [hlost]
    exact h

end

/-! ## Raising an event -/

/-- The state with this event queue and overflow flag. -/
def withEvents (s : State) (events : List Event) (overflow : Bool) : State :=
  s.setCpt { s.cpt with events := events, overflow := overflow }

theorem raiseEvent_of_raiseIn {s : State} {k : EventKind} {subject detail : Nat} {events : List Event} {overflow : Bool}
    (h : raiseIn s.cpt.events s.cpt.overflow k subject detail = (events, overflow)) :
    s.raiseEvent k subject detail = withEvents s events overflow := by
  rw [State.raiseEvent, h, withEvents]

theorem raiseEvent_merges {s : State} {a b : List Event} {e : Event} {k : EventKind} {subject : Nat} (detail : Nat)
    (hl : s.cpt.events = a ++ e :: b) (h : sharesKey k subject e)
    (hothers : ∀ x ∈ a ++ b, ¬ sharesKey k subject x) :
    s.raiseEvent k subject detail
      = withEvents s (a ++ { e with count := min 255 (e.count + 1), detail := detail } :: b) s.cpt.overflow :=
  raiseEvent_of_raiseIn (hl ▸ raiseIn_merges detail s.cpt.overflow h hothers)

theorem raiseEvent_keeps_eventLaw {s : State} (k : EventKind) (subject detail : Nat) (h : s.cpt.eventLaw) :
    (s.raiseEvent k subject detail).cpt.eventLaw :=
  (eventLaw_iff _).mpr (raiseIn_keeps_eventsLaw detail s.cpt.overflow k subject ((eventLaw_iff _).mp h))

/-- Settles O42: each outcome of R189 is a lemma on the queue above. -/
theorem raisedEventsMergeOrDisplace : Obligations.RaisedEventsMergeOrDisplace := by
  intro s k subject detail
  refine ⟨fun a b e => raiseEvent_merges detail, fun hnew => ⟨?place, ?displace, ?lose⟩,
    raiseEvent_keeps_eventLaw k subject detail⟩
  case place => exact fun hlen => raiseEvent_of_raiseIn (raiseIn_places detail s.cpt.overflow hnew hlen)
  case displace =>
    intro a b e hlen hk hl he ha
    simp only [← isAlarm_iff, Bool.not_eq_true] at hk he ha
    have hother : ∃ e ∈ s.cpt.events, e.kind.isAlarm = false := ⟨e, hl ▸ List.mem_append_cons_self, he⟩
    have hdrop : dropOldestOther s.cpt.events = a ++ b := hl ▸ dropOldestOther_append_cons ha he
    exact raiseEvent_of_raiseIn (hdrop ▸ raiseIn_displaces detail s.cpt.overflow hnew hlen hk hother)
  case lose =>
    intro hlen h
    simp only [← isAlarm_iff, Bool.not_eq_true] at h
    exact raiseEvent_of_raiseIn (raiseIn_loses detail s.cpt.overflow hnew hlen h)

/-! ## SENSE-EVENT -/

/-- The state on which the block acts after a code alone was taken: the status byte of READY has been sent, PHASE-ERROR is
clear, and the port is in EXEC (R179 to R183). -/
def takenAlone (s : State) : State :=
  s.setCpt { s.cpt with
    phase := .exec, code := 0, params := [], abandonAt := none, phaseError := false, muted := .off
    sdo := s.lastStatus false }

theorem enterExec_collected_nil {s : State} (hr : s.cpt.phase = .ready) :
    (s.collected []).setCpt (s.collected []).cpt.enterExec = takenAlone s := by
  have hstatus : (s.setCpt { s.cpt with muted := .off }).statusByte = s.lastStatus false := by
    simp only [State.statusByte, State.setCpt_cpt, hr]
    rfl
  rw [takenAlone, ← hstatus]
  rfl

/-- The answer to an act that changes only the event queue and its overflow flag (R183). -/
theorem answering_of_takenAlone (s : State) (events : List Event) (overflow : Bool) (result : List Byte) :
    ((withEvents (takenAlone s) events overflow).setCpt
      ((withEvents (takenAlone s) events overflow).cpt.enterResult result)).csnRise
      = (withEvents s events overflow).answering s false result := rfl

theorem actSense_eq (s : State) :
    actSense s = (withEvents s s.cpt.events.tail false,
      0 :: eventResult s.cpt.events.head? s.cpt.overflow s.cpt.events.tail.length) := rfl

/-- The port of a powered part in READY takes SENSE-EVENT in every part state and answers OK (R183, R185, R190). -/
theorem exec_senseEvent_ready {s : State} (hp : s.powered = true) (hr : s.cpt.phase = .ready) :
    exec .senseEvent s = .next ((withEvents s s.cpt.events.tail false).answering s false
      (0 :: eventResult s.cpt.events.head? s.cpt.overflow s.cpt.events.tail.length)) := by
  have hexec : exec .senseEvent s = .next (s.hostCommand 0x10 [] .any actSense) := rfl
  rw [hexec, hostCommand_ready s _ _ _ _ hp hr, runAct_accepted _ _ _ rfl, enterExec_collected_nil hr, actSense_eq,
    ← answering_of_takenAlone]
  rfl

theorem kind_code_le (k : EventKind) : k.code ≤ 255 := by cases k <;> decide

theorem putFlags_singleton (b : Bool) : putFlags [b] = [byte b.toNat] := by cases b <;> rfl

/-- The answer of an empty queue: OK, NONE with empty fields, and no entry left. -/
theorem eventResult_none (overflow : Bool) :
    0 :: eventResult none overflow 0 = [0, 0, 0, 0, 0, 0, byte overflow.toNat, 0] := by
  rw [eventResult, putFlags_singleton]
  rfl

/-- The answer that holds an entry: OK, its fields, the flag as it stood and the entries left. -/
def eventAnswer (e : Event) (overflow : Bool) (left : Nat) : List Byte :=
  [0, byte e.kind.code] ++ put16 e.subject ++ put8 e.count ++ put8 e.detail ++ [byte overflow.toNat] ++ put8 left

theorem eventResult_some (e : Event) (overflow : Bool) (left : Nat) :
    0 :: eventResult (some e) overflow left = eventAnswer e overflow left := by
  have hcode : put8 e.kind.code = [byte e.kind.code] := by rw [put8, Nat.min_eq_left (kind_code_le e.kind)]
  simp [eventResult, eventAnswer, put8?, put16?, hcode, putFlags_singleton]

theorem exec_senseEvent_nil {s : State} (hp : s.powered = true) (hr : s.cpt.phase = .ready) (hl : s.cpt.events = []) :
    exec .senseEvent s = .next
      ((withEvents s [] false).answering s false [0, 0, 0, 0, 0, 0, byte s.cpt.overflow.toNat, 0]) := by
  rw [exec_senseEvent_ready hp hr, hl, ← eventResult_none]
  rfl

theorem exec_senseEvent_cons {s : State} {e : Event} {rest : List Event} (hp : s.powered = true)
    (hr : s.cpt.phase = .ready) (hl : s.cpt.events = e :: rest) :
    exec .senseEvent s = .next
      ((withEvents s rest false).answering s false (eventAnswer e s.cpt.overflow rest.length)) := by
  rw [exec_senseEvent_ready hp hr, hl, ← eventResult_some]
  rfl

/-- An event that merges with the oldest entry before SENSE-EVENT takes that entry shows in the answer. -/
theorem exec_senseEvent_merged {s : State} {e : Event} {rest : List Event} (detail : Nat) (hp : s.powered = true)
    (hr : s.cpt.phase = .ready) (hl : s.cpt.events = e :: rest)
    (hrest : ∀ x ∈ rest, ¬ sharesKey e.kind e.subject x) :
    exec .senseEvent (s.raiseEvent e.kind e.subject detail) = .next
      ((withEvents s rest false).answering (s.raiseEvent e.kind e.subject detail) false
        (eventAnswer { e with count := min 255 (e.count + 1), detail := detail } s.cpt.overflow rest.length)) := by
  rw [raiseEvent_merges (a := []) detail hl ⟨rfl, rfl⟩ hrest]
  exact exec_senseEvent_cons (s := withEvents s (_ :: rest) s.cpt.overflow) hp hr rfl

/-- Settles O43: the removal is one lemma, applied to the queue as it stands and to the queue with the event merged into its
oldest entry; after the removal no entry is left to merge with. -/
theorem senseEventRemovesTheOldest : Obligations.SenseEventRemovesTheOldest := by
  intro s hp hr
  refine ⟨exec_senseEvent_nil hp hr, fun e rest hl => ?_⟩
  have hsense := exec_senseEvent_cons hp hr hl
  have hnew (hclash : ∀ x ∈ rest, ¬ e.clash x) : ∀ x ∈ rest, ¬ sharesKey e.kind e.subject x :=
    fun x hx ⟨hkind, hsubject⟩ => hclash x hx ⟨hkind.symm, hsubject.symm⟩
  refine ⟨hsense, fun detail hclash => ?before, fun detail hclash hlen => ?after⟩
  case before => exact exec_senseEvent_merged detail hp hr hl (hnew hclash)
  case after => exact ⟨_, hsense, congrArg Prod.fst (raiseIn_places detail false (hnew hclash) hlen)⟩

end Sys2Proof
end

section
/-! PROOFS. Slot tables: the keys and the entries after a write. -/

namespace Sys2Proof
open Sys2Proof.Machine

variable {α β κ : Type}

theorem mem_slotEntries {l : List (Option α)} {x : α} : x ∈ slotEntries l ↔ some x ∈ l := by
  simp [slotEntries]

/-- The keys of a table are distinct exactly when their list has no double. -/
theorem slotsDistinct_iff_nodup (key : α → κ) (l : List (Option α)) :
    slotsDistinct key l ↔ ((slotEntries l).map key).Nodup := List.pairwise_map.symm

theorem slotEntries_map (g : α → β) (l : List (Option α)) :
    slotEntries (l.map (·.map g)) = (slotEntries l).map g := by
  simp [slotEntries, List.filterMap_map, List.map_filterMap]

/-- Two tables that agree up to `g` have the same keys, when the key is one of what `g` shows. -/
theorem slotKeys_of_map_eq {g : α → β} {key : α → κ} (k : β → κ) (hk : ∀ x, k (g x) = key x) {l m : List (Option α)}
    (h : m.map (·.map g) = l.map (·.map g)) : (slotEntries m).map key = (slotEntries l).map key := by
  have e (n : List (Option α)) : (slotEntries n).map key = (slotEntries (n.map (·.map g))).map k := by
    rw [slotEntries_map, List.map_map]
    exact List.map_congr_left fun x _ => (hk x).symm
  rw [e, e, h]

theorem slotsDistinct_of_map_eq {g : α → β} {key : α → κ} (k : β → κ) (hk : ∀ x, k (g x) = key x)
    {l m : List (Option α)} (h : m.map (·.map g) = l.map (·.map g)) (hl : slotsDistinct key l) : slotsDistinct key m := by
  rw [slotsDistinct_iff_nodup] at hl ⊢
  rwa [slotKeys_of_map_eq k hk h]

/-- A property of what `g` shows holds of every entry, when it did of a table that agrees up to `g`. -/
theorem forall_slotEntries_of_map_eq {g : α → β} {p : α → Prop} (q : β → Prop) (hq : ∀ x, q (g x) ↔ p x)
    {l m : List (Option α)} (h : m.map (·.map g) = l.map (·.map g)) (hl : ∀ x ∈ slotEntries l, p x) :
    ∀ x ∈ slotEntries m, p x := by
  have e (n : List (Option α)) : (∀ x ∈ slotEntries n, p x) ↔ ∀ y ∈ slotEntries (n.map (·.map g)), q y := by
    rw [slotEntries_map, List.forall_mem_map]
    exact forall₂_congr fun x _ => (hq x).symm
  rw [e, h, ← e]
  exact hl

theorem slotsDistinct_put_same {key : α → κ} {l : List (Option α)} {i : Nat} {x y : α} (hx : slotGet l i = some x)
    (hy : key y = key x) (hl : slotsDistinct key l) : slotsDistinct key (slotPut l i y) :=
  slotsDistinct_of_map_eq id (fun _ => rfl) (map_slotPut_same key l i x y hx hy) hl

theorem slotEntries_free_sublist (l : List (Option α)) (i : Nat) : (slotEntries (slotFree l i)).Sublist (slotEntries l) := by
  induction l generalizing i with
  | nil => simp [slotFree]
  | cons a l ih =>
    cases i with
    | zero => cases a <;> simp [slotFree, slotEntries]
    | succ i =>
      have := ih i
      cases a <;> simpa [slotFree, slotEntries] using this

theorem slotsDistinct_free {key : α → κ} {l : List (Option α)} (i : Nat) (hl : slotsDistinct key l) :
    slotsDistinct key (slotFree l i) := hl.sublist (slotEntries_free_sublist l i)

/-- A new key keeps the keys of a table distinct. -/
theorem slotsDistinct_put_new {key : α → κ} {l : List (Option α)} {i : Nat} {y : α}
    (hy : ∀ x ∈ slotEntries l, key x ≠ key y) (hl : slotsDistinct key l) : slotsDistinct key (slotPut l i y) := by
  induction l generalizing i with
  | nil => exact hl
  | cons a l ih =>
    have hl' : slotsDistinct key l := hl.sublist (by cases a <;> simp [slotEntries])
    have hy' : ∀ x ∈ slotEntries l, key x ≠ key y := fun x hx =>
      hy x (mem_slotEntries.mpr (List.mem_cons_of_mem _ (mem_slotEntries.mp hx)))
    cases i with
    | zero =>
      exact List.pairwise_cons.mpr ⟨fun x hx => (hy' x hx).symm, hl'⟩
    | succ i =>
      cases a with
      | none => exact ih hy' hl'
      | some b =>
        obtain ⟨hb, -⟩ := List.pairwise_cons.mp (show List.Pairwise _ (b :: slotEntries l) from hl)
        refine List.pairwise_cons.mpr ⟨fun x hx => ?_, ih hy' hl'⟩
        obtain rfl | hx := mem_slotPut l i y x hx
        · exact hy b (mem_slotEntries.mpr List.mem_cons_self)
        · exact hb x hx

theorem slotsDistinct_map {key : α → κ} {l : List (Option α)} (f : α → α) (hf : ∀ x, key (f x) = key x)
    (hl : slotsDistinct key l) : slotsDistinct key (l.map (·.map f)) := by
  rw [slotsDistinct_iff_nodup] at hl ⊢
  rw [slotEntries_map, List.map_map]
  rwa [show (key ∘ f) = key from funext hf]

theorem mem_slotEntries_map {f : α → β} {l : List (Option α)} {y : β} :
    y ∈ slotEntries (l.map (·.map f)) ↔ ∃ x ∈ slotEntries l, f x = y := by
  rw [slotEntries_map, List.mem_map]

/-- What is chosen stands in the list it is chosen from. -/
theorem pickLeast_mem {s : State} {key : α → Nat} {l : List α} {x : α} (h : s.pickLeast key l = some x) : x ∈ l := by
  have hsub : ∀ y ∈ leastBy key l, y ∈ l := fun y hy => (List.mem_filter.mp hy).1
  unfold State.pickLeast at h
  split at h
  · cases h
  · next y hy =>
    cases h
    exact hsub _ (hy ▸ List.mem_singleton_self _)
  · next y ys _ hy => exact hsub _ (hy ▸ List.mem_of_getElem? h)

end Sys2Proof
end

section
/-! PROOFS. What the operations of the channel access unit keep: the limits of the queue, of W and of the lists they write. -/

namespace Sys2Proof
open Sys2Proof.Machine

/-! ## The relation -/

/-- What a queue operation keeps beside its frame: the laws of W and of the sequence counter, the refusal list's limit, relayed
frames with the property `G` alone in the queue, and, when `Q` holds, an empty queue in CONFIG; the receiver stands or idles. -/
structure QueueMoves (G : Frame → Prop) (Q : Prop) (s t : State) : Prop extends QueueFrame s t where
  seq : s.ret.seq ≤ cap8 → t.ret.seq ≤ cap8
  window : s.cau.windowLaw → t.cau.windowLaw
  relayed : (∀ e ∈ s.cau.queue, e.owner = .relay → G e.frame) → ∀ e ∈ t.cau.queue, e.owner = .relay → G e.frame
  empty : Q → s.cpt.part = .config → s.cau.queue = [] → t.cau.queue = []
  refusals : s.nts.refusals.length ≤ 4 → t.nts.refusals.length ≤ 4
  rx : t.rru.rx = s.rru.rx ∨ t.rru.rx = .idle

/-- The same, with the law of the queue kept. -/
structure QueueKept (G : Frame → Prop) (Q : Prop) (s t : State) : Prop extends QueueMoves G Q s t where
  limits : s.cau.queueLaw → t.cau.queueLaw

section
variable {G : Frame → Prop} {Q : Prop}

theorem QueueMoves.trans {s t u : State} (h : QueueMoves G Q s t) (k : QueueMoves G Q t u) : QueueMoves G Q s u where
  toQueueFrame := h.toQueueFrame.trans k.toQueueFrame
  seq := k.seq ∘ h.seq
  window := k.window ∘ h.window
  relayed := k.relayed ∘ h.relayed
  empty := fun l c q => k.empty l (by rw [h.cpt, c]) (h.empty l c q)
  refusals := k.refusals ∘ h.refusals
  rx := by
    obtain e | e := k.rx
    · obtain d | d := h.rx
      · exact .inl (e.trans d)
      · exact .inr (e.trans d)
    · exact .inr e

theorem QueueKept.refl (s : State) : QueueKept G Q s s :=
  ⟨⟨.refl s, id, id, id, fun _ _ => id, id, .inl rfl⟩, id⟩

theorem QueueKept.trans {s t u : State} (h : QueueKept G Q s t) (k : QueueKept G Q t u) : QueueKept G Q s u where
  toQueueMoves := h.toQueueMoves.trans k.toQueueMoves
  limits := k.limits ∘ h.limits

/-- A queue operation that leaves the access unit, the sequence counter and the refusal list alone. -/
theorem QueueFrame.toKept {s t : State} (h : QueueFrame s t) (hc : t.cau = s.cau) (hs : t.ret.seq = s.ret.seq)
    (hr : t.nts.refusals.length ≤ 4 ∨ t.nts.refusals.length ≤ s.nts.refusals.length) (hx : t.rru.rx = s.rru.rx) :
    QueueKept G Q s t where
  toQueueFrame := h
  seq := by rw [hs]; exact id
  limits := by rw [hc]; exact id
  window := by rw [hc]; exact id
  relayed := by rw [hc]; exact id
  empty := fun _ _ => by rw [hc]; exact id
  refusals := fun h => by omega
  rx := .inl hx

/-! ## Changes of the access unit's state -/

/-- A new state of the access unit with its limits kept. -/
theorem setCau_kept (s : State) (c : Cau) (hl : s.cau.queueLaw → c.queueLaw) (hw : s.cau.windowLaw → c.windowLaw)
    (hr : (∀ e ∈ s.cau.queue, e.owner = .relay → G e.frame) → ∀ e ∈ c.queue, e.owner = .relay → G e.frame)
    (he : s.cpt.part = .config → s.cau.queue = [] → c.queue = []) : QueueKept G Q s (s.setCau c) where
  toQueueFrame := setCau_frame s c
  seq := id
  limits := hl
  window := hw
  relayed := hr
  empty := fun _ => he
  refusals := id
  rx := .inl rfl

/-- The queue, the entry on air and W stand: the limits do not depend on the rest. -/
theorem setCau_kept_rest (s : State) (c : Cau) (hq : c.queue = s.cau.queue) (ha : c.onAir = s.cau.onAir)
    (hw : s.cau.windowLaw → c.windowLaw) : QueueKept G Q s (s.setCau c) :=
  setCau_kept s c (by simp only [Cau.queueLaw, Cau.count, Cau.groupCount, hq, ha]; exact id) hw
    (by rw [hq]; exact id) (fun _ => by rw [hq]; exact id)

/-- Entries leave the queue. -/
theorem queueLaw_of_sublist {c d : Cau} (hq : d.queue.Sublist c.queue) (ha : d.onAir = c.onAir ∨ d.onAir = none)
    (h : c.queueLaw) : d.queueLaw := by
  have hn := hq.length_le
  have hg (g : Group) : (d.queue.filter (·.owner.inGroup g)).length ≤ (c.queue.filter (·.owner.inGroup g)).length :=
    (hq.filter _).length_le
  have hb := hg .beacon
  have ht := hg .tally
  have h0 := hg .class0
  obtain ha | ha := ha <;> simp only [Cau.queueLaw, Cau.count, Cau.groupCount, ha] at h ⊢
  · omega
  · simp only [Option.map_none, Option.getD_none, Option.isSome_none, Bool.toNat_false, Nat.add_zero]
    omega

theorem setCau_kept_sublist (s : State) (c : Cau) (hq : c.queue.Sublist s.cau.queue)
    (ha : c.onAir = s.cau.onAir ∨ c.onAir = none) (hw : c.w = s.cau.w) : QueueKept G Q s (s.setCau c) :=
  setCau_kept s c (queueLaw_of_sublist hq ha) (by simp only [Cau.windowLaw, hw]; exact id)
    (fun h e he => h e (hq.subset he)) (fun _ h => by rw [h] at hq; exact List.sublist_nil.mp hq)

theorem setQueue_kept_sublist (s : State) (q : List QEntry) (hq : q.Sublist s.cau.queue) : QueueKept G Q s (s.setQueue q) :=
  setCau_kept_sublist s _ hq (.inl rfl) rfl

theorem setQueue_moves_append (s : State) (e : QEntry) (hr : e.owner = .relay → G e.frame)
    (hrun : Q → s.cpt.part = .config → False) : QueueMoves G Q s (s.setQueue (s.cau.queue ++ [e])) where
  toQueueFrame := setQueue_frame s _
  seq := id
  window := id
  relayed := fun h x hx hxr => by
    obtain hx | hx := List.mem_append.mp hx
    · exact h x hx hxr
    · rw [List.mem_singleton.mp hx] at hxr ⊢
      exact hr hxr
  empty := fun l c => (hrun l c).elim
  refusals := id
  rx := .inl rfl

/-- An entry joins a queue with a place, of a group that has no entry yet. -/
theorem queueLaw_append {c : Cau} (e : QEntry) (hc : c.count < 8)
    (hg : ∀ g, e.owner.inGroup g = true → c.groupCount g = 0) (h : c.queueLaw) :
    ({ c with queue := c.queue ++ [e] } : Cau).queueLaw := by
  obtain ⟨-, hb, ht, h0⟩ := h
  have hgroup (g : Group) (h : c.groupCount g ≤ 1) : ({ c with queue := c.queue ++ [e] } : Cau).groupCount g ≤ 1 := by
    have hadd : ({ c with queue := c.queue ++ [e] } : Cau).groupCount g
        = c.groupCount g + (e.owner.inGroup g).toNat := by
      cases hi : e.owner.inGroup g <;> simp [Cau.groupCount, hi]
      omega
    rw [hadd]
    cases hi : e.owner.inGroup g
    · simpa using h
    · rw [hg g hi]; simp
  refine ⟨?_, hgroup _ hb, hgroup _ ht, hgroup _ h0⟩
  simp only [Cau.count, List.length_append, List.length_singleton, queueMax] at hc ⊢
  omega

/-! ## What owners do with the queue's answers -/

theorem modEntry_cau (s : State) (k : JobKey) (f : BoardEntry → BoardEntry) : (s.modEntry k f).cau = s.cau
    ∧ (s.modEntry k f).ret = s.ret ∧ (s.modEntry k f).nts = s.nts ∧ (s.modEntry k f).rru = s.rru := by
  unfold State.modEntry
  split <;> exact ⟨rfl, rfl, rfl, rfl⟩

theorem modIn_cau (s : State) (o i : Nat) (f : InNote → InNote) : (s.modIn o i f).cau = s.cau
    ∧ (s.modIn o i f).ret = s.ret ∧ (s.modIn o i f).nts.refusals = s.nts.refusals ∧ (s.modIn o i f).rru = s.rru := by
  unfold State.modIn
  split <;> exact ⟨rfl, rfl, rfl, rfl⟩

theorem modOut_cau (s : State) (i : Nat) (f : OutNote → OutNote) : (s.modOut i f).cau = s.cau
    ∧ (s.modOut i f).ret = s.ret ∧ (s.modOut i f).nts.refusals = s.nts.refusals ∧ (s.modOut i f).rru = s.rru := by
  unfold State.modOut
  split <;> exact ⟨rfl, rfl, rfl, rfl⟩

/-- The owner of an accepted frame writes its own record alone. -/
theorem ownerAccepted_writes (s : State) (r : OwnRef) (n : Nat) : (s.ownerAccepted r n).cau = s.cau
    ∧ (s.ownerAccepted r n).ret = s.ret ∧ (s.ownerAccepted r n).nts.refusals.length ≤ s.nts.refusals.length
    ∧ (s.ownerAccepted r n).rru = s.rru := by
  unfold State.ownerAccepted
  split
  case h_4 =>
    obtain ⟨h1, h2, h3, h4⟩ := modOut_cau s _ _
    exact ⟨h1, h2, h3 ▸ le_refl _, h4⟩
  case h_5 => exact ⟨rfl, rfl, List.length_filter_le _ _, rfl⟩
  case h_6 =>
    obtain ⟨h1, h2, h3, h4⟩ := modIn_cau s _ _ _
    exact ⟨h1, h2, h3 ▸ le_refl _, h4⟩
  all_goals first
    | exact ⟨rfl, rfl, le_refl _, rfl⟩
    | (obtain ⟨h1, h2, h3, h4⟩ := modEntry_cau s _ _
       exact ⟨h1, h2, h3 ▸ le_refl _, h4⟩)

theorem ownerAccepted_kept (s : State) (r : OwnRef) (n : Nat) : QueueKept G Q s (s.ownerAccepted r n) := by
  obtain ⟨hc, hr, hn, hx⟩ := ownerAccepted_writes s r n
  exact QueueFrame.toKept (ownerAccepted_frame s r n) hc (by rw [hr]) (.inr hn) (by rw [hx])

theorem keepRefusal_writes (s : State) (d i : Nat) (m : Mark) : (s.keepRefusal d i m).cau = s.cau
    ∧ (s.keepRefusal d i m).ret = s.ret
    ∧ ((s.keepRefusal d i m).nts.refusals.length ≤ 4
      ∨ (s.keepRefusal d i m).nts.refusals.length ≤ s.nts.refusals.length) ∧ (s.keepRefusal d i m).rru = s.rru := by
  unfold State.keepRefusal
  split
  · exact ⟨rfl, rfl, .inr (le_refl _), rfl⟩
  · split
    · next h => exact ⟨rfl, rfl, .inl (by simpa using h), rfl⟩
    · exact ⟨rfl, rfl, .inr (le_refl _), rfl⟩

theorem ownerNotSent_writes (s : State) (r : OwnRef) (m : Mark) : (s.ownerNotSent r m).cau = s.cau
    ∧ (s.ownerNotSent r m).ret = s.ret
    ∧ ((s.ownerNotSent r m).nts.refusals.length ≤ 4
      ∨ (s.ownerNotSent r m).nts.refusals.length ≤ s.nts.refusals.length) ∧ (s.ownerNotSent r m).rru = s.rru := by
  unfold State.ownerNotSent
  split
  case h_4 =>
    obtain ⟨h1, h2, h3, h4⟩ := modOut_cau s _ _
    exact ⟨h1, h2, .inr (h3 ▸ le_refl _), h4⟩
  case h_5 => exact keepRefusal_writes s _ _ _
  case h_6 =>
    obtain ⟨h1, h2, h3, h4⟩ := modIn_cau s _ _ _
    exact ⟨h1, h2, .inr (h3 ▸ le_refl _), h4⟩
  all_goals first
    | exact ⟨rfl, rfl, .inr (le_refl _), rfl⟩
    | (obtain ⟨h1, h2, h3, h4⟩ := modEntry_cau s _ _
       exact ⟨h1, h2, .inr (h3 ▸ le_refl _), h4⟩)

theorem ownerNotSent_kept (s : State) (r : OwnRef) (m : Mark) : QueueKept G Q s (s.ownerNotSent r m) := by
  obtain ⟨hc, hr, hn, hx⟩ := ownerNotSent_writes s r m
  exact QueueFrame.toKept (ownerNotSent_frame s r m) hc (by rw [hr]) hn (by rw [hx])

theorem setStats_kept (s : State) (u : Stats) (h : u.unqueued = s.rru.stats.unqueued) : QueueKept G Q s (s.setStats u) :=
  QueueFrame.toKept (setStats_frame s u h) rfl rfl (.inr (le_refl _)) rfl

theorem relayNotSent_kept (s : State) (k : FrameKey) : QueueKept G Q s (s.relayNotSent k) :=
  QueueFrame.toKept (relayNotSent_frame s k) rfl rfl (.inr (le_refl _)) rfl

theorem tallyPlace_kept (s : State) (p : TallyPlace) (q : Option Nat) : QueueKept G Q s (s.tallyPlace p q) :=
  QueueFrame.toKept (tallyPlace_frame s p q) rfl rfl (.inr (le_refl _)) rfl

theorem setSeq_kept (s : State) (n : Nat) (h : n ≤ cap8) : QueueKept G Q s (s.setRet { s.ret with seq := n }) where
  toQueueFrame := setSeq_frame s n
  seq := fun _ => h
  limits := id
  window := id
  relayed := id
  empty := fun _ _ => id
  refusals := id
  rx := .inl rfl

theorem nextDraw_kept (s : State) : QueueKept G Q s s.nextDraw :=
  QueueFrame.toKept (nextDraw_frame s) rfl rfl (.inr (le_refl _)) rfl

/-! ## Taking a frame -/

theorem next8_le (n : Nat) : next8 n ≤ cap8 := by
  have := Nat.mod_lt (n + 1) (show 0 < 256 by decide)
  simp only [next8, cap8]
  omega

theorem countRefused_kept (s : State) : QueueKept G Q s s.countRefused := setStats_kept s _ rfl

theorem displace_kept (s : State) (e : QEntry) : QueueKept G Q s (s.displace e) := by
  have h : QueueKept G Q s (s.setQueue (s.cau.queue.erase e)) := setQueue_kept_sublist s _ List.erase_sublist
  unfold State.displace
  dsimp only
  split
  · exact h.trans (relayNotSent_kept _ _)
  · exact h.trans ((countRefused_kept _).trans (ownerNotSent_kept _ _ _))

theorem displace_cau (s : State) (e : QEntry) : (s.displace e).cau = { s.cau with queue := s.cau.queue.erase e } := by
  unfold State.displace
  dsimp only
  split
  · rfl
  · exact (ownerNotSent_writes _ _ _).1

/-- The unit holds no own frame of the group of `r`, unsent or on air. -/
def groupFree (c : Cau) (r : OwnRef) : Prop := ∀ g, r.group = some g → c.groupCount g = 0

theorem acceptOwn_moves (s : State) (o : Offered) (hrun : s.cpt.part = .run) : QueueMoves G Q s (s.acceptOwn o) := by
  have happend (u : State) (e : QEntry) (hcpt : u.cpt = s.cpt) (he : e.owner = .own o.ref) :
      QueueMoves G Q u (u.setQueue (u.cau.queue ++ [e])) :=
    setQueue_moves_append u e (fun h => by rw [he] at h; cases h) (fun _ h => by rw [hcpt, hrun] at h; cases h)
  unfold State.acceptOwn
  dsimp only
  split
  · exact (happend s _ rfl rfl).trans (ownerAccepted_kept _ _ _).toQueueMoves
  · exact (setSeq_kept s (next8 s.ret.seq) (next8_le _)).toQueueMoves.trans
      ((happend (s.setRet _) _ rfl rfl).trans (ownerAccepted_kept _ _ _).toQueueMoves)

/-- The entry under which an own frame is accepted now (R4, R15). -/
def acceptedEntry (s : State) (o : Offered) : QEntry where
  frame := s.ownFrame o.body (o.seq.getD s.ret.seq)
  cls := o.ref.cls
  enq := s.now
  owner := .own o.ref
  endOfCopy := none
  mark := o.mark

/-- An accepted own frame stands behind the others. -/
theorem acceptOwn_cau (s : State) (o : Offered) :
    (s.acceptOwn o).cau = { s.cau with queue := s.cau.queue ++ [acceptedEntry s o] } := by
  unfold State.acceptOwn
  dsimp only
  split <;> exact (ownerAccepted_writes _ _ _).1

theorem acceptOwn_limits {s : State} {o : Offered} (hc : s.cau.count < 8) (hg : groupFree s.cau o.ref)
    (h : s.cau.queueLaw) : (s.acceptOwn o).cau.queueLaw := by
  rw [acceptOwn_cau]
  exact queueLaw_append _ hc (fun g hi => hg g (by simpa [acceptedEntry, Owner.inGroup] using hi)) h

theorem refuseOwn_kept (s : State) (o : Offered) : QueueKept G Q s (s.refuseOwn o) :=
  (countRefused_kept s).trans (ownerNotSent_kept _ _ _)

theorem lastOf_mem {l : List QEntry} {e : QEntry} (h : lastOf l = some e) : e ∈ l := by
  induction l generalizing e with
  | nil => cases h
  | cons x l ih =>
    simp only [lastOf] at h
    split at h
    · cases h
      exact List.mem_cons_self
    · next y hy =>
      split at h <;> cases h
      · exact List.mem_cons_self
      · exact List.mem_cons_of_mem _ (ih hy)

theorem headOf_mem {l : List QEntry} {e : QEntry} (h : headOf l = some e) : e ∈ l := by
  induction l generalizing e with
  | nil => cases h
  | cons x l ih =>
    simp only [headOf] at h
    split at h
    · cases h
      exact List.mem_cons_self
    · next y hy =>
      split at h <;> cases h
      · exact List.mem_cons_self
      · exact List.mem_cons_of_mem _ (ih hy)

/-- The entry a frame displaces stands in the queue (R18). -/
theorem victim_mem {cls : Nat} {own : Bool} {q : List QEntry} {e : QEntry} (h : victim cls own q = some e) : e ∈ q := by
  unfold victim at h
  split at h
  · next x hx =>
    cases h
    exact (List.mem_filter.mp (lastOf_mem hx)).1
  · split at h
    · exact (List.mem_filter.mp (lastOf_mem h)).1
    · cases h

/-- A full queue that loses an entry has a place. -/
theorem count_displaced {s : State} {e : QEntry} (he : e ∈ s.cau.queue) :
    (s.displace e).cau.count + 1 = s.cau.count := by
  have := List.length_erase_of_mem he
  have hpos := List.length_pos_of_mem he
  simp only [displace_cau, Cau.count]
  omega

theorem groupFree_displaced {s : State} {r : OwnRef} (e : QEntry) (h : groupFree s.cau r) :
    groupFree (s.displace e).cau r := by
  intro g hg
  have hz := h g hg
  have := ((List.erase_sublist (a := e) (l := s.cau.queue)).filter (·.owner.inGroup g)).length_le
  simp only [displace_cau, Cau.groupCount] at hz ⊢
  omega

theorem placeOwn_kept (s : State) (o : Offered) (hrun : s.cpt.part = .run) (hg : groupFree s.cau o.ref) :
    QueueKept G Q s (s.placeOwn o) := by
  unfold State.placeOwn
  split
  · next hc => exact ⟨acceptOwn_moves s o hrun, acceptOwn_limits hc hg⟩
  · split
    · next e he =>
      have hd := displace_kept (G := G) (Q := Q) s e
      have hmem := victim_mem he
      refine ⟨hd.toQueueMoves.trans (acceptOwn_moves _ o (by rw [hd.cpt]; exact hrun)), fun h => ?_⟩
      have hc : s.cau.count ≤ 8 := h.1
      have := count_displaced hmem
      exact acceptOwn_limits (by omega) (groupFree_displaced e hg) (hd.limits h)
    · exact refuseOwn_kept s o

/-- New content in the entry of a group (R16): the entry stays of the group, and the queue keeps its limits. -/
theorem mergeOwn_kept (s : State) (o : Offered) (e : QEntry) (g : Group) (hg : o.ref.group = some g)
    (he : e.owner.inGroup g = true) : QueueKept G Q s (s.mergeOwn o e) := by
  have hown (x : QEntry) (g' : Group) : (if x = e then { e with frame := s.ownFrame o.body e.frame.seq, owner := .own o.ref }
      else x : QEntry).owner.inGroup g' = x.owner.inGroup g' := by
    split
    · next hx =>
      subst hx
      obtain hx | ⟨r, hx⟩ : x.owner = .relay ∨ ∃ r, x.owner = .own r := by cases x.owner <;> simp
      · simp [hx, Owner.inGroup] at he
      · simp only [hx, Owner.inGroup, beq_iff_eq] at he ⊢
        rw [hg, he]
    · rfl
  refine QueueKept.trans ?_ (ownerAccepted_kept _ _ _)
  refine setCau_kept s _ (fun h => ?_) id (fun h x hx hr => ?_) (fun _ q => by simp [q])
  · have hfilter (g' : Group) (l : List QEntry) : ((l.map fun x =>
        if x = e then ({ e with frame := s.ownFrame o.body e.frame.seq, owner := .own o.ref } : QEntry) else x).filter
          (·.owner.inGroup g')).length = (l.filter (·.owner.inGroup g')).length := by
      rw [List.filter_map, List.length_map]
      congr 1
      exact List.filter_congr fun x _ => hown x g'
    simpa only [Cau.queueLaw, Cau.count, Cau.groupCount, List.length_map, hfilter] using h
  · obtain ⟨y, hy, rfl⟩ := List.mem_map.mp hx
    by_cases hy' : y = e
    · rw [if_pos hy'] at hr
      cases hr
    · rw [if_neg hy'] at hr ⊢
      exact h y hy hr

theorem setDeferred_fields (c : Cau) (g : Group) (o : Option Offered) :
    (c.setDeferred g o).queue = c.queue ∧ (c.setDeferred g o).onAir = c.onAir ∧ (c.setDeferred g o).w = c.w := by
  cases g <;> exact ⟨rfl, rfl, rfl⟩

theorem setDeferred_kept (s : State) (g : Group) (o : Option Offered) : QueueKept G Q s (s.setCau (s.cau.setDeferred g o)) := by
  obtain ⟨hq, ha, hw⟩ := setDeferred_fields s.cau g o
  exact setCau_kept_rest s _ hq ha (by simp only [Cau.windowLaw, hw]; exact id)

theorem deferOwn_kept (s : State) (o : Offered) (g : Group) : QueueKept G Q s (s.deferOwn o g) := by
  unfold State.deferOwn
  dsimp only
  split
  · exact (setDeferred_kept s g _).trans (tallyPlace_kept _ _ _)
  · exact setDeferred_kept s g _

theorem offerOwnQ_kept (s : State) (o : Offered) : QueueKept G Q s (s.offerOwnQ o) := by
  unfold State.offerOwnQ
  split
  · exact .refl s
  · next hrun =>
    have hrun : s.cpt.part = .run := by simpa [State.inRun] using hrun
    split
    · next hn => exact placeOwn_kept s o hrun (fun g hg => by rw [hn] at hg; cases hg)
    · next g hg =>
      split
      · next e he => exact mergeOwn_kept s o e g hg (by simpa using List.find?_some he)
      · next hnone =>
        have hnil : s.cau.queue.filter (·.owner.inGroup g) = [] := by
          simpa [List.filter_eq_nil_iff] using hnone
        have hfree (ha : (s.cau.onAir.map (·.entry.owner.inGroup g)).getD false = false) : groupFree s.cau o.ref := by
          intro g' hg'
          rw [hg] at hg'
          cases hg'
          simp [Cau.groupCount, hnil, ha]
        split
        · next a ha =>
          split
          · exact deferOwn_kept s o g
          · next hna => exact placeOwn_kept s o hrun (hfree (by simpa [ha] using hna))
        · next ha => exact placeOwn_kept s o hrun (hfree (by simp [ha]))

theorem offerRefQ_kept (s : State) (r : OwnRef) : QueueKept G Q s (s.offerRefQ r) := by
  unfold State.offerRefQ
  split
  · exact offerOwnQ_kept s _
  · exact .refl s

theorem reofferQ_kept (s : State) (r : OwnRef) : QueueKept G Q s (s.reofferQ r) := by
  unfold State.reofferQ
  split
  · exact offerOwnQ_kept s _
  · exact .refl s

/-! ## "space", deciding and keying -/

theorem reofferAll_kept (after : State → State) (h : ∀ s, QueueKept G Q s (after s)) (n : Nat) (l : List (Nat × OwnRef))
    (s : State) : QueueKept G Q s (reofferAll after n l s) := by
  induction n generalizing l s with
  | zero => exact .refl s
  | succ n ih =>
    unfold reofferAll
    split
    · exact .refl s
    · exact (nextDraw_kept s).trans ((reofferQ_kept _ _).trans ((h _).trans (ih _ _)))

theorem spaceThen_kept (after : State → State) (h : ∀ s, QueueKept G Q s (after s)) (s : State) :
    QueueKept G Q s (s.spaceThen after) := by
  unfold State.spaceThen
  split
  · exact reofferAll_kept after h _ _ s
  · exact .refl s

theorem drawBackoff_kept (s : State) (e : QEntry) : QueueKept G Q s (s.drawBackoff e) :=
  (nextDraw_kept s).trans (setCau_kept_rest _ _ rfl rfl id)

/-- Reception goes off, with no count but those of the queue changed. -/
theorem setRx_kept (s : State) (u : Stats) (h : u.unqueued = s.rru.stats.unqueued) :
    QueueKept G Q s (s.setRru { s.rru with rx := .idle, stats := u }) where
  toQueueFrame := setRru_frame s _ rfl rfl rfl (.refl _) h
  seq := id
  window := id
  relayed := id
  empty := fun _ _ => id
  refusals := id
  rx := .inr rfl
  limits := id

theorem truncate_kept (s : State) : QueueKept G Q s s.truncate := by
  unfold State.truncate
  split
  · exact setRx_kept s _ rfl
  · exact .refl s

theorem groupCount_startTx (c : Cau) (e k : QEntry) (a b : Nat) (u : AccessUnit) (g : Group) (he : e ∈ c.queue)
    (hk : k.owner = e.owner) : ({ c with queue := c.queue.erase e, onAir := some ⟨k, a, b⟩, au := u } : Cau).groupCount g
      ≤ c.groupCount g := by
  have hp := (List.perm_cons_erase he).filter (·.owner.inGroup g)
  have hlen := hp.length_eq
  simp only [Cau.groupCount, Option.map_some, Option.getD_some, hk, hlen, List.filter_cons]
  cases e.owner.inGroup g <;> simp

/-- Keying takes an entry of the queue on air under its owner (R25). -/
theorem startTx_kept (s : State) (e k : QEntry) (he : e ∈ s.cau.queue) (hk : k.owner = e.owner) :
    QueueKept G Q s (s.startTx e k) := by
  have h1 : QueueKept G Q s (s.truncate.setRru { s.truncate.rru with rx := .idle }) :=
    (truncate_kept s).trans (setRx_kept _ s.truncate.rru.stats rfl)
  have hcau : (s.truncate.setRru { s.truncate.rru with rx := .idle }).cau = s.cau := by
    unfold State.truncate
    split <;> rfl
  refine h1.trans (setCau_kept _ _ (fun h => ?_) id (fun h x hx => h x (List.mem_of_mem_erase hx)) (fun _ h => by
    simp only [h, List.erase_nil]))
  rw [hcau] at h ⊢
  obtain ⟨hc, hb, ht, h0⟩ := h
  have hg (g : Group) := groupCount_startTx s.cau e k (s.truncate.setRru { s.truncate.rru with rx := .idle }).now
    ((s.truncate.setRru { s.truncate.rru with rx := .idle }).now + k.frame.airtime) .rest g he hk
  refine ⟨?_, (hg _).trans hb, (hg _).trans ht, (hg _).trans h0⟩
  have hlen := List.length_erase_of_mem he
  have hpos := List.length_pos_of_mem he
  simp only [Cau.count, Option.isSome_some, Bool.toNat_true] at hc ⊢
  omega

theorem keyed_owner {e k : QEntry} {now : Nat} (h : e.keyed now = some k) : k.owner = e.owner := by
  unfold QEntry.keyed at h
  split at h
  · dsimp only at h
    split at h <;> cases h
    rfl
  · cases h
    rfl

theorem doubleW_law {w : Nat} (h : w ∈ [4, 8, 16, 32, 64]) : doubleW w ∈ [4, 8, 16, 32, 64] := by
  simp only [List.mem_cons, List.not_mem_nil, or_false] at h ⊢
  unfold doubleW
  omega

theorem decideHead_kept (n : Nat) (failed : Bool) (s : State) : QueueKept G Q s (decideHead n failed s) := by
  induction n generalizing failed s with
  | zero => exact .refl s
  | succ n ih =>
    unfold decideHead
    split
    · exact setCau_kept_rest s _ rfl rfl id
    · next e he =>
      split
      · split
        · next k hk => exact startTx_kept s e k (headOf_mem he) (keyed_owner hk)
        · have hleave : QueueKept G Q s (s.setQueue (s.cau.queue.erase e)) :=
            setQueue_kept_sublist s _ List.erase_sublist
          exact (hleave.trans (relayNotSent_kept _ e.frame.key)).trans ((spaceThen_kept id .refl _).trans (ih _ _))
      · split
        · refine QueueKept.trans ?_ (drawBackoff_kept _ _)
          exact setCau_kept_rest s _ rfl rfl doubleW_law
        · exact drawBackoff_kept s _

theorem decide_kept (s : State) (failed : Bool) : QueueKept G Q s (s.decide failed) := decideHead_kept _ _ _

theorem kick_kept (s : State) : QueueKept G Q s s.kick := by
  unfold State.kick
  split
  · exact .refl s
  · split
    · exact .refl s
    · exact decide_kept s _
    · split
      · exact decide_kept s _
      · exact .refl s

/-! ## What the blocks call -/

theorem offer_kept (s : State) (r : OwnRef) : QueueKept G Q s (s.offer r) := (offerRefQ_kept s r).trans (kick_kept _)

theorem space_kept (s : State) : QueueKept G Q s s.space := spaceThen_kept _ kick_kept s

theorem removeOwn_kept (s : State) (r : OwnRef) : QueueKept G Q s (s.removeOwn r) := by
  unfold State.removeOwn
  split
  · refine QueueKept.trans ?_ (space_kept _)
    exact setCau_kept_sublist s _ List.filter_sublist (.inl rfl) rfl
  · exact .refl s

theorem removeRelay_kept (s : State) (k : FrameKey) : QueueKept G Q s (s.removeRelay k) := by
  unfold State.removeRelay
  split
  · exact (setQueue_kept_sublist s _ List.filter_sublist).trans (space_kept _)
  · exact .refl s

theorem removeClaims_kept (s : State) (ks : List JobKey) : QueueKept G Q s (s.removeClaims ks) := by
  induction ks generalizing s with
  | nil => exact .refl s
  | cons k ks ih => exact (removeOwn_kept s _).trans (ih _)

theorem offerDeferred_kept (s : State) (g : Group) : QueueKept G Q s (s.offerDeferred g) := by
  unfold State.offerDeferred
  split
  · exact (setDeferred_kept s g none).trans (offerOwnQ_kept _ _)
  · exact .refl s

theorem acceptRelay_moves (s : State) (f : Frame) (t : Nat) (hf : G f) (hrun : Q → s.cpt.part = .config → False) :
    QueueMoves G Q s (s.acceptRelay f t) where
  toQueueFrame := acceptRelay_frame s f t
  seq := id
  window := id
  relayed := (setQueue_moves_append s _ (fun _ => hf) hrun).relayed
  empty := fun l h => (hrun l h).elim
  refusals := id
  rx := .inl rfl

theorem acceptRelay_limits {s : State} {f : Frame} {t : Nat} (hc : s.cau.count < 8) (h : s.cau.queueLaw) :
    (s.acceptRelay f t).cau.queueLaw :=
  queueLaw_append _ hc (fun g hi => by cases hi) h

/-- A relayed copy is offered outside CONFIG, and has the property of the copies in the queue. -/
theorem offerRelay_kept (s : State) (f : Frame) (t : Nat) (hf : G f) (hrun : Q → s.cpt.part = .config → False) :
    QueueKept G Q s (s.offerRelay f t) := by
  unfold State.offerRelay
  split
  · next hc => exact QueueKept.trans ⟨acceptRelay_moves s f t hf hrun, acceptRelay_limits hc⟩ (kick_kept _)
  · split
    · next e he =>
      have hd := displace_kept (G := G) (Q := Q) s e
      have hmem := victim_mem he
      refine QueueKept.trans ⟨hd.toQueueMoves.trans (acceptRelay_moves _ f t hf (by rw [hd.cpt]; exact hrun)),
        fun h => ?_⟩ (kick_kept _)
      have hc : s.cau.count ≤ 8 := h.1
      have := count_displaced hmem
      exact acceptRelay_limits (by omega) (hd.limits h)
    · exact relayNotSent_kept s _

end
end Sys2Proof
end

section
/-! PROOFS. What the acts of the blocks keep: one relation for the laws of the store, the queue, the tables and the channel. -/

namespace Sys2Proof
open Sys2Proof.Machine

/-! ## The relation -/

/-- In CONFIG nothing is queued, held, taken or known (R30, R48, R64). -/
def emptyLaw (s : State) : Prop :=
  s.cpt.part = .config → s.cau.queue = [] ∧ slotEntries s.rru.holds = [] ∧ s.rru.rx = .idle ∧ slotEntries s.ppu.peers = []

/-- The peers are distinct stations, none of them the own (R59). -/
def peersLaw (s : State) : Prop :=
  slotsDistinct (·.id) s.ppu.peers ∧ ∀ p ∈ slotEntries s.ppu.peers, p.id ≠ s.ownId

/-- Claim list and own score of an entry are in range (R71, R92). -/
def claimFits (e : BoardEntry) : Prop := claimsLaw e.claims ∧ e.score.getD 0 ≤ 1023

/-- What an act of a block keeps, on a port that executes: the port, the pins and the filter of PANIC as they are, and every law
of the other parts; relayed frames in the queue have the property `G`, those in a hold the property `H`; `Q` says that the laws of CONFIG hold of the state
at which the row was taken. -/
structure Keeps (G H : Frame → Prop) (Q : Prop) (s t : State) : Prop where
  pending : t.pending = s.pending
  powered : t.powered = s.powered
  pins : t.pins = s.pins
  port : t.cpt.phase = s.cpt.phase ∧ t.cpt.code = s.cpt.code ∧ t.cpt.params = s.cpt.params
    ∧ t.cpt.abandonAt = s.cpt.abandonAt ∧ t.cpt.result = s.cpt.result ∧ t.cpt.muted = s.cpt.muted
  panic : t.emu.panicLow = s.emu.panicLow ∧ t.emu.filterAt = s.emu.filterAt
  store : s.storeLaw → t.storeLaw
  totals : s.ret.totalsLaw → t.ret.totalsLaw
  counters : s.ret.countersLaw → t.ret.countersLaw
  trip : s.ret.tripLaw → t.ret.tripLaw
  limits : s.cau.queueLaw → t.cau.queueLaw
  window : s.cau.windowLaw → t.cau.windowLaw
  relayed : (∀ e ∈ s.cau.queue, e.owner = .relay → G e.frame) → ∀ e ∈ t.cau.queue, e.owner = .relay → G e.frame
  held : (∀ h ∈ slotEntries s.rru.holds, H h.frame) → ∀ h ∈ slotEntries t.rru.holds, H h.frame
  hunt : s.rru.windowLaw → t.rru.windowLaw
  sizes : s.sizeLaw → t.sizeLaw
  events : s.cpt.eventLaw → t.cpt.eventLaw
  boardKeys : s.ofb.keyLaw → t.ofb.keyLaw
  claims : s.ofb.claimLaw → t.ofb.claimLaw
  inboxKeys : s.nts.keyLaw → t.nts.keyLaw
  alarmKeys : s.emu.keyLaw → t.emu.keyLaw
  quiet : Q → emptyLaw s ∧ peersLaw s → emptyLaw t ∧ peersLaw t
  run : s.cpt.part = .run → t.cpt.part = .run ∧ t.cpt.config = s.cpt.config

section
variable {G H : Frame → Prop} {Q : Prop}

theorem Keeps.refl (s : State) : Keeps G H Q s s := by
  constructor <;> first | rfl | exact id | exact fun _ => id | exact ⟨rfl, rfl, rfl, rfl, rfl, rfl⟩ | exact ⟨rfl, rfl⟩ | exact fun h => ⟨h, rfl⟩

theorem Keeps.trans {s t u : State} (h : Keeps G H Q s t) (k : Keeps G H Q t u) : Keeps G H Q s u where
  pending := k.pending.trans h.pending
  powered := k.powered.trans h.powered
  pins := k.pins.trans h.pins
  port := by
    obtain ⟨h1, h2, h3, h4, h5, h6⟩ := h.port
    obtain ⟨k1, k2, k3, k4, k5, k6⟩ := k.port
    exact ⟨k1.trans h1, k2.trans h2, k3.trans h3, k4.trans h4, k5.trans h5, k6.trans h6⟩
  panic := ⟨k.panic.1.trans h.panic.1, k.panic.2.trans h.panic.2⟩
  store := k.store ∘ h.store
  totals := k.totals ∘ h.totals
  counters := k.counters ∘ h.counters
  trip := k.trip ∘ h.trip
  limits := k.limits ∘ h.limits
  window := k.window ∘ h.window
  relayed := k.relayed ∘ h.relayed
  held := k.held ∘ h.held
  hunt := k.hunt ∘ h.hunt
  sizes := k.sizes ∘ h.sizes
  events := k.events ∘ h.events
  boardKeys := k.boardKeys ∘ h.boardKeys
  claims := k.claims ∘ h.claims
  inboxKeys := k.inboxKeys ∘ h.inboxKeys
  alarmKeys := k.alarmKeys ∘ h.alarmKeys
  quiet := fun l => k.quiet l ∘ h.quiet l
  run := fun r => ⟨(k.run (h.run r).1).1, (k.run (h.run r).1).2.trans (h.run r).2⟩

/-- The same as `trans`, the later act first. -/
theorem Keeps.after {s t u : State} (k : Keeps G H Q t u) (h : Keeps G H Q s t) : Keeps G H Q s u := h.trans k

/-! ## Updates of single blocks -/

theorem setRet_keeps (s : State) (r : Retained) (ht : s.ret.totalsLaw → r.totalsLaw)
    (hc : s.ret.countersLaw → r.countersLaw) (hr : s.ret.tripLaw → r.tripLaw)
    (hs : r.tariffs.length = s.ret.tariffs.length ∧ r.surcharges.length = s.ret.surcharges.length) :
    Keeps G H Q s (s.setRet r) where
  pending := rfl
  powered := rfl
  pins := rfl
  port := ⟨rfl, rfl, rfl, rfl, rfl, rfl⟩
  panic := ⟨rfl, rfl⟩
  store := fun _ => rfl
  totals := ht
  counters := hc
  trip := hr
  limits := id
  window := id
  relayed := id
  held := id
  hunt := id
  sizes := by
    simp only [State.sizeLaw, State.setRet_ret, hs.1, hs.2]
    exact id
  events := id
  boardKeys := id
  claims := id
  inboxKeys := id
  alarmKeys := id
  quiet := fun _ => id
  run := fun h => ⟨h, rfl⟩

/-- A change of the store that the totals, the counters, the trip and the figures do not see. -/
theorem setRet_keeps_rest (s : State) (r : Retained) (hl : r.life = s.ret.life) (hh : r.shift = s.ret.shift)
    (hc : s.ret.countersLaw → r.countersLaw)
    (hr : r.tariffs = s.ret.tariffs ∧ r.surcharges = s.ret.surcharges ∧ r.k = s.ret.k)
    (ht : r.trip = s.ret.trip) (hf : r.fare.running = s.ret.fare.running) : Keeps G H Q s (s.setRet r) :=
  setRet_keeps s r (by simp only [Retained.totalsLaw, hl, hh]; exact id) hc
    (by simp only [Retained.tripLaw, Retained.figuresLaw, hr, ht, hf]; exact id) (by simp [hr])

theorem setFre_keeps (s : State) (f : Fre) : Keeps G H Q s (s.setFre f) := by
  constructor <;> first | rfl | exact id | exact fun _ => id | exact ⟨rfl, rfl, rfl, rfl, rfl, rfl⟩ | exact ⟨rfl, rfl⟩ | exact fun h => ⟨h, rfl⟩

theorem setTtl_keeps (s : State) (u : Ttl) : Keeps G H Q s (s.setTtl u) := by
  constructor <;> first | rfl | exact id | exact fun _ => id | exact ⟨rfl, rfl, rfl, rfl, rfl, rfl⟩ | exact ⟨rfl, rfl⟩ | exact fun h => ⟨h, rfl⟩

theorem setOfb_keeps (s : State) (o : Ofb) (hn : o.slots.length = s.ofb.slots.length) (hk : s.ofb.keyLaw → o.keyLaw)
    (hc : s.ofb.claimLaw → o.claimLaw) : Keeps G H Q s (s.setOfb o) where
  pending := rfl
  powered := rfl
  pins := rfl
  port := ⟨rfl, rfl, rfl, rfl, rfl, rfl⟩
  panic := ⟨rfl, rfl⟩
  store := id
  totals := id
  counters := id
  trip := id
  limits := id
  window := id
  relayed := id
  held := id
  hunt := id
  sizes := by
    simp only [State.sizeLaw, State.setOfb_ofb, hn]
    exact id
  events := id
  boardKeys := hk
  claims := hc
  inboxKeys := id
  alarmKeys := id
  quiet := fun _ => id
  run := fun h => ⟨h, rfl⟩

theorem setNts_keeps (s : State) (n : Nts) (hi : n.inbox.length = s.nts.inbox.length)
    (ho : n.outbox.length = s.nts.outbox.length) (hr : n.refusals = s.nts.refusals) (hk : s.nts.keyLaw → n.keyLaw) :
    Keeps G H Q s (s.setNts n) where
  pending := rfl
  powered := rfl
  pins := rfl
  port := ⟨rfl, rfl, rfl, rfl, rfl, rfl⟩
  panic := ⟨rfl, rfl⟩
  store := id
  totals := id
  counters := id
  trip := id
  limits := id
  window := id
  relayed := id
  held := id
  hunt := id
  sizes := by
    simp only [State.sizeLaw, State.setNts_nts, hi, ho, hr]
    exact id
  events := id
  boardKeys := id
  claims := id
  inboxKeys := hk
  alarmKeys := id
  quiet := fun _ => id
  run := fun h => ⟨h, rfl⟩

theorem setEmu_keeps (s : State) (e : Emu) (hp : e.panicLow = s.emu.panicLow ∧ e.filterAt = s.emu.filterAt)
    (hn : e.table.length = s.emu.table.length) (hk : s.emu.keyLaw → e.keyLaw) : Keeps G H Q s (s.setEmu e) where
  pending := rfl
  powered := rfl
  pins := rfl
  port := ⟨rfl, rfl, rfl, rfl, rfl, rfl⟩
  panic := hp
  store := id
  totals := id
  counters := id
  trip := id
  limits := id
  window := id
  relayed := id
  held := id
  hunt := id
  sizes := by
    simp only [State.sizeLaw, State.setEmu_emu, hn]
    exact id
  events := id
  boardKeys := id
  claims := id
  inboxKeys := id
  alarmKeys := hk
  quiet := fun _ => id
  run := fun h => ⟨h, rfl⟩

/-- A change of the own alarm alone. -/
theorem setEmu_keeps_own (s : State) (e : Emu) (hp : e.panicLow = s.emu.panicLow ∧ e.filterAt = s.emu.filterAt)
    (ht : e.table = s.emu.table) : Keeps G H Q s (s.setEmu e) :=
  setEmu_keeps s e hp (by rw [ht]) (by simp only [Emu.keyLaw, ht]; exact id)

theorem setPpu_keeps (s : State) (p : Ppu) (hz : p.zones.length = s.ppu.zones.length)
    (hn : p.peers.length = s.ppu.peers.length)
    (hq : Q → emptyLaw s ∧ peersLaw s → emptyLaw (s.setPpu p) ∧ peersLaw (s.setPpu p)) : Keeps G H Q s (s.setPpu p) where
  pending := rfl
  powered := rfl
  pins := rfl
  port := ⟨rfl, rfl, rfl, rfl, rfl, rfl⟩
  panic := ⟨rfl, rfl⟩
  store := id
  totals := id
  counters := id
  trip := id
  limits := id
  window := id
  relayed := id
  held := id
  hunt := id
  sizes := by
    simp only [State.sizeLaw, State.setPpu_ppu, hz, hn]
    exact id
  events := id
  boardKeys := id
  claims := id
  inboxKeys := id
  alarmKeys := id
  quiet := hq
  run := fun h => ⟨h, rfl⟩

/-- A change of the PPU that leaves the peer table alone. -/
theorem setPpu_keeps_peers (s : State) (p : Ppu) (hz : p.zones.length = s.ppu.zones.length)
    (hn : p.peers = s.ppu.peers) : Keeps G H Q s (s.setPpu p) :=
  setPpu_keeps s p hz (by rw [hn]) (by simp only [emptyLaw, peersLaw, State.setPpu_ppu, hn]; exact fun _ => id)

theorem setRru_keeps (s : State) (r : Rru) (hh : r.holds.length = s.rru.holds.length)
    (hc : s.rru.cache.length ≤ 16 → r.cache.length ≤ 16)
    (hf : (∀ h ∈ slotEntries s.rru.holds, H h.frame) → ∀ h ∈ slotEntries r.holds, H h.frame)
    (hw : s.rru.windowLaw → r.windowLaw)
    (hq : Q → s.cpt.part = .config → slotEntries s.rru.holds = [] ∧ s.rru.rx = .idle → slotEntries r.holds = [] ∧ r.rx = .idle) :
    Keeps G H Q s (s.setRru r) where
  pending := rfl
  powered := rfl
  pins := rfl
  port := ⟨rfl, rfl, rfl, rfl, rfl, rfl⟩
  panic := ⟨rfl, rfl⟩
  store := id
  totals := id
  counters := id
  trip := id
  limits := id
  window := id
  relayed := id
  held := hf
  hunt := hw
  sizes := by
    simp only [State.sizeLaw, State.setRru_rru, hh]
    rintro ⟨h1, h2, h3, h4, h5, h6, h7, h8, h9, h10⟩
    exact ⟨h1, h2, h3, h4, h5, h6, h7, h8, hc h9, h10⟩
  events := id
  boardKeys := id
  claims := id
  inboxKeys := id
  alarmKeys := id
  quiet := fun l ⟨he, hp⟩ => by
    refine ⟨fun hpart => ?_, hp⟩
    obtain ⟨h1, h2, h3, h4⟩ := he hpart
    obtain ⟨k2, k3⟩ := hq l hpart ⟨h2, h3⟩
    exact ⟨h1, k2, k3, h4⟩
  run := fun h => ⟨h, rfl⟩

/-- A change of the receive unit that leaves the holds, the receiver and the size of the cache alone. -/
theorem setRru_keeps_rest (s : State) (r : Rru) (hh : r.holds = s.rru.holds) (hx : r.rx = s.rru.rx)
    (hc : s.rru.cache.length ≤ 16 → r.cache.length ≤ 16) : Keeps G H Q s (s.setRru r) :=
  setRru_keeps s r (by rw [hh]) hc (by rw [hh]; exact id) (by simp only [Rru.windowLaw, hx]; exact id)
    (fun _ _ => by rw [hh, hx]; exact id)

theorem setStats_keeps (s : State) (u : Stats) : Keeps G H Q s (s.setStats u) := setRru_keeps_rest s _ rfl rfl id

theorem raiseEvent_keeps (s : State) (k : EventKind) (a b : Nat) : Keeps G H Q s (s.raiseEvent k a b) where
  pending := rfl
  powered := rfl
  pins := rfl
  port := ⟨rfl, rfl, rfl, rfl, rfl, rfl⟩
  panic := ⟨rfl, rfl⟩
  store := id
  totals := id
  counters := id
  trip := id
  limits := id
  window := id
  relayed := id
  held := id
  hunt := id
  sizes := id
  events := raiseEvent_keeps_eventLaw k a b
  boardKeys := id
  claims := id
  inboxKeys := id
  alarmKeys := id
  quiet := fun _ => id
  run := fun h => ⟨h, rfl⟩

/-- A queue operation keeps every law. -/
theorem QueueKept.toKeeps {s t : State} (h : QueueKept G Q s t) : Keeps G H Q s t where
  pending := h.pending
  powered := h.powered
  pins := h.pins
  port := by rw [h.cpt]; exact ⟨rfl, rfl, rfl, rfl, rfl, rfl⟩
  panic := by rw [h.emu]; exact ⟨rfl, rfl⟩
  store := h.store
  totals := by rw [h.ret]; exact id
  counters := by
    rintro ⟨h1, h2, h3, h4, h5⟩
    have h3 := h.seq h3
    rw [h.ret]
    exact ⟨h1, h2, h3, h4, h5⟩
  trip := by rw [h.ret]; exact id
  limits := h.limits
  window := h.window
  relayed := h.relayed
  held := by rw [h.holds]; exact id
  hunt := fun hw w hx => by
    obtain e | e := h.rx
    · exact hw w (e ▸ hx)
    · rw [e] at hx
      cases hx
  sizes := by
    rintro ⟨h1, h2, h3, h4, h5, h6, h7, h8, h9, h10, h11⟩
    have k3 := congrArg List.length h.board
    have k4 := congrArg List.length h.inbox
    have k5 := congrArg List.length h.outbox
    have k9 := h.cache.length_le
    simp only [List.length_map] at k3 k4 k5 k9
    simp only [State.sizeLaw, h.ppu, h.emu, h.holds, k3, k4, k5]
    rw [h.ret]
    exact ⟨h1, h2, h3, h4, h5, h.refusals h6, h7, h8, k9.trans h9, h10, h11⟩
  events := by rw [h.cpt]; exact id
  boardKeys := slotsDistinct_of_map_eq (g := BoardEntry.unmark) (·.key) (fun _ => rfl) h.board
  claims := forall_slotEntries_of_map_eq (g := BoardEntry.unmark) (p := claimFits) claimFits (fun _ => Iff.rfl) h.board
  inboxKeys := slotsDistinct_of_map_eq (g := InNote.unmark) (fun r => (r.origin, r.id)) (fun _ => rfl) h.inbox
  alarmKeys := by rw [h.emu]; exact id
  quiet := fun l ⟨he, hp⟩ => by
    refine ⟨fun hpart => ?_, ?_⟩
    · rw [h.cpt] at hpart
      obtain ⟨h1, h2, h3, h4⟩ := he hpart
      refine ⟨h.empty l hpart h1, by rw [h.holds]; exact h2, ?_, by rw [h.ppu]; exact h4⟩
      obtain e | e := h.rx
      · exact e.trans h3
      · exact e
    · simp only [peersLaw, State.ownId, h.ppu, h.cpt]
      exact hp
  run := by rw [h.cpt]; exact fun r => ⟨r, rfl⟩

end
end Sys2Proof
end

section
/-! PROOFS. The operations of the fare engine, the totals and the availability keep the laws. -/

namespace Sys2Proof
open Sys2Proof.Machine

section
variable {G H : Frame → Prop} {Q : Prop}

theorem offer_keeps (s : State) (r : OwnRef) : Keeps G H Q s (s.offer r) := (offer_kept s r).toKeeps

theorem removeOwn_keeps (s : State) (r : OwnRef) : Keeps G H Q s (s.removeOwn r) := (removeOwn_kept s r).toKeeps

theorem nextDraw_keeps (s : State) : Keeps G H Q s s.nextDraw := (nextDraw_kept s).toKeeps

/-! ## The board and the availability (R78, R110) -/

theorem mapBoard_keeps (s : State) (f : BoardEntry → BoardEntry) (hk : ∀ e, (f e).key = e.key)
    (hc : ∀ e, claimFits e → claimFits (f e)) : Keeps G H Q s (s.mapBoard f) :=
  setOfb_keeps s _ (List.length_map _) (slotsDistinct_map f hk) fun h e he => by
    obtain ⟨x, hx, rfl⟩ := mem_slotEntries_map.mp he
    exact hc x (h x hx)

theorem toWatch_fields (e : BoardEntry) (r : Reason) :
    (e.toWatch r).key = e.key ∧ (e.toWatch r).claims = e.claims ∧ (e.toWatch r).score = e.score := by
  unfold BoardEntry.toWatch
  split <;> exact ⟨rfl, rfl, rfl⟩

theorem convertBoard_keeps (s : State) (r : Reason) : Keeps G H Q s (s.convertBoard r) := by
  refine (mapBoard_keeps s _ (fun e => (toWatch_fields e r).1) fun e h => ?_).trans (removeClaims_kept _ _).toKeeps
  obtain ⟨-, hc, hs⟩ := toWatch_fields e r
  simpa only [claimFits, hc, hs] using h

theorem boardAvail_keeps (s : State) (a : Avail) : Keeps G H Q s (s.boardAvail a) := by
  have h : Keeps G H Q s (s.setOfb { s.ofb with avail := some a }) := setOfb_keeps s _ rfl id id
  unfold State.boardAvail
  dsimp only
  split
  · exact h.trans (convertBoard_keeps _ _)
  · exact h

theorem ppuAvail_keeps (s : State) (a : Avail) : Keeps G H Q s (s.ppuAvail a) := setPpu_keeps_peers s _ rfl rfl

theorem recompute_keeps (s : State) : Keeps G H Q s s.recompute := by
  unfold State.recompute
  dsimp only
  split
  · exact .refl s
  · exact .after (ppuAvail_keeps _ _) (.after (boardAvail_keeps _ _) (setFre_keeps s _))

theorem idleUpdate_keeps (s : State) : Keeps G H Q s s.idleUpdate := by
  unfold State.idleUpdate
  split
  · split
    · exact setFre_keeps s _
    · exact .refl s
  · exact setFre_keeps s _

/-- The fare state changes without a trip beginning or ending. -/
theorem setFare_keeps (s : State) (f : FareState) (h : f.running = s.ret.fare.running) : Keeps G H Q s (s.setFare f) :=
  .after (recompute_keeps _) (.after (idleUpdate_keeps _) (setRet_keeps_rest s _ rfl rfl id ⟨rfl, rfl, rfl⟩ rfl h))

theorem fareTaking_keeps (s : State) : Keeps G H Q s s.fareTaking := by
  unfold State.fareTaking
  split
  · next h => exact setFare_keeps s _ (by rw [eq_of_beq h]; rfl)
  · exact .refl s

theorem fareReleased_keeps (s : State) : Keeps G H Q s s.fareReleased := by
  unfold State.fareReleased
  split
  · next h => exact setFare_keeps s _ (by rw [eq_of_beq h]; rfl)
  · exact .refl s

/-! ## The trip in progress (R116 to R122) -/

theorem setTrip_keeps (s : State) (old new : Trip) (ht : s.ret.trip = some old) (h : old.law → new.law) :
    Keeps G H Q s (s.setTrip new) := by
  refine setRet_keeps s _ id id (fun hl => ?_) ⟨rfl, rfl⟩
  obtain ⟨hfig, hrun, htrip⟩ := hl
  refine ⟨hfig, by rw [← hrun, ht]; rfl, fun t e => ?_⟩
  cases e
  exact h (htrip old ht)

theorem setPriced_keeps (s : State) (old new : Trip) (ht : s.ret.trip = some old) (h : old.law → new.law) :
    Keeps G H Q s (s.setPriced new) := by
  unfold State.setPriced
  split
  · exact .after (raiseEvent_keeps _ _ _ _) (setTrip_keeps s old _ ht h)
  · exact setTrip_keeps s old new ht h

theorem setEarned_keeps (s : State) (old new : Trip) (ht : s.ret.trip = some old) (h : old.law → new.law) :
    Keeps G H Q s (s.setEarned old new) := by
  unfold State.setEarned
  split
  · exact setTrip_keeps s old new ht h
  · exact setPriced_keeps s old new ht h

theorem setPriced_trip (s : State) (t : Trip) : (s.setPriced t).ret.fare = s.ret.fare
    ∧ (s.setPriced t).ret.trip.isSome = true := by
  unfold State.setPriced
  split <;> exact ⟨rfl, rfl⟩

theorem setEarned_trip (s : State) (old new : Trip) : (s.setEarned old new).ret.fare = s.ret.fare
    ∧ (s.setEarned old new).ret.trip.isSome = true := by
  unfold State.setEarned
  split
  · exact ⟨rfl, rfl⟩
  · exact setPriced_trip s new

theorem satAdd_le (cap n m : Nat) : satAdd cap n m ≤ cap := Nat.min_le_left _ _

theorem addCredit_law {t : Trip} (credit : Nat) (h : t.law) : (t.addCredit credit).law := by
  obtain ⟨h1, -, -, h4, h5⟩ := h
  exact ⟨h1, Nat.mod_lt _ h1, satAdd_le _ _ _, h4, h5⟩

theorem settlePart_law {t : Trip} (n : Nat) (h : t.law) : (t.settlePart n).law := by
  obtain ⟨h1, h2, h3, -, h5⟩ := addCredit_law (t.bucket * t.incTime) h
  exact ⟨h1, h2, h3, Nat.zero_le _, h5⟩

theorem tickHired_law {t : Trip} (h : t.law) : t.tickHired.law := by
  obtain ⟨h1, h2, h3, -, h5⟩ := addCredit_law t.secondCredit h
  exact ⟨h1, h2, h3, Nat.zero_le _, h5⟩

theorem pulse_law {t : Trip} (k : Nat) (hired : Bool) (h : t.law) : (t.pulse k hired).law := by
  obtain ⟨h1, h2, h3, h4, h5⟩ := h
  unfold Trip.pulse
  dsimp only
  split
  · split
    · next hb => exact ⟨h1, h2, h3, hb, h5⟩
    · exact ⟨h1, h2, h3, h4, h5⟩
  · exact ⟨h1, h2, h3, h4, h5⟩

theorem surchargeTest_keeps (s : State) : Keeps G H Q s s.surchargeTest := by
  unfold State.surchargeTest
  split
  · next t i ht _ =>
    split
    · exact .refl s
    · exact setPriced_keeps s t _ ht id
  · exact .refl s

theorem startSecond_keeps (s : State) : Keeps G H Q s s.startSecond := setFre_keeps s _

theorem stopSecond_keeps (s : State) : Keeps G H Q s s.stopSecond := setFre_keeps s _

theorem secondTick_keeps (s : State) : Keeps G H Q s s.secondTick := by
  unfold State.secondTick
  dsimp only
  split
  · next t _ ht => exact .after (setEarned_keeps _ t _ ht tickHired_law) (setFre_keeps s _)
  · next t _ ht => exact .after (setTrip_keeps _ t _ ht id) (setFre_keeps s _)
  · exact setFre_keeps s _

theorem tripPulse_keeps (s : State) (k : Nat) : Keeps G H Q s (s.tripPulse k) := by
  unfold State.tripPulse
  split
  · next t _ ht => exact setTrip_keeps s t _ ht (pulse_law k true)
  · next t _ ht => exact setTrip_keeps s t _ ht (pulse_law k false)
  · exact .refl s

theorem satAdd_mono {cap a b : Nat} (n : Nat) (h : a ≤ b) : satAdd cap a n ≤ satAdd cap b n := by
  unfold satAdd
  omega

theorem metres_keeps (s : State) (n : Nat) : Keeps G H Q s (s.metres n) := by
  refine setRet_keeps s _ (fun h => ?_) id id ⟨rfl, rfl⟩
  obtain ⟨h1, h2, h3, h4, h5, h6, h7, h8⟩ := h
  dsimp only
  split
  · exact ⟨h1, h2, h3, h4, h5, h6, satAdd_mono n h7, satAdd_le _ _ _⟩
  · refine ⟨h1, h2, h3, h4, h5, h6, ?_, satAdd_le _ _ _⟩
    simp only [satAdd]
    omega

theorem pulse_keeps (s : State) : Keeps G H Q s s.pulse := by
  unfold State.pulse
  split
  · exact .refl s
  · exact .after (tripPulse_keeps _ _)
      (.after (metres_keeps _ _) (setRet_keeps_rest s _ rfl rfl id ⟨rfl, rfl, rfl⟩ rfl rfl))

theorem fixNotice_keeps (s : State) (z : Bool) : Keeps G H Q s (s.fixNotice z) := by
  unfold State.fixNotice
  dsimp only
  split
  · exact .after (surchargeTest_keeps _) (recompute_keeps s)
  · exact recompute_keeps s

/-- The fare state moves between two states of a running trip. -/
theorem setRunning_keeps (s : State) (f : FareState) (h : f.running = s.ret.fare.running) :
    Keeps G H Q s ((s.setRet { s.ret with fare := f }).startSecond) :=
  .after (startSecond_keeps _) (setRet_keeps_rest s _ rfl rfl id ⟨rfl, rfl, rfl⟩ rfl h)

theorem alarmFare_keeps (s : State) : Keeps G H Q s s.alarmFare := by
  unfold State.alarmFare
  split
  · next t _ hf ht =>
    refine (setEarned_keeps s t _ ht (settlePart_law _)).trans (setRunning_keeps _ _ ?_)
    rw [(setEarned_trip s t _).1, hf]
    rfl
  · next t _ hf ht =>
    exact .after (setRunning_keeps _ _ (by rw [State.setTrip_ret, hf]; rfl)) (setTrip_keeps s t _ ht id)
  · next t _ hf ht =>
    exact .after (setRunning_keeps _ _ (by rw [State.setTrip_ret, hf]; rfl)) (setTrip_keeps s t _ ht id)
  · exact .refl s

theorem alarmNotice_keeps (s : State) : Keeps G H Q s s.alarmNotice := (alarmFare_keeps s).trans (recompute_keeps _)

/-! ## Late cancels, the tally and the log (R126, R130 to R140) -/

theorem markLate_length (k : JobKey) (l : List TripRecord) : (markLate k l).length = l.length := by
  induction l with
  | nil => rfl
  | cons r l ih =>
    unfold markLate
    split
    · rfl
    · simp [ih]

theorem lateLog_keeps (s : State) (k : JobKey) : Keeps G H Q s (s.lateLog k) := by
  unfold State.lateLog
  split
  · refine setRet_keeps_rest s _ rfl rfl (fun h => ?_) ⟨rfl, rfl, rfl⟩ rfl rfl
    simpa only [Retained.countersLaw, markLate_length] using h
  · exact .refl s

theorem lateCancel_keeps (s : State) (k : JobKey) : Keeps G H Q s (s.lateCancel k) := by
  unfold State.lateCancel
  split
  · next t ht =>
    split
    · exact setTrip_keeps s t _ ht id
    · exact lateLog_keeps s k
  · exact lateLog_keeps s k

theorem offerTally_keeps (s : State) (b : TallyBody) (q : Option Nat) : Keeps G H Q s (s.offerTally b q) :=
  .after (offer_keeps _ _) (setTtl_keeps s _)

theorem buildTally_keeps (s : State) : Keeps G H Q s s.buildTally := by
  unfold State.buildTally
  dsimp only
  split
  · exact offerTally_keeps s _ _
  · split
    · exact offerTally_keeps s _ _
    · exact setTtl_keeps s _

theorem tallyIfHome_keeps (s : State) : Keeps G H Q s s.tallyIfHome := by
  unfold State.tallyIfHome
  split
  · exact buildTally_keeps s
  · exact .refl s

theorem tallySent_keeps (s : State) : Keeps G H Q s s.tallySent := by
  unfold State.tallySent
  split
  · exact .refl s
  · exact setTtl_keeps s _

theorem nextTrip_le (n : Nat) : nextTrip n ≤ cap16 := by
  simp only [nextTrip, cap16]
  split <;> omega

/-- A trip booked under its number is added to both sets of totals alike (R133). -/
theorem bookTrip_keeps (s : State) (r : TripRecord) (hn : r.number ≤ cap16) : Keeps G H Q s (s.bookTrip r) := by
  refine setRet_keeps s _ (fun h => ?_) (fun h => ?_) id ⟨rfl, rfl⟩
  · obtain ⟨h1, h2, h3, h4, h5, h6, h7, h8⟩ := h
    exact ⟨satAdd_mono _ h1, satAdd_le _ _ _, satAdd_mono _ h3, satAdd_le _ _ _, satAdd_mono _ h5, satAdd_le _ _ _, h7, h8⟩
  · obtain ⟨-, -, h3, h4, h5⟩ := h
    exact ⟨List.length_take_le _ _, hn, h3, h4, h5⟩

/-! ## The own alarm (R163 to R173) -/

theorem flashUpdate_keeps (s : State) : Keeps G H Q s s.flashUpdate := by
  unfold State.flashUpdate
  split
  · split
    · exact setEmu_keeps_own s _ ⟨rfl, rfl⟩ rfl
    · exact .refl s
  · exact setEmu_keeps_own s _ ⟨rfl, rfl⟩ rfl

theorem setAlarm_keeps (s : State) (a : AlarmState) (c : Bool) : Keeps G H Q s (s.setAlarm a c) :=
  setRet_keeps_rest s _ rfl rfl id ⟨rfl, rfl, rfl⟩ rfl rfl

theorem alarmChanged_keeps (s : State) : Keeps G H Q s s.alarmChanged :=
  .after (flashUpdate_keeps _) (alarmNotice_keeps s)

theorem startRepeat_keeps (s : State) : Keeps G H Q s s.startRepeat := setEmu_keeps_own s _ ⟨rfl, rfl⟩ rfl

/-- An ALARM is offered and the repeat timer starts. -/
theorem offerRepeat_keeps (s : State) : Keeps G H Q s (s.offer .alarm).startRepeat :=
  .after (startRepeat_keeps _) (offer_keeps s _)

theorem enterCovert_keeps (s : State) : Keeps G H Q s s.enterCovert := by
  unfold State.enterCovert
  dsimp only
  exact .after (offerRepeat_keeps _) (.after (setEmu_keeps_own _ _ ⟨rfl, rfl⟩ rfl)
      (.after (alarmChanged_keeps _) (setAlarm_keeps s _ _)))

theorem enterEnding_keeps (s : State) : Keeps G H Q s s.enterEnding := by
  unfold State.enterEnding
  dsimp only
  exact .after (offer_keeps _ _) (.after (setEmu_keeps_own _ _ ⟨rfl, rfl⟩ rfl) (.after (alarmChanged_keeps _)
      (.after (removeOwn_keeps _ _) (.after (setEmu_keeps_own _ _ ⟨rfl, rfl⟩ rfl) (setAlarm_keeps s _ _)))))

theorem enterQuiet_keeps (s : State) : Keeps G H Q s s.enterQuiet := by
  unfold State.enterQuiet
  dsimp only
  exact .after (alarmChanged_keeps _) (.after (setEmu_keeps_own _ _ ⟨rfl, rfl⟩ rfl) (setAlarm_keeps s _ _))

theorem alarmSent_keeps (s : State) : Keeps G H Q s s.alarmSent := by
  unfold State.alarmSent
  split
  · dsimp only
    split
    · exact .after (raiseEvent_keeps _ _ _ _) (setEmu_keeps_own s _ ⟨rfl, rfl⟩ rfl)
    · exact setEmu_keeps_own s _ ⟨rfl, rfl⟩ rfl
  · exact .refl s

theorem alarmEndSent_keeps (s : State) : Keeps G H Q s s.alarmEndSent := by
  unfold State.alarmEndSent
  split
  · exact setEmu_keeps_own s _ ⟨rfl, rfl⟩ rfl
  · exact enterQuiet_keeps s
  · exact .refl s

theorem alarmGo_keeps (s : State) : Keeps G H Q s s.alarmGo := by
  unfold State.alarmGo
  split
  · exact .after (offerRepeat_keeps _) (setEmu_keeps_own s _ ⟨rfl, rfl⟩ rfl)
  · exact .after (offerRepeat_keeps _) (setEmu_keeps_own s _ ⟨rfl, rfl⟩ rfl)
  · exact .after (offer_keeps _ _) (setEmu_keeps_own s _ ⟨rfl, rfl⟩ rfl)
  · exact .refl s

/-! ## The position and the beacons (R49 to R53, R66 to R68) -/

theorem validFix_keeps (s : State) (p : Point) : Keeps G H Q s (s.validFix p) := by
  unfold State.validFix
  dsimp only
  split
  · exact .after (fixNotice_keeps _ _) (setPpu_keeps_peers s _ rfl rfl)
  · exact setPpu_keeps_peers s _ rfl rfl

theorem turnStale_keeps (s : State) : Keeps G H Q s s.turnStale := by
  unfold State.turnStale
  exact .after (fixNotice_keeps _ _) (setPpu_keeps_peers s _ rfl rfl)

theorem sendBeacon_keeps (s : State) : Keeps G H Q s s.sendBeacon := by
  unfold State.sendBeacon
  dsimp only
  exact .after (offer_keeps _ _) (.after (setPpu_keeps_peers _ _ rfl rfl) (nextDraw_keeps s))

end
end Sys2Proof
end

section
/-! PROOFS. The operations of the board, the note store and the emergency unit keep the laws. -/

namespace Sys2Proof
open Sys2Proof.Machine

section
variable {G H : Frame → Prop} {Q : Prop}

/-! ## Board entries written -/

/-- An entry with the key of the slot, and its claim list and score in range when those of the slot were. -/
def fitsSlot (s : State) (slot : Nat) (e : BoardEntry) : Prop :=
  ∃ x, slotGet s.ofb.slots slot = some x ∧ e.key = x.key ∧ (claimFits x → claimFits e)

theorem fitsSlot_of {s : State} {slot : Nat} {x e : BoardEntry} (hx : slotGet s.ofb.slots slot = some x)
    (hk : e.key = x.key) (hc : claimFits x → claimFits e) : fitsSlot s slot e := ⟨x, hx, hk, hc⟩

/-- A change of an entry that leaves its key, its claims and its score alone. -/
theorem fitsSlot_rest {s : State} {slot : Nat} {x : BoardEntry} (e : BoardEntry) (hx : slotGet s.ofb.slots slot = some x)
    (hk : e.key = x.key) (hc : e.claims = x.claims) (hs : e.score = x.score) : fitsSlot s slot e :=
  ⟨x, hx, hk, by simp only [claimFits, hc, hs]; exact id⟩

theorem entry_slot {s : State} {k : JobKey} {slot : Nat} {e : BoardEntry} (h : s.entry k = some (slot, e)) :
    slotGet s.ofb.slots slot = some e := (slotFind_zero _ _ _ _ h).1

theorem jobEntry_slot {s : State} {slot : Nat} {e : BoardEntry} (h : s.jobEntry = some (slot, e)) :
    slotGet s.ofb.slots slot = some e := (slotFind_zero _ _ _ _ h).1

theorem slotGet_lt {α : Type} {l : List (Option α)} {i : Nat} {x : α} (h : slotGet l i = some x) : i < l.length := by
  by_contra hn
  simp [slotGet, List.getElem?_eq_none (Nat.not_lt.mp hn)] at h

theorem putEntry_keeps (s : State) (slot : Nat) (e : BoardEntry) (h : fitsSlot s slot e) :
    Keeps G H Q s (s.putEntry slot e) := by
  obtain ⟨x, hx, hk, hc⟩ := h
  refine setOfb_keeps s _ (slotPut_length _ _ _) (slotsDistinct_put_same hx hk) fun hl y hy => ?_
  obtain rfl | hy := mem_slotPut _ _ _ _ hy
  · exact hc (hl x (slotGet_mem _ _ _ hx))
  · exact hl y hy

theorem freeEntry_keeps (s : State) (slot : Nat) : Keeps G H Q s (s.freeEntry slot) :=
  setOfb_keeps s _ (slotFree_length _ _) (slotsDistinct_free slot) fun hl y hy => hl y (mem_slotFree _ _ _ hy)

theorem modEntry_keeps (s : State) (k : JobKey) (f : BoardEntry → BoardEntry) (hk : ∀ e, (f e).key = e.key)
    (hc : ∀ e, claimFits e → claimFits (f e)) : Keeps G H Q s (s.modEntry k f) := by
  unfold State.modEntry
  split
  · next slot e he => exact putEntry_keeps s slot _ (fitsSlot_of (entry_slot he) (hk e) (hc e))
  · exact .refl s

theorem loseEntry_keeps (s : State) (slot : Nat) (e : BoardEntry) (st : OfferState) (h : fitsSlot s slot e) :
    Keeps G H Q s (s.loseEntry slot e st) :=
  .after (raiseEvent_keeps _ _ _ _) (putEntry_keeps s slot _ h)

theorem dropClaim_keeps (s : State) (e : BoardEntry) : Keeps G H Q s (s.dropClaim e) := by
  unfold State.dropClaim
  split
  · exact removeOwn_keeps s _
  · exact .refl s

/-! ## Admission (R74 to R77) -/

theorem scoreAt_le (s : State) (o : OfferBody) (d : Nat) : s.scoreAt o d ≤ 1023 := Nat.min_le_left _ _

/-- A new entry has a key of its own and an empty claim list. -/
theorem putNewEntry_keeps (s : State) (slot : Nat) (e : BoardEntry) (hk : ∀ x ∈ slotEntries s.ofb.slots, x.key ≠ e.key)
    (hc : claimFits e) : Keeps G H Q s (s.putEntry slot e) := by
  refine setOfb_keeps s _ (slotPut_length _ _ _) (slotsDistinct_put_new hk) fun hl y hy => ?_
  obtain rfl | hy := mem_slotPut _ _ _ _ hy
  · exact hc
  · exact hl y hy

theorem claimsLaw_nil : claimsLaw [] := ⟨Nat.zero_le _, List.Pairwise.nil, List.Pairwise.nil, by simp⟩

theorem writeOffer_keeps (s : State) (slot : Nat) (o : OfferBody) (f : Frame) (t : Nat)
    (hk : ∀ x ∈ slotEntries s.ofb.slots, x.key ≠ ⟨f.origin, o.job⟩) : Keeps G H Q s (s.writeOffer slot o f t) := by
  unfold State.writeOffer
  dsimp only
  split
  · exact .after (putNewEntry_keeps _ slot _ hk ⟨claimsLaw_nil, Nat.zero_le _⟩) (nextDraw_keeps s)
  · exact .after (raiseEvent_keeps _ _ _ _) (.after (putNewEntry_keeps _ slot _ hk ⟨claimsLaw_nil, scoreAt_le _ _ _⟩)
      (.after (nextDraw_keeps _) (nextDraw_keeps s)))

theorem offerHeard_keeps (s : State) (o : OfferBody) (f : Frame) (t : Nat) : Keeps G H Q s (s.offerHeard o f t) := by
  unfold State.offerHeard
  split
  · exact .refl s
  · next hn =>
    split
    · exact writeOffer_keeps s _ o f t fun x hx => by simpa using (slotFind_none _ _ _).mp hn x hx
    · exact setOfb_keeps s _ rfl id id

/-! ## The claim, the close and the take turn (R90 to R98) -/

theorem claim_keeps (s : State) (slot : Nat) (e : BoardEntry) (h : fitsSlot s slot e) : Keeps G H Q s (s.claim slot e) :=
  .after (offer_keeps _ _) (putEntry_keeps s slot _ h)

theorem latestPoint_keeps (s : State) (slot : Nat) (e : BoardEntry) (h : fitsSlot s slot e) :
    Keeps G H Q s (s.latestPoint slot e) := by
  unfold State.latestPoint
  dsimp only
  split
  · split
    · exact putEntry_keeps s slot _ h
    · exact .after (removeOwn_keeps _ _) (loseEntry_keeps s slot _ _ h)
  · split
    · exact loseEntry_keeps s slot _ _ h
    · exact loseEntry_keeps s slot _ _ h
  · exact putEntry_keeps s slot _ h

theorem claimFits_place {e : BoardEntry} (c : Claim) (hc : c.score ≤ 1023) (h : claimFits e) :
    claimFits { e with claims := placeClaim c e.claims } := ⟨placeClaim_keeps_claimsLaw h.1 hc, h.2⟩

theorem claimSent_keeps (s : State) (k : JobKey) : Keeps G H Q s (s.claimSent k) := by
  refine modEntry_keeps s k _ (fun e => by split <;> rfl) fun e h => ?_
  split
  · exact claimFits_place (s.ownClaim e) h.2 h
  · exact h

theorem claimHeard_keeps (s : State) (k : JobKey) (c : Claim) (hc : c.score ≤ 1023) : Keeps G H Q s (s.claimHeard k c) := by
  unfold State.claimHeard
  split
  · exact .refl s
  · next slot e he =>
    have hfits : fitsSlot s slot { e with claims := placeClaim c e.claims } :=
      fitsSlot_of (entry_slot he) rfl (claimFits_place c hc)
    split
    · exact .refl s
    · dsimp only
      split
      · exact .after (dropClaim_keeps _ _) (loseEntry_keeps s slot _ _ hfits)
      · exact putEntry_keeps s slot _ hfits

theorem takeTurn_keeps (s : State) (slot : Nat) (e : BoardEntry) (h : fitsSlot s slot e) :
    Keeps G H Q s (s.takeTurn slot e) := by
  unfold State.takeTurn
  split
  · exact .after (raiseEvent_keeps _ _ _ _) (.after (fareTaking_keeps _)
      (.after (offer_keeps _ _) (putEntry_keeps s slot _ h)))
  · exact loseEntry_keeps s slot _ _ h

/-- An entry written into a slot of the table fits that slot. -/
theorem fitsSlot_putEntry {s : State} {slot : Nat} {e : BoardEntry} (h : fitsSlot s slot e) :
    fitsSlot (s.putEntry slot e) slot e := by
  obtain ⟨x, hx, -⟩ := h
  exact fitsSlot_of (slotGet_slotPut_self _ _ _ (slotGet_lt hx)) rfl id

theorem closeEntry_keeps (s : State) (slot : Nat) (e : BoardEntry) (h : fitsSlot s slot e) :
    Keeps G H Q s (s.closeEntry slot e) := by
  unfold State.closeEntry
  dsimp only
  split
  · have hranked : fitsSlot s slot { e with closeTaken := true, rank := ownRank s.ownId e.claims } := h
    split
    · exact .after (takeTurn_keeps _ slot _ (fitsSlot_putEntry hranked)) (putEntry_keeps s slot _ hranked)
    · exact putEntry_keeps s slot _ h
    · exact putEntry_keeps s slot _ h
    · exact loseEntry_keeps s slot _ _ h
  · exact putEntry_keeps s slot _ h

theorem endRetention_keeps (s : State) (slot : Nat) (e : BoardEntry) (h : fitsSlot s slot e) :
    Keeps G H Q s (s.endRetention slot e) := by
  unfold State.endRetention
  split
  · exact putEntry_keeps s slot _ h
  · exact freeEntry_keeps s slot

theorem dropSent_keeps (s : State) (k : JobKey) : Keeps G H Q s (s.dropSent k) := by
  unfold State.dropSent
  split
  · split
    · exact freeEntry_keeps s _
    · exact .refl s
  · exact .refl s

theorem takeSent_keeps (s : State) (k : JobKey) : Keeps G H Q s (s.takeSent k) :=
  modEntry_keeps s k _ (fun e => by split <;> rfl) fun e h => by split <;> exact h

/-! ## TAKE, CANCEL and DROP heard, and the job given up (R84, R99 to R104) -/

theorem settleTake_keeps (s : State) (slot : Nat) (e : BoardEntry) (x : Claim) (h : fitsSlot s slot e) :
    Keeps G H Q s (s.settleTake slot e x) := by
  unfold State.settleTake
  split
  · dsimp only
    refine .after (raiseEvent_keeps _ _ _ _) (.after (fareReleased_keeps _) ?_)
    split
    · exact .after (offer_keeps _ _) (.after (removeOwn_keeps _ _) (putEntry_keeps s slot _ h))
    · exact .after (removeOwn_keeps _ _) (putEntry_keeps s slot _ h)
  · split
    · exact .after (offer_keeps _ _) (putEntry_keeps s slot _ h)
    · exact .refl s

theorem takeHeard_keeps (s : State) (k : JobKey) (x : Claim) : Keeps G H Q s (s.takeHeard k x) := by
  unfold State.takeHeard
  split
  · exact .refl s
  · next slot e he =>
    have h : fitsSlot s slot e := fitsSlot_of (entry_slot he) rfl id
    dsimp only
    split
    · exact settleTake_keeps s slot e x h
    · exact settleTake_keeps s slot e x h
    · exact loseEntry_keeps s slot _ _ h
    · exact .after (dropClaim_keeps _ _) (loseEntry_keeps s slot _ _ h)
    · exact loseEntry_keeps s slot _ _ h
    · exact loseEntry_keeps s slot _ _ h
    · exact putEntry_keeps s slot _ h
    · exact raiseEvent_keeps s _ _ _
    · exact putEntry_keeps s slot _ h

theorem withdrawNote_key (k : JobKey) (r : InNote) : ((r.withdraw k).origin, (r.withdraw k).id) = (r.origin, r.id) := by
  unfold InNote.withdraw
  split <;> rfl

theorem noteWithdrawn_keeps (s : State) (k : JobKey) : Keeps G H Q s (s.noteWithdrawn k) :=
  setNts_keeps s _ (List.length_map _) rfl rfl (slotsDistinct_map _ (withdrawNote_key k))

theorem withdraw_keeps (s : State) (slot : Nat) (e : BoardEntry) (r : Reason) (h : fitsSlot s slot e) :
    Keeps G H Q s (s.withdraw slot e r) := by
  unfold State.withdraw
  dsimp only
  refine .after (noteWithdrawn_keeps _ _) ?_
  split
  · exact .after (raiseEvent_keeps _ _ _ _) (.after (fareReleased_keeps _) (.after (removeOwn_keeps _ _)
      (.after (dropClaim_keeps _ _) (putEntry_keeps s slot _ h))))
  · exact .after (dropClaim_keeps _ _) (putEntry_keeps s slot _ h)

theorem cancelHeard_keeps (s : State) (k : JobKey) (r : Reason) : Keeps G H Q s (s.cancelHeard k r) := by
  unfold State.cancelHeard
  split
  · exact .refl s
  · next slot e he =>
    split
    · exact withdraw_keeps s slot e r (fitsSlot_of (entry_slot he) rfl id)
    · split
      · exact .after (lateCancel_keeps _ _) (raiseEvent_keeps s _ _ _)
      · exact .refl s

theorem dropHeard_keeps (s : State) (k : JobKey) : Keeps G H Q s (s.dropHeard k) :=
  modEntry_keeps s k _ (fun _ => rfl) fun _ h => h

theorem dropJob_keeps (s : State) (slot : Nat) (e : BoardEntry) (r : Reason) (h : fitsSlot s slot e) :
    Keeps G H Q s (s.dropJob slot e r) := by
  unfold State.dropJob
  dsimp only
  refine .after (fareReleased_keeps _) ?_
  split
  · exact .after (offer_keeps _ _) (.after (removeOwn_keeps _ _) (putEntry_keeps s slot _ h))
  · exact .after (removeOwn_keeps _ _) (putEntry_keeps s slot _ h)

theorem alarmBoard_keeps (s : State) : Keeps G H Q s s.alarmBoard := by
  unfold State.alarmBoard
  dsimp only
  split
  · next slot e he =>
    exact .after (dropJob_keeps _ slot e _ (fitsSlot_of (jobEntry_slot he) rfl id)) (convertBoard_keeps s _)
  · exact convertBoard_keeps s _

theorem hireBoard_keeps (s : State) : Keeps G H Q s s.hireBoard.1 := by
  unfold State.hireBoard
  split
  · next slot e he => exact putEntry_keeps s slot _ (fitsSlot_of (jobEntry_slot he) rfl id)
  · exact .refl s

theorem enterAlerting_keeps (s : State) : Keeps G H Q s s.enterAlerting := by
  unfold State.enterAlerting
  dsimp only
  have hserial : Keeps G H Q s (s.setRet { s.ret with serial := next8 s.ret.serial, alarm := .alerting, covert := false }) :=
    setRet_keeps_rest s _ rfl rfl (fun ⟨h1, h2, h3, h4, _⟩ => ⟨h1, h2, h3, h4, next8_le _⟩) ⟨rfl, rfl, rfl⟩ rfl rfl
  have hboard := Keeps.after (flashUpdate_keeps _) (.after (alarmBoard_keeps _) (.after (alarmNotice_keeps _) hserial))
  split
  · exact .after (offerRepeat_keeps _) (.after (setEmu_keeps_own _ _ ⟨rfl, rfl⟩ rfl) hboard)
  · exact .after (setEmu_keeps_own _ _ ⟨rfl, rfl⟩ rfl) hboard

/-! ## Notes (R146 to R160) -/

theorem inNote_slot {s : State} {o i slot : Nat} {r : InNote} (h : s.inNote o i = some (slot, r)) :
    slotGet s.nts.inbox slot = some r := (slotFind_zero _ _ _ _ h).1

/-- An inbox record changes, its key as it is. -/
theorem putIn_keeps (s : State) (slot : Nat) (old new : InNote) (h : slotGet s.nts.inbox slot = some old)
    (hk : (new.origin, new.id) = (old.origin, old.id)) : Keeps G H Q s (s.putIn slot new) :=
  setNts_keeps s _ (slotPut_length _ _ _) rfl rfl (slotsDistinct_put_same h hk)

theorem putOut_keeps (s : State) (slot : Nat) (r : OutNote) : Keeps G H Q s (s.putOut slot r) :=
  setNts_keeps s _ rfl (slotPut_length _ _ _) rfl id

theorem modOut_keeps (s : State) (slot : Nat) (f : OutNote → OutNote) : Keeps G H Q s (s.modOut slot f) := by
  unfold State.modOut
  split
  · exact putOut_keeps s slot _
  · exact .refl s

theorem storeNote_keeps (s : State) (n : NoteBody) (origin t : Nat) (hn : s.inNote origin n.id = none) :
    Keeps G H Q s (s.storeNote n origin t) := by
  unfold State.storeNote
  dsimp only
  split
  · split
    · exact offer_keeps s _
    · exact .refl s
  · next i _ =>
    have hput : Keeps G H Q s (s.nextDraw.putIn i (n.toRecord origin s.ownId t)) := by
      refine .after (setNts_keeps _ _ (slotPut_length _ _ _) rfl rfl (slotsDistinct_put_new fun x hx hk => ?_))
        (nextDraw_keeps s)
      have := (slotFind_none _ _ _).mp hn x hx
      simp only [Prod.mk.injEq] at hk
      obtain ⟨h1, h2⟩ := hk
      simp [h1, h2, NoteBody.toRecord] at this
    refine .after (raiseEvent_keeps _ _ _ _) ?_
    split
    · exact .after (offer_keeps _ _) hput
    · exact hput

theorem noteHeard_keeps (s : State) (n : NoteBody) (origin t : Nat) : Keeps G H Q s (s.noteHeard n origin t) := by
  unfold State.noteHeard
  split
  · split
    · split
      · exact offer_keeps s _
      · exact .refl s
    · next hn => exact storeNote_keeps s n origin t hn
  · exact .refl s

theorem retryNote_keeps (s : State) (slot : Nat) (r : OutNote) : Keeps G H Q s (s.retryNote slot r) := by
  unfold State.retryNote
  split
  · exact .after (offer_keeps _ _) (putOut_keeps s slot _)
  · exact .after (raiseEvent_keeps _ _ _ _) (putOut_keeps s slot _)

theorem receiptHeard_keeps (s : State) (origin dest id : Nat) (kind : ReceiptKind) :
    Keeps G H Q s (s.receiptHeard origin dest id kind) := by
  unfold State.receiptHeard
  split
  · split
    · exact .refl s
    · split
      · exact .refl s
      · dsimp only
        refine .after (raiseEvent_keeps _ _ _ _) ?_
        split
        · exact .after (removeOwn_keeps _ _) (putOut_keeps s _ _)
        · exact putOut_keeps s _ _
  · exact .refl s

/-! ## Other stations' alarms (R174 to R177) -/

theorem putAlarm_keeps (s : State) (i : Nat) (old new : AlarmEntry) (h : slotGet s.emu.table i = some old)
    (hk : new.origin = old.origin) : Keeps G H Q s (s.putAlarm i new) :=
  setEmu_keeps s _ ⟨rfl, rfl⟩ (slotPut_length _ _ _) (slotsDistinct_put_same h hk)

theorem freeAlarm_keeps (s : State) (i : Nat) : Keeps G H Q s (s.freeAlarm i) :=
  setEmu_keeps s _ ⟨rfl, rfl⟩ (slotFree_length _ _) (slotsDistinct_free i)

theorem alarmOf_slot {s : State} {o i : Nat} {a : AlarmEntry} (h : s.alarmOf o = some (i, a)) :
    slotGet s.emu.table i = some a ∧ a.origin = o := by
  obtain ⟨h1, h2⟩ := slotFind_zero _ _ _ _ h
  exact ⟨h1, by simpa using h2⟩

theorem alarmHeard_keeps (s : State) (f : Frame) (t serial count : Nat) (fix duress : Bool) (pos : Point) :
    Keeps G H Q s (s.alarmHeard f t serial count fix duress pos) := by
  unfold State.alarmHeard
  split
  · next hn =>
    split
    · refine .after (raiseEvent_keeps _ _ _ _) (.after (setEmu_keeps _ _ ⟨rfl, rfl⟩ (slotPut_length _ _ _)
        (slotsDistinct_put_new fun x hx => ?_)) (nextDraw_keeps s))
      simpa [newAlarm] using (slotFind_none _ _ _).mp hn x hx
    · exact .refl s
  · next i a ha =>
    obtain ⟨hi, ho⟩ := alarmOf_slot ha
    split
    · exact .after (raiseEvent_keeps _ _ _ _) (putAlarm_keeps s i a _ hi ho.symm)
    · split
      · exact .refl s
      · dsimp only
        split
        · exact .after (raiseEvent_keeps _ _ _ _) (putAlarm_keeps s i a _ hi rfl)
        · exact putAlarm_keeps s i a _ hi rfl

theorem alarmEndHeard_keeps (s : State) (f : Frame) (t serial : Nat) (pos : Point) :
    Keeps G H Q s (s.alarmEndHeard f t serial pos) := by
  unfold State.alarmEndHeard
  split
  · exact .refl s
  · next i a ha =>
    split
    · exact .after (raiseEvent_keeps _ _ _ _) (putAlarm_keeps s i a _ (alarmOf_slot ha).1 rfl)
    · exact .refl s

theorem ageAlarm_keeps (s : State) (i : Nat) (a : AlarmEntry) (h : slotGet s.emu.table i = some a) :
    Keeps G H Q s (s.ageAlarm i a) := by
  unfold State.ageAlarm
  split
  · exact putAlarm_keeps s i a _ h rfl
  · exact freeAlarm_keeps s i

end
end Sys2Proof
end

section
/-! PROOFS. What reception, relay and the end of a transmission keep (chapter 3, R27). -/

namespace Sys2Proof
open Sys2Proof.Machine

section
variable {G H : Frame → Prop} {Q : Prop}

/-! ## Peers (R59 to R64) -/

/-- The part is in RUN and the station is another one than its own, as far as the laws of CONFIG are held. -/
def heardFrom (Q : Prop) (s : State) (id : Nat) : Prop := Q → s.cpt.part = .run ∧ id ≠ s.ownId

theorem Keeps.heardFrom {s t : State} {id : Nat} (k : Keeps G H Q s t) (h : heardFrom Q s id) : heardFrom Q t id := fun q => by
  obtain ⟨hrun, hid⟩ := h q
  obtain ⟨ht, hc⟩ := k.run hrun
  exact ⟨ht, by simpa [State.ownId, hc] using hid⟩

theorem peer_slot {s : State} {id i : Nat} {p : Peer} (h : s.peer id = some (i, p)) :
    slotGet s.ppu.peers i = some p ∧ p.id = id := by
  obtain ⟨h1, h2⟩ := slotFind_zero _ _ _ _ h
  exact ⟨h1, by simpa using h2⟩

theorem putPeer_keeps (s : State) (i : Nat) (p : Peer) (hid : heardFrom Q s p.id)
    (hk : slotsDistinct (·.id) s.ppu.peers → slotsDistinct (·.id) (slotPut s.ppu.peers i p)) :
    Keeps G H Q s (s.putPeer i p) := by
  refine setPpu_keeps s _ rfl (slotPut_length _ _ _) fun q ⟨_, hd, ho⟩ => ?_
  obtain ⟨hrun, hne⟩ := hid q
  refine ⟨fun hc => ?_, hk hd, fun x hx => ?_⟩
  · rw [State.setPpu_cpt, hrun] at hc
    cases hc
  · obtain rfl | hx := mem_slotPut _ _ _ _ hx
    · exact hne
    · exact ho x hx

theorem putPeer_keeps_same (s : State) (i : Nat) (old new : Peer) (hs : slotGet s.ppu.peers i = some old)
    (hn : new.id = old.id) (hid : heardFrom Q s old.id) : Keeps G H Q s (s.putPeer i new) :=
  putPeer_keeps s i new (hn ▸ hid) (slotsDistinct_put_same hs hn)

theorem updatePeer_keeps (s : State) (id : Nat) (new : Peer) (f : Peer → Peer) (hn : new.id = id)
    (hf : ∀ p, (f p).id = p.id) (hid : heardFrom Q s id) : Keeps G H Q s (s.updatePeer id new f) := by
  unfold State.updatePeer
  split
  · next i p hp =>
    obtain ⟨hi, rfl⟩ := peer_slot hp
    exact putPeer_keeps_same s i p _ hi (hf p) hid
  · next hp =>
    have hnew : (f new).id = id := (hf new).trans hn
    split
    · refine .after (putPeer_keeps _ _ _ ?_ ?_) (nextDraw_keeps s)
      · rw [hnew]
        exact hid
      · refine slotsDistinct_put_new fun x hx => ?_
        rw [hnew]
        simpa using (slotFind_none _ _ _).mp hp x hx
    · exact .refl s

theorem withReports_id (b : Body) (p : Peer) : (p.withReports b).id = p.id := by cases b <;> rfl

theorem peerNotice_keeps (s : State) (f : Frame) (t : Nat) (hs : heardFrom Q s f.sender) (ho : heardFrom Q s f.origin) :
    Keeps G H Q s (s.peerNotice f t) := by
  have hsender : Keeps G H Q s (s.updatePeer f.sender (.fresh f.sender 0) (·.asSender t)) :=
    updatePeer_keeps s _ _ _ rfl (fun _ => rfl) hs
  have hboth : Keeps G H Q s (if f.origin == f.sender then s.updatePeer f.sender (.fresh f.sender 0) (·.asSender t)
      else (s.updatePeer f.sender (.fresh f.sender 0) (·.asSender t)).updatePeer f.origin (.fresh f.origin 1)
        (·.asOrigin t)) := by
    split
    · exact hsender
    · exact .after (updatePeer_keeps _ _ _ _ rfl (fun _ => rfl) (hsender.heardFrom ho)) hsender
  unfold State.peerNotice
  dsimp only
  split
  · next i p hp =>
    obtain ⟨hi, hpo⟩ := peer_slot hp
    exact .after (putPeer_keeps_same _ i p _ hi (withReports_id _ _) (hpo ▸ hboth.heardFrom ho)) hboth
  · exact hboth

theorem freePeer_keeps (s : State) (slot : Nat) : Keeps G H Q s (s.freePeer slot) := by
  have hsub := slotEntries_free_sublist s.ppu.peers slot
  refine setPpu_keeps s _ rfl (slotFree_length _ _) fun _ ⟨he, hd, ho⟩ => ⟨fun hc => ?_, slotsDistinct_free slot hd, ?_⟩
  · obtain ⟨h1, h2, h3, h4⟩ := he hc
    exact ⟨h1, h2, h3, List.sublist_nil.mp (h4 ▸ hsub)⟩
  · exact fun p hp => ho p (hsub.subset hp)

theorem firstBeacon_keeps (s : State) : Keeps G H Q s s.firstBeacon :=
  .after (setPpu_keeps_peers _ _ rfl rfl) (nextDraw_keeps s)

/-! ## The cache and the holds (R38 to R44) -/

theorem endMark_keeps (s : State) (k : FrameKey) : Keeps G H Q s (s.endMark k) :=
  setRru_keeps_rest s _ rfl rfl fun h => (List.length_filter_le _ _).trans ((List.length_map _).trans_le h)

theorem modCache_keeps (s : State) (k : FrameKey) (f : CacheEntry → CacheEntry) : Keeps G H Q s (s.modCache k f) :=
  setRru_keeps_rest s _ rfl rfl fun h => (List.length_map _).trans_le h

theorem evictCache_length (s : State) (h : s.rru.cache.length ≤ 16) : s.evictCache.length ≤ 15 := by
  unfold State.evictCache
  split
  · omega
  · split
    · next c hc =>
      have hmem := List.mem_of_mem_filter (pickLeast_mem hc)
      rw [List.length_erase_of_mem hmem]
      omega
    · rw [List.length_tail]
      omega

theorem cacheNew_keeps (s : State) (k : FrameKey) (t : Nat) : Keeps G H Q s (s.cacheNew k t) :=
  .after (setRru_keeps_rest _ _ rfl rfl fun h => by
    have := evictCache_length s h
    simp only [List.length_append, List.length_singleton]
    omega) (nextDraw_keeps s)

theorem freeHold_keeps (s : State) (i : Nat) : Keeps G H Q s (s.setRru { s.rru with holds := slotFree s.rru.holds i }) := by
  have hsub := slotEntries_free_sublist s.rru.holds i
  exact setRru_keeps s _ (slotFree_length _ _) id (fun h x hx => h x (hsub.subset hx)) id
    fun _ _ ⟨h1, h2⟩ => ⟨List.sublist_nil.mp (h1 ▸ hsub), h2⟩

theorem holdFrame_keeps (s : State) (f : Frame) (t : Nat) (hf : H f) (hrun : Q → s.cpt.part = .run) :
    Keeps G H Q s (s.holdFrame f t) := by
  unfold State.holdFrame
  split
  · exact setStats_keeps s _
  · refine .after (modCache_keeps _ _ _) (.after (setRru_keeps _ _ (slotPut_length _ _ _) id ?_ id ?_) (nextDraw_keeps s))
    · intro h x hx
      obtain rfl | hx := mem_slotPut _ _ _ _ hx
      · exact hf
      · exact h x hx
    · intro q hc
      cases (hrun q).symm.trans hc

theorem not_config_of_run {s : State} (h : s.cpt.part = .run) : ¬ s.cpt.part = .config := by
  rw [h]
  exact PartState.noConfusion

theorem releaseHold_keeps (s : State) (i : Nat) (h : Hold) (hf : G (h.frame.relayCopy s.ownId))
    (hrun : Q → s.cpt.part = .config → False) : Keeps G H Q s (s.releaseHold i h) :=
  .after (offerRelay_kept (s.setRru { s.rru with holds := slotFree s.rru.holds i }) _ _ hf hrun).toKeeps (freeHold_keeps s i)

theorem cancelRelay_keeps (s : State) (k : FrameKey) (m : RelayMark) : Keeps G H Q s (s.cancelRelay k m) := by
  unfold State.cancelRelay
  cases m with
  | hold i => exact .after (endMark_keeps _ _) (.after (freeHold_keeps _ i) (setStats_keeps s _))
  | queued => exact .after (removeRelay_kept _ _).toKeeps (.after (endMark_keeps _ _) (setStats_keeps s _))
  | none => exact setStats_keeps s _

theorem copyHeard_keeps (s : State) (c : CacheEntry) : Keeps G H Q s (s.copyHeard c) := by
  have h := Keeps.after (modCache_keeps (G := G) (H := H) (Q := Q) _ c.key fun x => { x with copies := min 15 (c.copies + 1) })
    (setStats_keeps s { s.rru.stats with copies := inc16 s.rru.stats.copies })
  unfold State.copyHeard
  dsimp only
  split
  · exact .after (cancelRelay_keeps _ _ _) h
  · exact h

/-! ## Delivery and the filters (R33 to R37) -/

/-- The score of a CLAIM is in range (R9). -/
def claimOk (b : Body) : Prop := ∀ k n c, b = .claim k n c → n ≤ 1023

theorem deliver_keeps (s : State) (f : Frame) (t : Nat) (hc : claimOk f.body) : Keeps G H Q s (s.deliver f t) := by
  unfold State.deliver
  split
  · exact .refl s
  · exact offerHeard_keeps s _ f t
  · next k n c hb => exact claimHeard_keeps s k _ (hc k n c hb)
  · exact takeHeard_keeps s _ _
  · exact dropHeard_keeps s _
  · exact cancelHeard_keeps s _ _
  · exact noteHeard_keeps s _ _ t
  · exact receiptHeard_keeps s _ _ _ _
  · exact alarmHeard_keeps s f t _ _ _ _ _
  · exact alarmEndHeard_keeps s f t _ _
  · exact .refl s

theorem newFrame_keeps (s : State) (f : Frame) (t : Nat) (hc : claimOk f.body) (hf : 1 ≤ f.hops → H f)
    (hrun : Q → s.cpt.part = .run) : Keeps G H Q s (s.newFrame f t) := by
  have h : Keeps G H Q s ((s.cacheNew f.key t).deliver f t) := .after (deliver_keeps _ f t hc) (cacheNew_keeps s _ t)
  unfold State.newFrame
  dsimp only
  split
  · next hr =>
    simp only [State.shouldRelay, Bool.and_eq_true, decide_eq_true_eq] at hr
    exact .after (holdFrame_keeps _ f t (hf hr.1.2) fun q => (h.run (hrun q)).1) h
  · exact h

/-- What the laws of the channel ask of a frame that passed the filters: another origin and sender than the own station, and fields
in range (R33). -/
structure passed (H : Frame → Prop) (Q : Prop) (s : State) (f : Frame) : Prop where
  origin : heardFrom Q s f.origin
  sender : heardFrom Q s f.sender
  claim : claimOk f.body
  relay : 1 ≤ f.hops → H f

theorem acceptFrame_keeps (s : State) (f : Frame) (t : Nat) (h : passed H Q s f) : Keeps G H Q s (s.acceptFrame f t) := by
  have hp : Keeps G H Q s ((s.setStats { s.rru.stats with good := inc16 s.rru.stats.good }).peerNotice f t) :=
    .after (peerNotice_keeps _ f t h.sender h.origin) (setStats_keeps s _)
  unfold State.acceptFrame
  dsimp only
  split
  · split
    · exact .after (newFrame_keeps _ f t h.claim h.relay fun q => (hp.heardFrom h.origin q).1) hp
    · exact .after (copyHeard_keeps _ _) hp
  · exact .after (deliver_keeps _ f t h.claim) hp

theorem idClash_keeps (s : State) (origin : Nat) : Keeps G H Q s (s.idClash origin) := by
  unfold State.idClash
  dsimp only
  split
  · exact setStats_keeps s _
  · exact .after (raiseEvent_keeps _ _ _ _) (.after (setRru_keeps_rest _ _ rfl rfl id) (setStats_keeps s _))

theorem readBody_claimOk (k : Kind) (b : List Byte) : claimOk (readBody k b) := by
  intro key n c h
  cases k <;> simp only [readBody, Body.claim.injEq, reduceCtorEq] at h
  obtain ⟨_, rfl, _⟩ := h
  exact Nat.min_le_right _ _



theorem readFrame_fields {b : List Byte} {f : Frame} (h : readFrame b = some f) : f.hops ≤ 3 ∧ claimOk f.body := by
  simp only [readFrame, Option.bind_eq_bind, Option.bind_eq_some_iff, Option.ite_none_right_eq_some, Option.some.injEq] at h
  obtain ⟨k, _, _, rfl⟩ := h
  have := at8_lt b 2
  exact ⟨by show at8 b 2 / 64 ≤ 3; omega, readBody_claimOk _ _⟩

/-- A frame of another origin with hops in its field may be held for relay. -/
def holdable (H : Frame → Prop) (s : State) : Prop := ∀ f : Frame, f.origin ≠ s.ownId → 1 ≤ f.hops → f.hops ≤ 3 → H f

theorem judgeFrame_keeps (s : State) (bytes : List Byte) (overrun : Bool) (t : Nat) (hrun : Q → s.cpt.part = .run)
    (hH : holdable H s) : Keeps G H Q s (s.judgeFrame bytes overrun t) := by
  unfold State.judgeFrame
  split
  · exact setStats_keeps s _
  split
  · exact setStats_keeps s _
  split
  · exact .refl s
  split
  · exact setStats_keeps s _
  next f hf =>
  obtain ⟨hh, hc⟩ := readFrame_fields hf
  unfold State.filterOwn
  split
  · exact idClash_keeps s _
  next hsender =>
  split
  · exact .refl s
  next horigin =>
  have ho : f.origin ≠ s.ownId := by simpa using horigin
  exact acceptFrame_keeps s f t
    ⟨fun q => ⟨hrun q, ho⟩, fun q => ⟨hrun q, by simpa using hsender⟩, hc, fun h1 => hH f ho h1 hh⟩

/-! ## Hunting and the carrier (R22, R28, R31, R32) -/

theorem setRx_keeps (s : State) (x : RxState) (hw : s.rru.windowLaw → ∀ w, x = .hunting w → w.length ≤ 16)
    (hq : Q → s.cpt.part = .config → s.rru.rx = .idle → x = .idle) : Keeps G H Q s (s.setRru { s.rru with rx := x }) :=
  setRru_keeps s _ rfl id id (fun h w hx => hw h w hx) fun q hc ⟨h1, h2⟩ => ⟨h1, hq q hc h2⟩

theorem resumeHunt_keeps (s : State) : Keeps G H Q s s.resumeHunt := by
  refine setRx_keeps s _ (fun _ w hw => ?_) fun _ hc _ => ?_
  · split at hw
    · cases hw
      exact Nat.zero_le _
    · cases hw
  · simp [State.inRun, hc]

theorem clockBit_length_le (w : List Bool) (b : Bool) : (clockBit w b).length ≤ 16 := by
  simp only [clockBit, List.length_drop, List.length_append, List.length_singleton]
  omega

theorem clock_length {b : Bool} {x : RxState} {w : List Bool} (h : x.clock b = .hunting w) : w.length ≤ 16 := by
  cases x with
  | hunting v =>
    cases h
    exact clockBit_length_le v b
  | idle => cases h
  | taking => cases h

theorem clockRxd_keeps (s : State) : Keeps G H Q s s.clockRxd := by
  unfold State.clockRxd
  split
  · next w hw =>
    split
    · refine .after (setRx_keeps _ _ (fun _ v hv => clock_length hv) fun _ _ hi => ?_) (nextDraw_keeps s)
      cases hw.symm.trans hi
    · exact .refl s
  · exact .refl s

theorem sync_length {x : RxState} {w : List Bool} (h : x.sync = .hunting w) : w.length ≤ 16 := by
  unfold RxState.sync at h
  dsimp only at h
  split at h
  · cases h
  · split at h
    · cases h
    · rw [syncBits, show List.range 16 = List.range 15 ++ [15] from rfl, List.map_append, List.foldl_append] at h
      exact clock_length h

theorem syncMatch_keeps (s : State) : Keeps G H Q s s.syncMatch := by
  unfold State.syncMatch
  split
  · next w hw =>
    refine setRru_keeps s _ rfl id id (fun _ v hv => sync_length hv) fun _ _ hi => ?_
    cases hw.symm.trans hi.2
  · exact .refl s

theorem cauRest_keeps (s : State) (c : Cau) (hq : c.queue = s.cau.queue) (ha : c.onAir = s.cau.onAir) (hw : c.w = s.cau.w) :
    Keeps G H Q s (s.setCau c) :=
  (setCau_kept_rest s c hq ha (by simp only [Cau.windowLaw, hw]; exact id)).toKeeps

theorem fallFrame_keeps (s : State) (taken : List Byte) (further : Nat)
    (hrun : s.rru.rx = .taking → Q → s.cpt.part = .run) (hH : s.rru.rx = .taking → holdable H s) :
    Keeps G H Q s (s.fallFrame taken further) := by
  unfold State.fallFrame
  split
  · exact .refl s
  next hx =>
  split
  · exact setStats_keeps s _
  split
  · have hx : s.rru.rx = .taking := by simpa using hx
    exact judgeFrame_keeps s _ _ _ (hrun hx) (hH hx)
  · exact (truncate_kept s).toKeeps

theorem enterBlocked_keeps (s : State) : Keeps G H Q s s.enterBlocked :=
  .after (kick_kept _).toKeeps (.after (raiseEvent_keeps _ _ _ _) (cauRest_keeps s _ rfl rfl rfl))

theorem leaveBlocked_keeps (s : State) : Keeps G H Q s s.leaveBlocked :=
  .after (raiseEvent_keeps _ _ _ _) (cauRest_keeps s _ rfl rfl rfl)

theorem expireKey_keeps (s : State) (k : FrameKey) : Keeps G H Q s (s.expireKey k) :=
  setRru_keeps_rest s _ rfl rfl fun h => (List.length_filter_le _ _).trans h

/-! ## The end of an own transmission (R27) -/

theorem sentNotice_keeps (s : State) (e : QEntry) : Keeps G H Q s (s.sentNotice e) := by
  unfold State.sentNotice
  split
  · exact .after (endMark_keeps _ _) (setStats_keeps s _)
  · split
    · exact claimSent_keeps s _
    · exact takeSent_keeps s _
    · exact dropSent_keeps s _
    · exact modOut_keeps s _ _
    · exact tallySent_keeps s
    · exact alarmSent_keeps s
    · exact alarmEndSent_keeps s
    · exact .refl s
    · exact .refl s

theorem sentFollowUp_keeps (s : State) (e : QEntry) : Keeps G H Q s (s.sentFollowUp e) := by
  unfold State.sentFollowUp
  split
  · split
    · exact offer_keeps s _
    · exact .refl s
  · exact .refl s

theorem offerDeferred_keeps (s : State) (g : Group) : Keeps G H Q s (s.offerDeferred g) := (offerDeferred_kept s g).toKeeps

theorem endTx_keeps (s : State) (a : OnAir) : Keeps G H Q s (s.endTx a) := by
  have hfree : Keeps G H Q s (s.setCau { s.cau with onAir := none }) :=
    (setCau_kept_sublist s { s.cau with onAir := none } (.refl _) (.inr rfl) rfl).toKeeps
  have hw (s : State) (r : Option Nat) : Keeps G H Q s (s.setCau { s.cau with w := 4, idleRef := r }) :=
    (setCau_kept_rest s { s.cau with w := 4, idleRef := r } rfl rfl fun _ => by simp [Cau.windowLaw]).toKeeps
  unfold State.endTx
  refine .after (sentFollowUp_keeps _ _) (.after (decide_kept _ _).toKeeps (.after
    (spaceThen_kept _ .refl _).toKeeps (.after (hw _ _) ?_)))
  exact .after (offerDeferred_keeps _ _) (.after (offerDeferred_keeps _ _) (.after (offerDeferred_keeps _ _)
    (.after (sentNotice_keeps _ _) (.after (resumeHunt_keeps _) hfree))))

/-! ## Timers of the fare engine, the totals and the own alarm -/

theorem shiftSecond_keeps (s : State) : Keeps G H Q s s.shiftSecond :=
  .after (setRet_keeps_rest _ _ rfl rfl id ⟨rfl, rfl, rfl⟩ rfl rfl) (setTtl_keeps s _)

theorem alarmRepeat_keeps (s : State) : Keeps G H Q s s.alarmRepeat :=
  .after (offerRepeat_keeps _) (setEmu_keeps_own s _ ⟨rfl, rfl⟩ rfl)

theorem alarmGap_keeps (s : State) : Keeps G H Q s s.alarmGap :=
  .after (offer_keeps _ _) (setEmu_keeps_own s _ ⟨rfl, rfl⟩ rfl)

theorem flashToggle_keeps (s : State) : Keeps G H Q s s.flashToggle := setEmu_keeps_own s _ ⟨rfl, rfl⟩ rfl

end
end Sys2Proof
end

section
/-! PROOFS. What a command's act can answer: OK with a new state, or a refusal that changes nothing (R183, R184). -/

namespace Sys2Proof
open Sys2Proof.Machine

/-- The act answers OK with a state that has the property, or refuses and leaves the state alone (R184). -/
inductive Answers (P : State → Prop) (s : State) : State × List Byte → Prop
  | done (t : State) (l : List Byte) (h : P t) : Answers P s (Machine.done t l)
  | refuse (c : Completion) (h : c ≠ .ok) : Answers P s (Machine.refuse c s)

theorem Answers.state {P : State → Prop} {s : State} {r : State × List Byte} (h : Answers P s r) (hs : P s) : P r.1 := by
  cases h with
  | done t l h => exact h
  | refuse c h => exact hs

theorem Answers.result {P : State → Prop} {s : State} {r : State × List Byte} (h : Answers P s r) : r.2 ≠ [] := by
  cases h with
  | done t l h => exact List.cons_ne_nil _ _
  | refuse c h => exact List.cons_ne_nil _ _

section
variable {P : State → Prop} {s : State}

theorem Answers.range : Answers P s (Machine.refuse .range s) := .refuse _ Completion.noConfusion
theorem Answers.barred : Answers P s (Machine.refuse .state s) := .refuse _ Completion.noConfusion
theorem Answers.notFound : Answers P s (Machine.refuse .notFound s) := .refuse _ Completion.noConfusion
theorem Answers.protected : Answers P s (Machine.refuse .protected_ s) := .refuse _ Completion.noConfusion

/-! ## Commands of the configuration and of any state -/

theorem actConfigure_answers (c : Station) (bid dflt sign : Byte)
    (h : P (s.setCpt { s.cpt with config := some c }).flashUpdate) : Answers P s (actConfigure c bid dflt sign s) := by
  unfold actConfigure
  split
  · exact .done _ _ h
  · exact .range

theorem actLoadZone_answers (b : List Byte)
    (h : P (s.setPpu { s.ppu with zones := slotPut s.ppu.zones (at8 b 0) (zoneOfBytes b) })) :
    Answers P s (actLoadZone b s) := by
  unfold actLoadZone
  dsimp only
  split
  · exact .done _ _ h
  · exact .range

theorem actLoadTariff_answers (slot : Nat) (t : Tariff)
    (h : t.inRange = true → t.dpOk s.ret.k = true →
      P (s.setRet { s.ret with tariffs := slotPut s.ret.tariffs (slot - 1) t })) :
    Answers P s (actLoadTariff slot t s) := by
  unfold actLoadTariff
  split
  · exact .protected
  · split
    · next hc =>
      simp only [Bool.and_eq_true] at hc
      exact .done _ _ (h hc.1.2 hc.2)
    · exact .range

theorem actLoadSurcharge_answers (index amount : Nat)
    (h : P (s.setRet { s.ret with surcharges := s.ret.surcharges.set (index - 1) amount })) :
    Answers P s (actLoadSurcharge index amount s) := by
  unfold actLoadSurcharge
  split
  · exact .protected
  · split
    · exact .done _ _ h
    · exact .range

theorem actSetPulse_answers (k : Nat)
    (h : 500 ≤ k → k ≤ 65000 → (∀ t ∈ slotEntries s.ret.tariffs, t.dpOk (some k) = true) →
      P (s.setRet { s.ret with k := some k, totalRem := 0, trip := s.ret.trip.map fun t => { t with rem := 0 } })) :
    Answers P s (actSetPulse k s) := by
  unfold actSetPulse
  split
  · exact .protected
  · split
    · next hc =>
      simp only [Bool.and_eq_true, decide_eq_true_eq, List.all_eq_true] at hc
      exact .done _ _ (h hc.1.1 hc.1.2 hc.2)
    · exact .range

theorem actGo_answers (h : P s.goRun) : Answers P s (actGo s) := by
  unfold actGo
  split
  · exact .done _ _ h
  · exact .barred

theorem actSense_answers (h : P (s.setCpt { s.cpt with events := s.cpt.events.tail, overflow := false })) :
    Answers P s (actSense s) := .done _ _ h

theorem actReadStatus_answers (h : P s) : Answers P s (actReadStatus s) := .done _ _ h

theorem actReadStats_answers (h : P s) : Answers P s (actReadStats s) := .done _ _ h

/-! ## Position, driver and trips -/

theorem actSetPosition_answers (p : Point) (fix : Nat) (hv : P (s.validFix p)) (hi : P s.invalidFix) :
    Answers P s (actSetPosition p fix s) := by
  unfold actSetPosition
  split
  · exact .done _ _ hv
  · split
    · exact .done _ _ hi
    · exact .range

theorem actReadPeer_answers (slot : Nat) (h : P s) : Answers P s (actReadPeer slot s) := by
  unfold actReadPeer
  split
  · exact .range
  · split
    · exact .done _ _ h
    · exact .notFound

theorem actSetDriver_answers (status : Nat) (h : ∀ d, P (s.setDriver d)) : Answers P s (actSetDriver status s) := by
  unfold actSetDriver
  split
  · exact .range
  · split
    · exact .barred
    · exact .done _ _ (h _)

theorem actHire_answers (tariff : Nat)
    (h : ∀ t k, s.hireBarred = false → s.tariffSlot tariff = some t → s.ret.k = some k →
      P (s.startTrip (newTrip tariff t k s.ret.shiftTime))) : Answers P s (actHire tariff s) := by
  unfold actHire
  split
  · exact .range
  · split
    · exact .barred
    · next hb =>
      split
      · next t k ht hk => exact .done _ _ (h t k (by simpa using hb) ht hk)
      · exact .range

theorem actStop_answers
    (hh : ∀ t, s.ret.fare = .hired → s.ret.trip = some t → P (s.setEarned t (t.settlePart s.partSecond)).stopTrip)
    (hd : ∀ t, s.ret.fare = .held → s.ret.trip = some t → P (s.setTrip (t.addHeld s.partSecond)).stopTrip) :
    Answers P s (actStop s) := by
  unfold actStop
  split
  · next t hf ht => exact .done _ _ (hh t hf ht)
  · next t hf ht => exact .done _ _ (hd t hf ht)
  · exact .barred

theorem actResume_answers (h : s.ret.fare = .total → P s.resumeTrip) : Answers P s (actResume s) := by
  unfold actResume
  split
  · next hf => exact .done _ _ (h (by simpa using hf))
  · exact .barred

theorem actSettle_answers (payment : Nat)
    (h : ∀ t, s.ret.fare = .total → s.ret.trip = some t →
      P (s.settleTrip (t.record (nextTrip s.ret.tripCounter) payment))) : Answers P s (actSettle payment s) := by
  unfold actSettle
  split
  · exact .range
  · split
    · next t hf ht => exact .done _ _ (h t hf ht)
    · exact .barred

theorem actAddExtra_answers (amount : Nat)
    (h : ∀ t, s.ret.trip = some t → t.extras.length < 8 → P (s.setPriced { t with extras := t.extras ++ [amount] })) :
    Answers P s (actAddExtra amount s) := by
  unfold actAddExtra
  split
  · exact .range
  split
  · exact .barred
  split
  · exact .barred
  next t ht =>
  split
  · exact .refuse _ Completion.noConfusion
  next hl => exact .done _ _ (h t ht (by omega))

theorem actReadFare_answers (h : P s) : Answers P s (actReadFare s) := .done _ _ h

theorem actStartShift_answers (h : s.ret.fare = .vacant → P s.openShift) : Answers P s (actStartShift s) := by
  unfold actStartShift
  split
  · exact .barred
  · next hc =>
    simp only [Bool.or_eq_true, bne_iff_ne, ne_eq, not_or, not_not] at hc
    exact .done _ _ (h hc.1.1)

theorem actEndShift_answers (h : s.ret.fare = .vacant → P s.closeShift) : Answers P s (actEndShift s) := by
  unfold actEndShift
  split
  · exact .barred
  · next hc =>
    simp only [Bool.or_eq_true, bne_iff_ne, ne_eq, not_or, not_not] at hc
    exact .done _ _ (h hc.1)

theorem actReadTotals_answers (h : P s) : Answers P s (actReadTotals s) := .done _ _ h

theorem actReadTrip_answers (n : Nat) (h : P s) : Answers P s (actReadTrip n s) := by
  unfold actReadTrip
  split
  · exact .range
  · split
    · exact .done _ _ h
    · exact .notFound

/-! ## Offers -/

theorem actReadOffer_answers (slot : Nat) (h : P s) : Answers P s (actReadOffer slot s) := by
  unfold actReadOffer
  split
  · exact .done _ _ h
  split
  · exact .range
  split
  · exact .done _ _ h
  · exact .notFound

theorem actScanOffers_answers (start : Nat) (mask : BitVec 24) (score zone : Nat) (h : P s) :
    Answers P s (actScanOffers start mask score zone s) := by
  unfold actScanOffers
  split
  · exact .range
  split
  · exact .done _ _ h
  · exact .notFound

theorem actAcceptOffer_answers (slot : Nat) (hs : P s)
    (h : ∀ e, slotGet s.ofb.slots slot = some e → e.state = .opened → P (s.acceptEntry slot e)) :
    Answers P s (actAcceptOffer slot s) := by
  unfold actAcceptOffer
  split
  · exact .range
  split
  · exact .notFound
  next e he =>
  split
  · exact .barred
  split
  · next ho =>
    split
    · exact .done _ _ hs
    · exact .done _ _ (h e he (by simpa using ho))
  split
  · exact .refuse _ Completion.noConfusion
  · exact .barred

theorem actPassOffer_answers (slot : Nat)
    (h : ∀ e, slotGet s.ofb.slots slot = some e → e.state = .opened ∨ e.state = .claimPending →
      P ((s.putEntry slot e.pass).dropClaim e)) : Answers P s (actPassOffer slot s) := by
  unfold actPassOffer
  split
  · exact .range
  split
  · exact .notFound
  next e he =>
  split
  · next ho => exact .done _ _ (h e he (by simpa using ho))
  · exact .barred

theorem actReleaseJob_answers (reason : Nat)
    (h : ∀ slot e r, s.jobEntry = some (slot, e) → P (s.dropJob slot e r)) : Answers P s (actReleaseJob reason s) := by
  unfold actReleaseJob
  split
  · exact .range
  split
  · next slot e he => exact .done _ _ (h slot e _ he)
  · exact .barred

/-! ## Notes -/

theorem actPostNote_answers (b : List Byte) (h : ∀ slot, P (s.postNote slot (postedOf b))) :
    Answers P s (actPostNote b s) := by
  unfold actPostNote
  dsimp only
  split
  · exact .range
  split
  · exact .refuse _ Completion.noConfusion
  · exact .done _ _ (h _)

theorem actReadNote_answers (slot word : Nat) (h : P s) : Answers P s (actReadNote slot word s) := by
  unfold actReadNote
  split
  · exact .range
  split
  · exact .done _ _ h
  · exact .notFound

theorem actScanNotes_answers (start mask urgent origin : Nat) (h : P s) :
    Answers P s (actScanNotes start mask urgent origin s) := by
  unfold actScanNotes
  split
  · exact .range
  split
  · exact .done _ _ h
  · exact .notFound

theorem actMarkRead_answers (slot : Nat) (hs : P s)
    (h : ∀ r, slotGet s.nts.inbox slot = some r → P (s.markNote slot r)) : Answers P s (actMarkRead slot s) := by
  unfold actMarkRead
  split
  · exact .range
  split
  · exact .notFound
  next r hr =>
  split
  · exact .done _ _ (h r hr)
  · exact .done _ _ hs
  · exact .barred

theorem actDeleteNote_answers (slot : Nat) (hs : P s)
    (h : ∀ r, slotGet s.nts.inbox slot = some r → P (s.putIn slot { r with state := .deleted, delReason := some .host })) :
    Answers P s (actDeleteNote slot s) := by
  unfold actDeleteNote
  split
  · exact .range
  split
  · exact .notFound
  next r hr =>
  split
  · exact .done _ _ hs
  · exact .done _ _ (h r hr)

theorem actReadOutbox_answers (slot : Nat) (h : P s) : Answers P s (actReadOutbox slot s) := by
  unfold actReadOutbox
  split
  · exact .done _ _ h
  split
  · exact .range
  split
  · exact .done _ _ h
  · exact .notFound

theorem actClearOutbox_answers (h : P (s.setNts { s.nts with outbox := clearedOutbox s.nts.outbox })) :
    Answers P s (actClearOutbox s) := .done _ _ h

/-! ## Alarms -/

theorem actRaiseAlarm_answers (h : s.ret.alarm = .quiet → P s.enterAlerting) : Answers P s (actRaiseAlarm s) := by
  unfold actRaiseAlarm
  split
  · next ha => exact .done _ _ (h (by simpa using ha))
  · exact .barred

theorem actCancelAlarm_answers (code : Nat) (h : s.ret.alarm = .alerting ∨ s.ret.alarm = .covert → P (s.codeGiven code)) :
    Answers P s (actCancelAlarm code s) := by
  unfold actCancelAlarm
  split
  · exact .range
  split
  · exact .barred
  next ha =>
  split
  · refine .done _ _ (h ?_)
    simp only [Bool.and_eq_true, bne_iff_ne, ne_eq, not_and, not_not] at ha
    exact or_iff_not_imp_left.mpr ha
  · exact .refuse _ Completion.noConfusion

theorem actReadAlarm_answers (index : Nat) (h : P s) : Answers P s (actReadAlarm index s) := by
  unfold actReadAlarm
  split
  · exact .done _ _ h
  split
  · exact .range
  split
  · exact .done _ _ h
  · exact .notFound

end
end Sys2Proof
end

section
/-! PROOFS. The acts of the blocks do not see the port: they commute with any change of the port's own fields and of CSN. -/

namespace Sys2Proof
open Sys2Proof.Machine

/-- The fields of the command port, and the level of CSN, that only the exchange of bytes writes and reads. -/
structure Port where
  phase : Phase
  code : Byte
  params : List Byte
  abandonAt : Option Nat
  result : List Byte
  phaseError : Bool
  muted : Muting
  sdo : Byte
  csnLow : Bool

/-- The state with these fields of the port. -/
def withPort (s : State) (v : Port) : State :=
  { s with
    pins := { s.pins with csnLow := v.csnLow }
    cpt := { s.cpt with
      phase := v.phase, code := v.code, params := v.params, abandonAt := v.abandonAt, result := v.result
      phaseError := v.phaseError, muted := v.muted, sdo := v.sdo } }

section
variable (s : State) (v w : Port)

/-! ## What a change of the port leaves alone -/

@[simp] theorem withPort_now : (withPort s v).now = s.now := rfl
@[simp] theorem withPort_draws : (withPort s v).draws = s.draws := rfl
@[simp] theorem withPort_ret : (withPort s v).ret = s.ret := rfl
@[simp] theorem withPort_cau : (withPort s v).cau = s.cau := rfl
@[simp] theorem withPort_rru : (withPort s v).rru = s.rru := rfl
@[simp] theorem withPort_ppu : (withPort s v).ppu = s.ppu := rfl
@[simp] theorem withPort_ofb : (withPort s v).ofb = s.ofb := rfl
@[simp] theorem withPort_fre : (withPort s v).fre = s.fre := rfl
@[simp] theorem withPort_ttl : (withPort s v).ttl = s.ttl := rfl
@[simp] theorem withPort_nts : (withPort s v).nts = s.nts := rfl
@[simp] theorem withPort_emu : (withPort s v).emu = s.emu := rfl
@[simp] theorem withPort_cd : (withPort s v).pins.cd = s.pins.cd := rfl
@[simp] theorem withPort_tprot : (withPort s v).pins.tprotOpen = s.pins.tprotOpen := rfl
@[simp] theorem withPort_part : (withPort s v).cpt.part = s.cpt.part := rfl
@[simp] theorem withPort_config : (withPort s v).cpt.config = s.cpt.config := rfl
@[simp] theorem withPort_events : (withPort s v).cpt.events = s.cpt.events := rfl
@[simp] theorem withPort_overflow : (withPort s v).cpt.overflow = s.cpt.overflow := rfl
@[simp] theorem withPort_inRun : (withPort s v).inRun = s.inRun := rfl
@[simp] theorem withPort_ownId : (withPort s v).ownId = s.ownId := rfl
@[simp] theorem withPort_randomIn (a b : Nat) : (withPort s v).randomIn a b = s.randomIn a b := rfl
@[simp] theorem withPort_pickLeast (key : α → Nat) (l : List α) : (withPort s v).pickLeast key l = s.pickLeast key l := rfl
@[simp] theorem withPort_withPort : withPort (withPort s v) w = withPort s w := rfl

@[simp] theorem setCau_withPort (c : Cau) : (withPort s v).setCau c = withPort (s.setCau c) v := rfl
@[simp] theorem setRru_withPort (r : Rru) : (withPort s v).setRru r = withPort (s.setRru r) v := rfl
@[simp] theorem setPpu_withPort (p : Ppu) : (withPort s v).setPpu p = withPort (s.setPpu p) v := rfl
@[simp] theorem setOfb_withPort (o : Ofb) : (withPort s v).setOfb o = withPort (s.setOfb o) v := rfl
@[simp] theorem setFre_withPort (f : Fre) : (withPort s v).setFre f = withPort (s.setFre f) v := rfl
@[simp] theorem setTtl_withPort (u : Ttl) : (withPort s v).setTtl u = withPort (s.setTtl u) v := rfl
@[simp] theorem setNts_withPort (n : Nts) : (withPort s v).setNts n = withPort (s.setNts n) v := rfl
@[simp] theorem setEmu_withPort (e : Emu) : (withPort s v).setEmu e = withPort (s.setEmu e) v := rfl
@[simp] theorem setRet_withPort (r : Retained) : (withPort s v).setRet r = withPort (s.setRet r) v := rfl
@[simp] theorem setStats_withPort (u : Stats) : (withPort s v).setStats u = withPort (s.setStats u) v := rfl
@[simp] theorem setQueue_withPort (q : List QEntry) : (withPort s v).setQueue q = withPort (s.setQueue q) v := rfl
@[simp] theorem nextDraw_withPort : (withPort s v).nextDraw = withPort s.nextDraw v := rfl
@[simp] theorem raiseEvent_withPort (k : EventKind) (a b : Nat) :
    (withPort s v).raiseEvent k a b = withPort (s.raiseEvent k a b) v := rfl

@[simp] theorem ite_withPort (c : Prop) [Decidable c] (t : State) :
    withPort (if c then s else t) v = if c then withPort s v else withPort t v := apply_ite (withPort · v) c s t

/-! ## Records and the queue -/

@[simp] theorem entry_withPort (k : JobKey) : (withPort s v).entry k = s.entry k := rfl
@[simp] theorem jobEntry_withPort : (withPort s v).jobEntry = s.jobEntry := rfl
@[simp] theorem inNote_withPort (o i : Nat) : (withPort s v).inNote o i = s.inNote o i := rfl
@[simp] theorem ownBody_withPort (r : OwnRef) : (withPort s v).ownBody r = s.ownBody r := by cases r <;> rfl
@[simp] theorem ownMark_withPort (r : OwnRef) : (withPort s v).ownMark r = s.ownMark r := rfl
@[simp] theorem standingMarks_withPort : (withPort s v).standingMarks = s.standingMarks := rfl
@[simp] theorem putEntry_withPort (i : Nat) (e : BoardEntry) : (withPort s v).putEntry i e = withPort (s.putEntry i e) v := rfl
@[simp] theorem putIn_withPort (i : Nat) (r : InNote) : (withPort s v).putIn i r = withPort (s.putIn i r) v := rfl
@[simp] theorem putOut_withPort (i : Nat) (r : OutNote) : (withPort s v).putOut i r = withPort (s.putOut i r) v := rfl

@[simp] theorem modEntry_withPort (k : JobKey) (f : BoardEntry → BoardEntry) :
    (withPort s v).modEntry k f = withPort (s.modEntry k f) v := by
  unfold State.modEntry
  simp only [entry_withPort, putEntry_withPort]
  split <;> rfl

@[simp] theorem modIn_withPort (o i : Nat) (f : InNote → InNote) : (withPort s v).modIn o i f = withPort (s.modIn o i f) v := by
  unfold State.modIn
  simp only [inNote_withPort, putIn_withPort]
  split <;> rfl

@[simp] theorem modOut_withPort (i : Nat) (f : OutNote → OutNote) : (withPort s v).modOut i f = withPort (s.modOut i f) v := by
  unfold State.modOut
  simp only [withPort_nts, putOut_withPort]
  split <;> rfl

@[simp] theorem tallyPlace_withPort (p : TallyPlace) (q : Option Nat) :
    (withPort s v).tallyPlace p q = withPort (s.tallyPlace p q) v := rfl

@[simp] theorem ownerAccepted_withPort (r : OwnRef) (n : Nat) :
    (withPort s v).ownerAccepted r n = withPort (s.ownerAccepted r n) v := by
  unfold State.ownerAccepted
  split <;> simp

@[simp] theorem keepRefusal_withPort (d i : Nat) (m : Mark) :
    (withPort s v).keepRefusal d i m = withPort (s.keepRefusal d i m) v := by
  unfold State.keepRefusal
  rw [ite_withPort, ite_withPort]
  rfl

@[simp] theorem ownerNotSent_withPort (r : OwnRef) (m : Mark) :
    (withPort s v).ownerNotSent r m = withPort (s.ownerNotSent r m) v := by
  unfold State.ownerNotSent
  split <;> simp

@[simp] theorem relayNotSent_withPort (k : FrameKey) : (withPort s v).relayNotSent k = withPort (s.relayNotSent k) v := rfl
@[simp] theorem countRefused_withPort : (withPort s v).countRefused = withPort s.countRefused v := rfl

@[simp] theorem displace_withPort (e : QEntry) : (withPort s v).displace e = withPort (s.displace e) v := by
  unfold State.displace
  dsimp only
  split <;> simp

@[simp] theorem acceptOwn_withPort (o : Offered) : (withPort s v).acceptOwn o = withPort (s.acceptOwn o) v := by
  unfold State.acceptOwn
  dsimp only
  rw [← ownerAccepted_withPort]
  split <;> rfl

@[simp] theorem refuseOwn_withPort (o : Offered) : (withPort s v).refuseOwn o = withPort (s.refuseOwn o) v := by
  simp [State.refuseOwn]

@[simp] theorem mergeOwn_withPort (o : Offered) (e : QEntry) : (withPort s v).mergeOwn o e = withPort (s.mergeOwn o e) v := by
  unfold State.mergeOwn
  dsimp only
  rw [← ownerAccepted_withPort]
  rfl

@[simp] theorem deferOwn_withPort (o : Offered) (g : Group) : (withPort s v).deferOwn o g = withPort (s.deferOwn o g) v := by
  simp [State.deferOwn]

@[simp] theorem placeOwn_withPort (o : Offered) : (withPort s v).placeOwn o = withPort (s.placeOwn o) v := by
  unfold State.placeOwn
  simp only [withPort_cau, acceptOwn_withPort]
  split
  · rfl
  · split <;> simp

@[simp] theorem offerOwnQ_withPort (o : Offered) : (withPort s v).offerOwnQ o = withPort (s.offerOwnQ o) v := by
  unfold State.offerOwnQ
  simp only [withPort_inRun, withPort_cau, placeOwn_withPort, mergeOwn_withPort, deferOwn_withPort]
  split
  · rfl
  split
  · rfl
  split
  · rfl
  split
  · rw [ite_withPort]
  · rfl

@[simp] theorem offerRefQ_withPort (r : OwnRef) : (withPort s v).offerRefQ r = withPort (s.offerRefQ r) v := by
  unfold State.offerRefQ
  simp only [ownBody_withPort, offerOwnQ_withPort]
  split <;> rfl

@[simp] theorem reofferQ_withPort (r : OwnRef) : (withPort s v).reofferQ r = withPort (s.reofferQ r) v := by
  unfold State.reofferQ
  simp only [ownBody_withPort, ownMark_withPort, offerOwnQ_withPort]
  split <;> rfl

theorem reofferAll_withPort (after : State → State) (h : ∀ s, after (withPort s v) = withPort (after s) v) (n : Nat)
    (l : List (Nat × OwnRef)) : reofferAll after n l (withPort s v) = withPort (reofferAll after n l s) v := by
  induction n generalizing l s with
  | zero => rfl
  | succ n ih =>
    simp only [reofferAll, withPort_pickLeast, nextDraw_withPort, reofferQ_withPort, h]
    split
    · rfl
    · exact ih _ _

theorem spaceThen_withPort (after : State → State) (h : ∀ s, after (withPort s v) = withPort (after s) v) :
    (withPort s v).spaceThen after = withPort (s.spaceThen after) v := by
  unfold State.spaceThen
  simp only [withPort_cau, standingMarks_withPort, reofferAll_withPort _ _ after h, ite_withPort]

/-! ## The access unit -/

@[simp] theorem mayKey_withPort (e : QEntry) : (withPort s v).mayKey e = s.mayKey e := rfl

@[simp] theorem drawBackoff_withPort (e : QEntry) : (withPort s v).drawBackoff e = withPort (s.drawBackoff e) v := rfl

@[simp] theorem truncate_withPort : (withPort s v).truncate = withPort s.truncate v := by simp [State.truncate]

@[simp] theorem startTx_withPort (e k : QEntry) : (withPort s v).startTx e k = withPort (s.startTx e k) v := by
  simp [State.startTx]

@[simp] theorem decideHead_withPort (n : Nat) (failed : Bool) :
    decideHead n failed (withPort s v) = withPort (decideHead n failed s) v := by
  induction n generalizing s failed with
  | zero => rfl
  | succ n ih =>
    simp only [decideHead, withPort_cau, withPort_now, mayKey_withPort, setCau_withPort, setQueue_withPort,
      relayNotSent_withPort, startTx_withPort]
    split
    · rfl
    · split
      · split
        · rfl
        · rw [spaceThen_withPort _ _ id fun _ => rfl, ih]
      · split <;> rfl

@[simp] theorem decide_withPort (failed : Bool) : (withPort s v).decide failed = withPort (s.decide failed) v :=
  decideHead_withPort s v _ failed

@[simp] theorem kick_withPort : (withPort s v).kick = withPort s.kick v := by
  unfold State.kick
  simp only [withPort_cau, decide_withPort]
  split
  · rfl
  · split
    · rfl
    · rfl
    · rw [ite_withPort]

@[simp] theorem offer_withPort (r : OwnRef) : (withPort s v).offer r = withPort (s.offer r) v := by simp [State.offer]

@[simp] theorem space_withPort : (withPort s v).space = withPort s.space v := spaceThen_withPort s v _ fun t => kick_withPort t v

@[simp] theorem removeOwn_withPort (r : OwnRef) : (withPort s v).removeOwn r = withPort (s.removeOwn r) v := by
  simp [State.removeOwn]

@[simp] theorem removeClaims_withPort (ks : List JobKey) :
    (withPort s v).removeClaims ks = withPort (s.removeClaims ks) v := by
  unfold State.removeClaims
  induction ks generalizing s with
  | nil => rfl
  | cons k ks ih => simp only [List.foldl_cons, removeOwn_withPort, ih]

/-! ## Availability and the fare engine -/

@[simp] theorem convertBoard_withPort (r : Reason) : (withPort s v).convertBoard r = withPort (s.convertBoard r) v := by
  unfold State.convertBoard
  rw [← removeClaims_withPort]
  rfl

@[simp] theorem boardAvail_withPort (a : Avail) : (withPort s v).boardAvail a = withPort (s.boardAvail a) v := by
  simp [State.boardAvail]

@[simp] theorem ppuAvail_withPort (a : Avail) : (withPort s v).ppuAvail a = withPort (s.ppuAvail a) v := by
  simp [State.ppuAvail]

@[simp] theorem availNow_withPort : (withPort s v).availNow = s.availNow := rfl

@[simp] theorem recompute_withPort : (withPort s v).recompute = withPort s.recompute v := by simp [State.recompute]

@[simp] theorem idleUpdate_withPort : (withPort s v).idleUpdate = withPort s.idleUpdate v := by simp [State.idleUpdate]

@[simp] theorem setFare_withPort (f : FareState) : (withPort s v).setFare f = withPort (s.setFare f) v := by
  simp [State.setFare]

@[simp] theorem fareReleased_withPort : (withPort s v).fareReleased = withPort s.fareReleased v := by
  simp [State.fareReleased]

@[simp] theorem setTrip_withPort (t : Trip) : (withPort s v).setTrip t = withPort (s.setTrip t) v := rfl

@[simp] theorem setPriced_withPort (t : Trip) : (withPort s v).setPriced t = withPort (s.setPriced t) v := by
  simp [State.setPriced]

@[simp] theorem setEarned_withPort (x t : Trip) : (withPort s v).setEarned x t = withPort (s.setEarned x t) v := by
  simp [State.setEarned]

@[simp] theorem surchargeTest_withPort : (withPort s v).surchargeTest = withPort s.surchargeTest v := by
  have hz : (withPort s v).zoneSurcharge = s.zoneSurcharge := rfl
  have ha (i : Nat) : (withPort s v).surchargeAmount i = s.surchargeAmount i := rfl
  unfold State.surchargeTest
  simp only [withPort_ret, hz, ha, setPriced_withPort]
  split
  · rw [ite_withPort]
  · rfl

@[simp] theorem startSecond_withPort : (withPort s v).startSecond = withPort s.startSecond v := rfl
@[simp] theorem stopSecond_withPort : (withPort s v).stopSecond = withPort s.stopSecond v := rfl
@[simp] theorem partSecond_withPort : (withPort s v).partSecond = s.partSecond := rfl

@[simp] theorem fixNotice_withPort (z : Bool) : (withPort s v).fixNotice z = withPort (s.fixNotice z) v := by
  simp [State.fixNotice]

@[simp] theorem alarmFare_withPort : (withPort s v).alarmFare = withPort s.alarmFare v := by
  unfold State.alarmFare
  simp only [withPort_ret, partSecond_withPort, setEarned_withPort, setTrip_withPort, setRet_withPort, startSecond_withPort]
  split <;> rfl

@[simp] theorem alarmNotice_withPort : (withPort s v).alarmNotice = withPort s.alarmNotice v := by simp [State.alarmNotice]

@[simp] theorem offerTally_withPort (b : TallyBody) (q : Option Nat) :
    (withPort s v).offerTally b q = withPort (s.offerTally b q) v := by
  simp [State.offerTally]

@[simp] theorem buildTally_withPort : (withPort s v).buildTally = withPort s.buildTally v := by
  have hb : (withPort s v).tallyBody = s.tallyBody := rfl
  unfold State.buildTally
  simp only [withPort_ttl, hb, offerTally_withPort, setTtl_withPort]
  split
  · rfl
  · split <;> rfl

@[simp] theorem tallyIfHome_withPort : (withPort s v).tallyIfHome = withPort s.tallyIfHome v := by
  have hb : (withPort s v).homeBase = s.homeBase := rfl
  simp [State.tallyIfHome, hb]

@[simp] theorem modTrip_withPort (f : Trip → Trip) : (withPort s v).modTrip f = withPort (s.modTrip f) v := rfl
@[simp] theorem bookTrip_withPort (r : TripRecord) : (withPort s v).bookTrip r = withPort (s.bookTrip r) v := rfl

/-! ## The board, the own alarm and the position -/

@[simp] theorem dropClaim_withPort (e : BoardEntry) : (withPort s v).dropClaim e = withPort (s.dropClaim e) v := by
  simp [State.dropClaim]

@[simp] theorem claim_withPort (i : Nat) (e : BoardEntry) : (withPort s v).claim i e = withPort (s.claim i e) v := by
  simp [State.claim]

@[simp] theorem dropJob_withPort (i : Nat) (e : BoardEntry) (r : Reason) :
    (withPort s v).dropJob i e r = withPort (s.dropJob i e r) v := by
  simp only [State.dropJob, withPort_now, putEntry_withPort, removeOwn_withPort, offer_withPort, ← ite_withPort,
    fareReleased_withPort]

@[simp] theorem alarmBoard_withPort : (withPort s v).alarmBoard = withPort s.alarmBoard v := by
  unfold State.alarmBoard
  simp only [convertBoard_withPort, jobEntry_withPort, dropJob_withPort]
  split <;> rfl

theorem hireBoard_withPort : (withPort s v).hireBoard = (withPort s.hireBoard.1 v, s.hireBoard.2) := by
  unfold State.hireBoard
  simp only [jobEntry_withPort]
  split <;> rfl

@[simp] theorem flashUpdate_withPort : (withPort s v).flashUpdate = withPort s.flashUpdate v := by
  have hw : (withPort s v).flashWanted = s.flashWanted := rfl
  simp [State.flashUpdate, hw]

@[simp] theorem alarmChanged_withPort : (withPort s v).alarmChanged = withPort s.alarmChanged v := by
  simp [State.alarmChanged]

@[simp] theorem setAlarm_withPort (a : AlarmState) (c : Bool) : (withPort s v).setAlarm a c = withPort (s.setAlarm a c) v := rfl
@[simp] theorem startRepeat_withPort : (withPort s v).startRepeat = withPort s.startRepeat v := rfl

@[simp] theorem enterAlerting_withPort : (withPort s v).enterAlerting = withPort s.enterAlerting v := by
  simp [State.enterAlerting]

@[simp] theorem enterCovert_withPort : (withPort s v).enterCovert = withPort s.enterCovert v := by
  simp [State.enterCovert]

@[simp] theorem enterEnding_withPort : (withPort s v).enterEnding = withPort s.enterEnding v := by
  simp [State.enterEnding]

@[simp] theorem alarmGo_withPort : (withPort s v).alarmGo = withPort s.alarmGo v := by
  unfold State.alarmGo
  simp only [withPort_ret]
  split <;> simp

@[simp] theorem validFix_withPort (p : Point) : (withPort s v).validFix p = withPort (s.validFix p) v := by
  simp [State.validFix]

@[simp] theorem invalidFix_withPort : (withPort s v).invalidFix = withPort s.invalidFix v := rfl

end
end Sys2Proof
end

section
/-! PROOFS. A command does what its bytes do (R179 to R185): the acts are blind to the port, and the port takes the bytes of a row. -/

namespace Sys2Proof
open Sys2Proof.Machine

/-! ## Acts -/

/-- The act neither sees nor writes the port's own fields and CSN. -/
def blind (act : Act) : Prop := ∀ s v, act (withPort s v) = (withPort (act s).1 v, (act s).2)

theorem ite_answer (c : Prop) [Decidable c] (a b : State × List Byte) (v : Port) :
    (withPort (if c then a else b).1 v, (if c then a else b).2)
      = if c then (withPort a.1 v, a.2) else (withPort b.1 v, b.2) := by
  split <;> rfl

theorem firstBeacon_withPort (s : State) (v : Port) : (withPort s v).firstBeacon = withPort s.firstBeacon v := rfl

theorem startEvent_withPort (s : State) (v : Port) : (withPort s v).startEvent = withPort s.startEvent v := by
  unfold State.startEvent
  dsimp only
  rw [ite_withPort]
  rfl

theorem goRun_withPort (s : State) (v : Port) : (withPort s v).goRun = withPort s.goRun v := by
  have h : ((withPort s v).setCpt { (withPort s v).cpt with part := .run, goTime := (withPort s v).now }).cauGo.resumeHunt
      = withPort ((s.setCpt { s.cpt with part := .run, goTime := s.now }).cauGo.resumeHunt) v := rfl
  simp only [State.goRun, h, firstBeacon_withPort, startEvent_withPort, alarmGo_withPort]

theorem blind_configure (c : Station) (bid dflt sign : Byte) : blind (actConfigure c bid dflt sign) := fun s v => by
  have h : (withPort s v).setCpt { (withPort s v).cpt with config := some c }
      = withPort (s.setCpt { s.cpt with config := some c }) v := rfl
  unfold actConfigure
  rw [h, flashUpdate_withPort]
  split <;> rfl

theorem blind_loadZone (b : List Byte) : blind (actLoadZone b) := fun s v => by
  unfold actLoadZone
  dsimp only
  split <;> rfl

theorem blind_loadTariff (slot : Nat) (t : Tariff) : blind (actLoadTariff slot t) := fun s v => by
  unfold actLoadTariff
  rw [ite_answer, ite_answer]
  rfl

theorem blind_loadSurcharge (i a : Nat) : blind (actLoadSurcharge i a) := fun s v => by
  unfold actLoadSurcharge
  rw [ite_answer, ite_answer]
  rfl

theorem blind_setPulse (k : Nat) : blind (actSetPulse k) := fun s v => by
  unfold actSetPulse
  rw [ite_answer, ite_answer]
  rfl

theorem blind_go : blind actGo := fun s v => by
  unfold actGo
  simp only [withPort_config, goRun_withPort]
  split <;> rfl

theorem blind_sense : blind actSense := fun _ _ => rfl
theorem blind_readStatus : blind actReadStatus := fun _ _ => rfl
theorem blind_readStats : blind actReadStats := fun _ _ => rfl

theorem blind_setPosition (p : Point) (fix : Nat) : blind (actSetPosition p fix) := fun s v => by
  unfold actSetPosition
  simp only [validFix_withPort, invalidFix_withPort]
  split
  · rfl
  · split <;> rfl

theorem blind_readPeer (slot : Nat) : blind (actReadPeer slot) := fun s v => by
  unfold actReadPeer
  simp only [withPort_ppu]
  split
  · rfl
  · split <;> rfl

theorem setDriver_withPort (s : State) (v : Port) (d : DriverStatus) :
    (withPort s v).setDriver d = withPort (s.setDriver d) v := by
  simp [State.setDriver]

theorem blind_setDriver (status : Nat) : blind (actSetDriver status) := fun s v => by
  unfold actSetDriver
  simp only [withPort_ret, setDriver_withPort]
  split
  · rfl
  · split <;> rfl

theorem hireNotice_withPort (s : State) (v : Port) : (withPort s v).hireNotice = withPort s.hireNotice v := by
  simp only [State.hireNotice, hireBoard_withPort, modTrip_withPort]

theorem startTrip_withPort (s : State) (v : Port) (t : Trip) : (withPort s v).startTrip t = withPort (s.startTrip t) v := by
  simp only [State.startTrip, withPort_ret, setRet_withPort, hireNotice_withPort, ← ite_withPort, idleUpdate_withPort,
    surchargeTest_withPort, startSecond_withPort, recompute_withPort]

theorem blind_hire (tariff : Nat) : blind (actHire tariff) := fun s v => by
  have hb : (withPort s v).hireBarred = s.hireBarred := rfl
  have ht : (withPort s v).tariffSlot tariff = s.tariffSlot tariff := rfl
  unfold actHire
  simp only [hb, ht, withPort_ret, startTrip_withPort]
  split
  · rfl
  split
  · rfl
  split <;> rfl

theorem stopTrip_withPort (s : State) (v : Port) : (withPort s v).stopTrip = withPort s.stopTrip v := by
  simp [State.stopTrip]

theorem blind_stop : blind actStop := fun s v => by
  unfold actStop
  simp only [withPort_ret, partSecond_withPort, setEarned_withPort, setTrip_withPort, stopTrip_withPort]
  split <;> rfl

theorem resumeTrip_withPort (s : State) (v : Port) : (withPort s v).resumeTrip = withPort s.resumeTrip v := by
  simp [State.resumeTrip]

theorem blind_resume : blind actResume := fun s v => by
  unfold actResume
  simp only [withPort_ret, resumeTrip_withPort]
  split <;> rfl

theorem settleTrip_withPort (s : State) (v : Port) (r : TripRecord) :
    (withPort s v).settleTrip r = withPort (s.settleTrip r) v := by
  simp [State.settleTrip]

theorem blind_settle (payment : Nat) : blind (actSettle payment) := fun s v => by
  unfold actSettle
  simp only [withPort_ret, settleTrip_withPort]
  split
  · rfl
  · split <;> rfl

theorem blind_addExtra (amount : Nat) : blind (actAddExtra amount) := fun s v => by
  unfold actAddExtra
  simp only [withPort_ret, setPriced_withPort]
  split
  · rfl
  split
  · rfl
  split
  · rfl
  split <;> rfl

theorem blind_readFare : blind actReadFare := fun _ _ => rfl

theorem openShift_withPort (s : State) (v : Port) : (withPort s v).openShift = withPort s.openShift v := by
  simp [State.openShift]

theorem blind_startShift : blind actStartShift := fun s v => by
  have h : (withPort s v).shiftEndTally = s.shiftEndTally := rfl
  unfold actStartShift
  simp only [withPort_ret, h, openShift_withPort]
  split <;> rfl

theorem closeShift_withPort (s : State) (v : Port) : (withPort s v).closeShift = withPort s.closeShift v := by
  simp [State.closeShift]

theorem blind_endShift : blind actEndShift := fun s v => by
  unfold actEndShift
  simp only [withPort_ret, closeShift_withPort]
  split <;> rfl

theorem blind_readTotals : blind actReadTotals := fun _ _ => rfl

theorem blind_readTrip (n : Nat) : blind (actReadTrip n) := fun s v => by
  unfold actReadTrip
  simp only [withPort_ret]
  split
  · rfl
  · split <;> rfl

theorem blind_readOffer (slot : Nat) : blind (actReadOffer slot) := fun s v => by
  unfold actReadOffer
  simp only [withPort_ofb]
  split
  · rfl
  split
  · rfl
  split <;> rfl

theorem blind_scanOffers (start : Nat) (mask : BitVec 24) (score zone : Nat) : blind (actScanOffers start mask score zone) :=
  fun s v => by
    unfold actScanOffers
    simp only [withPort_ofb]
    split
    · rfl
    · split <;> rfl

theorem acceptEntry_withPort (s : State) (v : Port) (slot : Nat) (e : BoardEntry) :
    (withPort s v).acceptEntry slot e = withPort (s.acceptEntry slot e) v := by
  simp [State.acceptEntry]

theorem blind_acceptOffer (slot : Nat) : blind (actAcceptOffer slot) := fun s v => by
  have hb : (withPort s v).bidMode = s.bidMode := rfl
  unfold actAcceptOffer
  simp only [withPort_ofb, hb, acceptEntry_withPort]
  split
  · rfl
  split
  · rfl
  split
  · rfl
  split
  · split <;> rfl
  · split <;> rfl

theorem blind_passOffer (slot : Nat) : blind (actPassOffer slot) := fun s v => by
  unfold actPassOffer
  simp only [withPort_ofb, putEntry_withPort, dropClaim_withPort]
  split
  · rfl
  split
  · rfl
  split <;> rfl

theorem blind_releaseJob (reason : Nat) : blind (actReleaseJob reason) := fun s v => by
  unfold actReleaseJob
  simp only [jobEntry_withPort, dropJob_withPort]
  split
  · rfl
  split <;> rfl

theorem postNote_withPort (s : State) (v : Port) (slot : Nat) (p : Posted) :
    (withPort s v).postNote slot p = withPort (s.postNote slot p) v := by
  simp [State.postNote]

theorem blind_postNote (b : List Byte) : blind (actPostNote b) := fun s v => by
  have hok : (withPort s v).postOk (postedOf b) b.length = s.postOk (postedOf b) b.length := rfl
  have hs : (withPort s v).outboxSlot = s.outboxSlot := rfl
  unfold actPostNote
  simp only [hok, hs, postNote_withPort, withPort_ret]
  split
  · rfl
  split <;> rfl

theorem blind_readNote (slot word : Nat) : blind (actReadNote slot word) := fun s v => by
  unfold actReadNote
  simp only [withPort_nts]
  split
  · rfl
  split <;> rfl

theorem blind_scanNotes (start mask urgent origin : Nat) : blind (actScanNotes start mask urgent origin) := fun s v => by
  unfold actScanNotes
  simp only [withPort_nts]
  split
  · rfl
  split <;> rfl

theorem markNote_withPort (s : State) (v : Port) (slot : Nat) (r : InNote) :
    (withPort s v).markNote slot r = withPort (s.markNote slot r) v := by
  simp [State.markNote, State.sendReceipt]

theorem blind_markRead (slot : Nat) : blind (actMarkRead slot) := fun s v => by
  unfold actMarkRead
  simp only [withPort_nts, markNote_withPort]
  split
  · rfl
  split
  · rfl
  split <;> rfl

theorem blind_deleteNote (slot : Nat) : blind (actDeleteNote slot) := fun s v => by
  unfold actDeleteNote
  simp only [withPort_nts, putIn_withPort]
  split
  · rfl
  split
  · rfl
  split <;> rfl

theorem blind_readOutbox (slot : Nat) : blind (actReadOutbox slot) := fun s v => by
  unfold actReadOutbox
  simp only [withPort_nts]
  split
  · rfl
  split
  · rfl
  split <;> rfl

theorem blind_clearOutbox : blind actClearOutbox := fun _ _ => rfl

theorem blind_raiseAlarm : blind actRaiseAlarm := fun s v => by
  unfold actRaiseAlarm
  simp only [withPort_ret, enterAlerting_withPort]
  split <;> rfl

theorem codeGiven_withPort (s : State) (v : Port) (code : Nat) :
    (withPort s v).codeGiven code = withPort (s.codeGiven code) v := by
  have hc : (withPort s v).isCancel code = s.isCancel code := rfl
  simp only [State.codeGiven, hc, withPort_ret, enterEnding_withPort, enterCovert_withPort, ite_withPort]

theorem blind_cancelAlarm (code : Nat) : blind (actCancelAlarm code) := fun s v => by
  have hc : (withPort s v).isCancel code = s.isCancel code := rfl
  have hd : (withPort s v).isDuress code = s.isDuress code := rfl
  unfold actCancelAlarm
  simp only [withPort_ret, hc, hd, codeGiven_withPort]
  split
  · rfl
  split
  · rfl
  split <;> rfl

theorem blind_readAlarm (index : Nat) : blind (actReadAlarm index) := fun s v => by
  unfold actReadAlarm
  simp only [withPort_emu]
  split
  · rfl
  split
  · rfl
  split <;> rfl

theorem actOf_blind {code : Nat} {p : List Byte} {g : CmdGroup} {act : Act} (h : actOf code p = some (g, act)) : blind act := by
  unfold actOf at h
  split at h <;> cases h
  · exact blind_configure _ _ _ _
  · exact blind_loadZone _
  · exact blind_loadTariff _ _
  · exact blind_loadSurcharge _ _
  · exact blind_setPulse _
  · exact blind_go
  · exact blind_sense
  · exact blind_readStatus
  · exact blind_readStats
  · exact blind_setPosition _ _
  · exact blind_setDriver _
  · exact blind_readPeer _
  · exact blind_readOffer _
  · exact blind_scanOffers _ _ _ _
  · exact blind_acceptOffer _
  · exact blind_passOffer _
  · exact blind_releaseJob _
  · exact blind_hire _
  · exact blind_stop
  · exact blind_resume
  · exact blind_settle _
  · exact blind_addExtra _
  · exact blind_readFare
  · exact blind_startShift
  · exact blind_endShift
  · exact blind_readTotals
  · exact blind_readTrip _
  · exact blind_postNote _
  · exact blind_readNote _ _
  · exact blind_scanNotes _ _ _ _
  · exact blind_markRead _
  · exact blind_deleteNote _
  · exact blind_readOutbox _
  · exact blind_clearOutbox
  · exact blind_raiseAlarm
  · exact blind_cancelAlarm _
  · exact blind_readAlarm _

end Sys2Proof
end

section
/-! PROOFS. A command row does what its bytes do on the port, in every phase (R179 to R185, R192). -/

namespace Sys2Proof
open Sys2Proof.Machine

/-! ## Rows as codes and parameter bytes (R192) -/

/-- The parameter bytes are what the code asks for, and no shorter run of them is (R182). -/
def fits (code : Byte) (params : List Byte) : Prop :=
  ∃ sh, shapeOf code = some sh ∧ ((sh = .fixed 0 ∧ params = []) ∨ (sh ≠ .fixed 0 ∧ params ≠ [] ∧
    ∀ k, 0 < k → k ≤ params.length → sh.complete (params.take k) = decide (k = params.length)))

theorem fits_none {code : Byte} (h : shapeOf code = some (.fixed 0)) : fits code [] := ⟨_, h, .inl ⟨rfl, rfl⟩⟩

theorem fits_fixed {code : Byte} {n : Nat} {params : List Byte} (h : shapeOf code = some (.fixed (n + 1)))
    (hl : params.length = n + 1) : fits code params := by
  refine ⟨_, h, .inr ⟨by simp, fun hn => by simp [hn] at hl, fun k _ hk => ?_⟩⟩
  rw [ParamShape.complete, List.length_take, Nat.min_eq_left hk, hl, beq_eq_decide]

theorem fits_counted {code : Byte} {l : List Byte} (h : shapeOf code = some .counted) (hl : l.length ≤ 255) :
    fits code (byte l.length :: l) := by
  refine ⟨_, h, .inr ⟨by simp, by simp, fun k h0 hk => ?_⟩⟩
  obtain ⟨k, rfl⟩ := Nat.exists_eq_succ_of_ne_zero h0.ne'
  have hb : (byte l.length).toNat = l.length := by
    rw [byte, BitVec.toNat_ofNat]
    omega
  simp only [List.length_cons, Nat.succ_eq_add_one, Nat.add_le_add_iff_right] at hk
  simp only [ParamShape.complete, Nat.succ_eq_add_one, List.take_succ_cons, List.length_cons, List.length_take,
    Nat.min_eq_left hk, at8, List.getD_cons_zero, hb, beq_eq_decide]
  simp [Nat.add_comm 1]

/-- The row is the act of its code and parameter bytes. -/
structure rowIs (i : Instr) (g : CmdGroup) (code : Byte) (params : List Byte) (act : Act) : Prop where
  fits : i.wellFormed = true → fits code params
  decoded : actOf code.toNat params = some (g, act)
  run : ∀ s, exec i s = .next ((i.sampled s).hostCommand code params g act)

/-- The high and the low byte of a word give the word back. -/
theorem word_bytes (w : BitVec 16) : (w.extractLsb' 8 8 ++ w.extractLsb' 0 8 : BitVec 16) = w := pw_wordBytes w []

theorem at16_word (w : BitVec 16) : at16 (wordBytes w) 0 = w.toNat := at16_wordBytes w []

theorem mask_bytes (m : BitVec 24) : (m.extractLsb' 16 8 ++ m.extractLsb' 8 8 ++ m.extractLsb' 0 8 : BitVec 24) = m := by
  apply BitVec.eq_of_getLsbD_eq
  intro i hi
  simp only [BitVec.getLsbD_append, BitVec.getLsbD_extractLsb']
  split
  · simp [*]
  split
  · simp [show i - 8 < 8 by omega, show 8 + (i - 8) = i by omega]
  · simp [show i - 8 - 8 < 8 by omega, show 16 + (i - 8 - 8) = i by omega]

/-- Every command row but RESTART is the act of its code and parameter bytes (R192). -/
theorem rowIs_of_command {i : Instr} {g : CmdGroup} {code : Byte} {params : List Byte}
    (h : i.command = some (g, code, params)) (hr : ∀ low, i ≠ .restart low) :
    ∃ act, rowIs i g code params act := by
  cases i <;> cases h
  case restart low => exact absurd rfl (hr low)
  case loadZone b => exact ⟨_, fun hw => fits_counted rfl (by simpa [Instr.wellFormed] using hw), rfl, fun _ => rfl⟩
  case postNote b => exact ⟨_, fun hw => fits_counted rfl (by simpa [Instr.wellFormed] using hw), rfl, fun _ => rfl⟩
  case configure id fleet home vclass bid dflt dist pen idle beacon cancel duress sign =>
    refine ⟨_, fun _ => fits_fixed rfl rfl, ?_, fun _ => rfl⟩
    have h1 := word_bytes id
    have h2 := word_bytes dist
    have h3 := word_bytes cancel
    have h4 := word_bytes duress
    show some (_, actConfigure (stationOf (id.extractLsb' 8 8 ++ id.extractLsb' 0 8) fleet home vclass bid dflt
      (dist.extractLsb' 8 8 ++ dist.extractLsb' 0 8) pen idle beacon (cancel.extractLsb' 8 8 ++ cancel.extractLsb' 0 8)
      (duress.extractLsb' 8 8 ++ duress.extractLsb' 0 8) sign) bid dflt sign) = _
    rw [h1, h2, h3, h4]
  case loadTariff slot fall amount dist time n0 tp =>
    refine ⟨_, fun _ => fits_fixed rfl rfl, ?_, fun _ => rfl⟩
    show some (_, actLoadTariff slot.toNat ⟨at16 (wordBytes fall) 0, at16 (wordBytes amount) 0, at16 (wordBytes dist) 0,
      at16 (wordBytes time) 0, n0.toNat⟩) = _
    simp only [at16_word]
  case loadSurcharge index amount tp =>
    exact ⟨_, fun _ => fits_fixed rfl rfl, congrArg (fun n => some (_, actLoadSurcharge index.toNat n)) (at16_word amount),
      fun _ => rfl⟩
  case setPulseConstant k tp =>
    exact ⟨_, fun _ => fits_fixed rfl rfl, congrArg (fun n => some (_, actSetPulse n)) (at16_word k), fun _ => rfl⟩
  case setPosition east north fix =>
    refine ⟨_, fun _ => fits_fixed rfl rfl, ?_, fun _ => rfl⟩
    show some (_, actSetPosition ⟨at16 (wordBytes east) 0, at16 (wordBytes north) 0⟩ fix.toNat) = _
    simp only [at16_word]
  case scanOffers start mask score zone =>
    refine ⟨_, fun _ => fits_fixed rfl rfl, ?_, fun _ => rfl⟩
    show some (_, actScanOffers start.toNat (mask.extractLsb' 16 8 ++ mask.extractLsb' 8 8 ++ mask.extractLsb' 0 8)
      (at16 (wordBytes score) 0) zone.toNat) = _
    rw [mask_bytes mask, at16_word]
  case addExtra amount =>
    exact ⟨_, fun _ => fits_fixed rfl rfl, congrArg (fun n => some (_, actAddExtra n)) (at16_word amount), fun _ => rfl⟩
  case scanNotes start mask urgent origin =>
    exact ⟨_, fun _ => fits_fixed rfl rfl, congrArg (fun n => some (_, actScanNotes start.toNat mask.toNat urgent.toNat n))
      (at16_word origin), fun _ => rfl⟩
  case cancelAlarm c =>
    exact ⟨_, fun _ => fits_fixed rfl rfl, congrArg (fun n => some (_, actCancelAlarm n)) (at16_word c), fun _ => rfl⟩
  case go => exact ⟨_, fun _ => fits_none rfl, rfl, fun _ => rfl⟩
  case senseEvent => exact ⟨_, fun _ => fits_none rfl, rfl, fun _ => rfl⟩
  case readStatus tp => exact ⟨_, fun _ => fits_none rfl, rfl, fun _ => rfl⟩
  case readChannelStats => exact ⟨_, fun _ => fits_none rfl, rfl, fun _ => rfl⟩
  case stop => exact ⟨_, fun _ => fits_none rfl, rfl, fun _ => rfl⟩
  case resume => exact ⟨_, fun _ => fits_none rfl, rfl, fun _ => rfl⟩
  case readFare => exact ⟨_, fun _ => fits_none rfl, rfl, fun _ => rfl⟩
  case startShift => exact ⟨_, fun _ => fits_none rfl, rfl, fun _ => rfl⟩
  case endShift => exact ⟨_, fun _ => fits_none rfl, rfl, fun _ => rfl⟩
  case readTotals => exact ⟨_, fun _ => fits_none rfl, rfl, fun _ => rfl⟩
  case clearOutbox => exact ⟨_, fun _ => fits_none rfl, rfl, fun _ => rfl⟩
  case raiseAlarm => exact ⟨_, fun _ => fits_none rfl, rfl, fun _ => rfl⟩
  all_goals exact ⟨_, fun _ => fits_fixed rfl rfl, rfl, fun _ => rfl⟩

/-! ## The port on the bytes of a command -/

/-- The port's own fields of a state. -/
def portOf (s : State) : Port :=
  ⟨s.cpt.phase, s.cpt.code, s.cpt.params, s.cpt.abandonAt, s.cpt.result, s.cpt.phaseError, s.cpt.muted, s.cpt.sdo,
    s.pins.csnLow⟩

theorem withPort_portOf (s : State) : withPort s (portOf s) = s := rfl

/-- The status byte, the phase and PHASE-ERROR as given. -/
def statusIn (s : State) (phase : Phase) (err : Bool) : Byte :=
  byte (flagBits [s.inRun, s.cau.blocked, err, !s.cpt.events.isEmpty, phase == .result, phase == .exec, phase == .param,
    phase == .ready])

/-- The port after a command that was taken with this status byte. -/
def answered (v : Port) (result : List Byte) : Port :=
  { v with phase := .result, code := 0, params := [], abandonAt := none, result := result }

/-- What a command answers: its act's answer, or STATE in a part state that does not accept it (R185). -/
def answerOf (g : CmdGroup) (act : Act) (s : State) : State × List Byte :=
  if g.accepts s.cpt.part then act s else refuse .state s

theorem blind_answerOf {act : Act} (g : CmdGroup) (h : blind act) : blind (answerOf g act) := fun s v => by
  simp only [answerOf, withPort_part, h s v]
  split <;> rfl

theorem runAct_withPort (s : State) (v : Port) (g : CmdGroup) (act : Act) (h : blind act) :
    (withPort s v).runAct g act = withPort (answerOf g act s).1 (answered v (answerOf g act s).2) := by
  have hr := blind_answerOf g h s { v with phase := .exec, code := 0, params := [], abandonAt := none }
  calc (withPort s v).runAct g act
      = (answerOf g act (withPort s { v with phase := .exec, code := 0, params := [], abandonAt := none })).1.setCpt
          ((answerOf g act (withPort s { v with phase := .exec, code := 0, params := [], abandonAt := none })).1.cpt.enterResult
            (answerOf g act (withPort s { v with phase := .exec, code := 0, params := [], abandonAt := none })).2) := rfl
    _ = _ := by
      rw [hr]
      rfl

theorem runCommand_withPort (s : State) (v : Port) {code : Byte} {p : List Byte} {g : CmdGroup} {act : Act}
    (h : actOf code.toNat p = some (g, act)) :
    (withPort s v).runCommand code p = withPort (answerOf g act s).1 (answered v (answerOf g act s).2) := by
  have hc : (code == 0x12) = false := by
    rw [beq_eq_false_iff_ne]
    rintro rfl
    cases h
  rw [State.runCommand, hc, h]
  exact runAct_withPort s v g act (actOf_blind h)

/-- A powered part takes a byte by its phase when CSN has fallen for it, or is low in a transaction that is not muted
(R179, R188). -/
theorem hostByte_phase {s : State} {first : Bool} (b : Byte) (hp : s.powered = true)
    (h : first = true ∨ (s.pins.csnLow = true ∧ s.cpt.muted = .off)) :
    s.hostByte first b = ((s.setCsn true).setCpt { s.cpt with muted := .off }).phaseByte first b := by
  obtain rfl | ⟨hc, hm⟩ := h
  · simp [State.hostByte, State.clockedHigh, State.lowByte, State.setCsn, hp]
  · simp [State.hostByte, State.clockedHigh, State.lowByte, State.setCsn, hp, hc, hm]

/-- The port with one more parameter byte collected (R182). -/
def oneMore (s : State) (v : Port) (b : Byte) : Port :=
  { v with
    params := v.params ++ [b]
    abandonAt := some (s.now + 100 * ms)
    sdo := statusIn s .param v.phaseError }

/-- One more parameter byte (R182). -/
theorem paramByte_withPort (s : State) (v : Port) (b : Byte) (hp : s.powered = true) (hv : v.phase = .param)
    (hm : v.muted = .off) (hc : v.csnLow = true) :
    (withPort s v).hostByte false b =
      if ((shapeOf v.code).map (·.complete (v.params ++ [b]))).getD true then
        (withPort s { v with sdo := statusIn s .param v.phaseError }).runCommand v.code (v.params ++ [b])
      else withPort s (oneMore s v b) := by
  obtain ⟨phase, code, params, abandonAt, result, phaseError, muted, sdo, csnLow⟩ := v
  subst hv hm hc
  exact hostByte_phase b hp (.inr ⟨rfl, rfl⟩)

/-- The parameter bytes of a code, one after the other, and the command with the last (R182). -/
theorem laterBytes_withPort (s : State) (v : Port) (l : List Byte) {sh : ParamShape} {g : CmdGroup} {act : Act}
    (hp : s.powered = true) (hv : v.phase = .param) (hm : v.muted = .off) (hc : v.csnLow = true)
    (hs : shapeOf v.code = some sh) (ha : actOf v.code.toNat (v.params ++ l) = some (g, act)) (hl : l ≠ [])
    (hk : ∀ k, 0 < k → k ≤ l.length → sh.complete (v.params ++ l.take k) = decide (k = l.length)) :
    (withPort s v).laterBytes l = withPort (answerOf g act s).1
      (answered { v with sdo := statusIn s .param v.phaseError } (answerOf g act s).2) := by
  induction l generalizing v with
  | nil => exact absurd rfl hl
  | cons b l ih =>
    have h1 := hk 1 Nat.one_pos (Nat.succ_le_succ (Nat.zero_le _))
    rw [List.take_one] at h1
    rw [State.laterBytes, List.foldl_cons, paramByte_withPort s v b hp hv hm hc, hs]
    cases l with
    | nil =>
      simp only [Option.map_some, Option.getD_some]
      rw [if_pos (by simpa using h1)]
      exact runCommand_withPort s { v with sdo := statusIn s .param v.phaseError } ha
    | cons c l =>
      simp only [Option.map_some, Option.getD_some]
      rw [if_neg (by simpa using h1)]
      refine ih (oneMore s v b) hv hm hc hs (by simpa [oneMore] using ha) (List.cons_ne_nil _ _) fun k h0 hk' => ?_
      have := hk (k + 1) (Nat.succ_pos _) (Nat.succ_le_succ hk')
      simpa [oneMore] using this

/-- The port that a command leaves in RESULT with CSN high again, taken with this status byte. -/
def restingPort (sdo : Byte) (result : List Byte) : Port := ⟨.result, 0, [], none, result, false, .off, sdo, false⟩

theorem statusIn_lastStatus (s : State) (params : List Byte) :
    (if params = [] then statusIn s .ready s.cpt.phaseError else statusIn s .param false)
      = s.lastStatus (!params.isEmpty) := by
  cases params <;> rfl

theorem answering_eq (u s : State) (c : Bool) (result : List Byte) :
    u.answering s c result = withPort u (restingPort (s.lastStatus c) result) := rfl

/-- A command on a powered READY port: its act's answer, and the port in RESULT (R179 to R185). -/
theorem hostCommand_answering {s : State} {code : Byte} {params : List Byte} {g : CmdGroup} {act : Act} (hb : blind act)
    (hp : s.powered = true) (hr : s.cpt.phase = .ready) :
    s.hostCommand code params g act
      = (answerOf g act s).1.answering s (!params.isEmpty) (answerOf g act s).2 := by
  rw [hostCommand_ready s code params g act hp hr, answering_eq, ← statusIn_lastStatus]
  cases params with
  | nil =>
    have hrun := runAct_withPort s
      { portOf s with phaseError := false, muted := .off, sdo := statusIn s s.cpt.phase s.cpt.phaseError } g act hb
    rw [if_pos rfl, ← hr]
    generalize answerOf g act s = r at hrun ⊢
    exact congrArg State.csnRise hrun
  | cons b l =>
    have hrun := runAct_withPort s
      { portOf s with phaseError := false, muted := .off, sdo := statusIn s .param false } g act hb
    rw [if_neg (List.cons_ne_nil _ _)]
    generalize answerOf g act s = r at hrun ⊢
    exact congrArg State.csnRise hrun

/-- The bytes of a command in a transaction on a powered READY port (R179 to R184). -/
theorem transaction_answering {s : State} {code : Byte} {params : List Byte} {g : CmdGroup} {act : Act}
    (hf : fits code params) (ha : actOf code.toNat params = some (g, act)) (hp : s.powered = true)
    (hr : s.cpt.phase = .ready) :
    s.transaction (code :: params) = (answerOf g act s).1.answering s (!params.isEmpty) (answerOf g act s).2 := by
  obtain ⟨sh, hs, h⟩ := hf
  have hc : (code == 0) = false := by
    rw [beq_eq_false_iff_ne]
    rintro rfl
    cases hs
  have hb : s.hostByte true code = ((s.setCsn true).setCpt { s.cpt with muted := .off }).sendStatus.readyByte code := by
    rw [hostByte_phase code hp (.inl rfl), State.phaseByte]
    simp only [State.setCpt_cpt, hr]
  rw [State.transaction, hb, answering_eq, ← statusIn_lastStatus]
  unfold State.readyByte
  rw [hc, hs]
  simp only [Bool.false_eq_true, if_false]
  obtain ⟨rfl, rfl⟩ | ⟨h0, hne, hk⟩ := h
  · have hrun := runCommand_withPort s { portOf s with
      phaseError := false, muted := .off, csnLow := true, sdo := statusIn s s.cpt.phase s.cpt.phaseError } ha
    rw [if_pos rfl, ← hr]
    generalize answerOf g act s = r at hrun ⊢
    exact congrArg State.csnRise hrun
  · have hrun := laterBytes_withPort s { portOf s with
      phase := .param, code := code, params := [], abandonAt := some (s.now + 100 * ms), phaseError := false
      muted := .off, csnLow := true, sdo := statusIn s s.cpt.phase s.cpt.phaseError } params hp rfl rfl rfl hs ha hne hk
    rw [if_neg hne]
    generalize answerOf g act s = r at hrun ⊢
    split
    · contradiction
    · next h => exact absurd (Option.some.inj h) h0
    · exact congrArg State.csnRise hrun

/-- A row that is an act of its bytes does what the bytes do, in every phase. -/
theorem rowIs.transaction {i : Instr} {g : CmdGroup} {code : Byte} {params : List Byte} {act : Act}
    (h : rowIs i g code params act) (hw : i.wellFormed = true) (s : State) :
    exec i s = .next ((i.sampled s).transaction (code :: params)) := by
  rw [h.run]
  by_cases hp : (i.sampled s).powered = true ∧ (i.sampled s).cpt.phase = .ready
  · obtain ⟨hp, hr⟩ := hp
    rw [hostCommand_answering (actOf_blind h.decoded) hp hr, transaction_answering (h.fits hw) h.decoded hp hr]
  · have : ((i.sampled s).powered && (i.sampled s).cpt.phase == .ready) = false := by simpa using hp
    rw [State.hostCommand, this, if_neg Bool.false_ne_true]

/-- Settles O44: a command row is the transaction of its bytes. -/
theorem commandRowsAreTheirBytes : Obligations.CommandRowsAreTheirBytes := by
  intro i s g code params hi hw
  refine ⟨?_, State.csnRise_sdoPin _⟩
  by_cases hr : ∃ low, i = .restart low
  · obtain ⟨low, rfl⟩ := hr
    cases hi
    rfl
  · obtain ⟨act, h⟩ := rowIs_of_command hi fun low he => hr ⟨low, he⟩
    exact h.transaction hw s

end Sys2Proof
end

section
/-! PROOFS. What the commands' acts keep (R185). -/

namespace Sys2Proof
open Sys2Proof.Machine

section
variable {G H : Frame → Prop} {Q : Prop}

/-! ## Configuration -/

/-- A change of the part state, the station or the events outside RUN. -/
theorem setCpt_keeps_config (s : State) (p : PartState) (c : Option Station) (t : Nat) (hp : s.cpt.part = .config) :
    Keeps G H Q s (s.setCpt { s.cpt with part := p, config := c, goTime := t }) where
  pending := rfl
  powered := rfl
  pins := rfl
  port := ⟨rfl, rfl, rfl, rfl, rfl, rfl⟩
  panic := ⟨rfl, rfl⟩
  store := id
  totals := id
  counters := id
  trip := id
  limits := id
  window := id
  relayed := id
  held := id
  hunt := id
  sizes := id
  events := id
  boardKeys := id
  claims := id
  inboxKeys := id
  alarmKeys := id
  quiet := fun _ ⟨he, _⟩ => by
    obtain ⟨h1, h2, h3, h4⟩ := he hp
    refine ⟨fun _ => ⟨h1, h2, h3, h4⟩, ?_, ?_⟩
    · rw [State.setCpt_ppu, slotsDistinct, h4]
      exact List.Pairwise.nil
    · rw [State.setCpt_ppu, h4]
      exact fun _ h => absurd h List.not_mem_nil
  run := fun h => absurd hp (not_config_of_run h)

theorem configure_keeps (s : State) (c : Station) (hp : s.cpt.part = .config) :
    Keeps G H Q s (s.setCpt { s.cpt with config := some c }).flashUpdate :=
  .after (flashUpdate_keeps _) (setCpt_keeps_config s s.cpt.part (some c) s.cpt.goTime hp)

theorem loadTariff_keeps (s : State) (i : Nat) (t : Tariff) (hr : t.inRange = true) (hd : t.dpOk s.ret.k = true) :
    Keeps G H Q s (s.setRet { s.ret with tariffs := slotPut s.ret.tariffs i t }) := by
  refine setRet_keeps s _ id id (fun ⟨⟨hk, hf⟩, h⟩ => ⟨⟨hk, fun x hx => ?_⟩, h⟩) ⟨slotPut_length _ _ _, rfl⟩
  obtain rfl | hx := mem_slotPut _ _ _ _ hx
  · exact ⟨hr, hd⟩
  · exact hf x hx

theorem loadSurcharge_keeps (s : State) (i n : Nat) :
    Keeps G H Q s (s.setRet { s.ret with surcharges := s.ret.surcharges.set i n }) :=
  setRet_keeps s _ id id id ⟨rfl, List.length_set⟩

theorem setPulse_keeps (s : State) (k : Nat) (h1 : 500 ≤ k) (h2 : k ≤ 65000)
    (hd : ∀ t ∈ slotEntries s.ret.tariffs, t.dpOk (some k) = true) :
    Keeps G H Q s (s.setRet { s.ret with
      k := some k, totalRem := 0, trip := s.ret.trip.map fun t => { t with rem := 0 } }) := by
  refine setRet_keeps s _ id id (fun ⟨⟨_, hf⟩, hrun, ht⟩ => ⟨⟨fun x hx => ?_, fun x hx => ⟨(hf x hx).1, hd x hx⟩⟩, ?_, ?_⟩) ⟨rfl, rfl⟩
  · cases hx
    exact ⟨h1, h2⟩
  · rw [← hrun, Option.isSome_map]
  · intro t h
    obtain ⟨x, hx, rfl⟩ := Option.map_eq_some_iff.mp h
    exact ht x hx

theorem cauGo_keeps (s : State) : Keeps G H Q s s.cauGo := cauRest_keeps s _ rfl rfl rfl

theorem startEvent_keeps (s : State) : Keeps G H Q s s.startEvent := by
  unfold State.startEvent
  dsimp only
  split
  · exact .after (setRet_keeps_rest _ _ rfl rfl id ⟨rfl, rfl, rfl⟩ rfl rfl) (raiseEvent_keeps s _ _ _)
  · exact raiseEvent_keeps s _ _ _

theorem goRun_keeps (s : State) (hp : s.cpt.part = .config) : Keeps G H Q s s.goRun :=
  .after (alarmGo_keeps _) (.after (startEvent_keeps _) (.after (firstBeacon_keeps _) (.after (resumeHunt_keeps _)
    (.after (cauGo_keeps _) (setCpt_keeps_config s .run s.cpt.config s.now hp)))))

theorem sensed_keeps (s : State) : Keeps G H Q s (s.setCpt { s.cpt with events := s.cpt.events.tail, overflow := false }) where
  pending := rfl
  powered := rfl
  pins := rfl
  port := ⟨rfl, rfl, rfl, rfl, rfl, rfl⟩
  panic := ⟨rfl, rfl⟩
  store := id
  totals := id
  counters := id
  trip := id
  limits := id
  window := id
  relayed := id
  held := id
  hunt := id
  sizes := id
  events := fun h => eventsLaw.sublist h (List.tail_sublist _)
  boardKeys := id
  claims := id
  inboxKeys := id
  alarmKeys := id
  quiet := fun _ => id
  run := fun h => ⟨h, rfl⟩

/-! ## Driver and trips -/

theorem invalidFix_keeps (s : State) : Keeps G H Q s s.invalidFix := setPpu_keeps_peers s _ rfl rfl

theorem setDriver_keeps (s : State) (d : DriverStatus) : Keeps G H Q s (s.setDriver d) :=
  .after (recompute_keeps _) (.after (idleUpdate_keeps _) (setFre_keeps s _))

theorem modTrip_keeps (s : State) (f : Trip → Trip) (h : ∀ t, t.law → (f t).law) : Keeps G H Q s (s.modTrip f) := by
  refine setRet_keeps s _ id id (fun ⟨hf, hrun, ht⟩ => ⟨hf, by rw [← hrun, Option.isSome_map], fun t e => ?_⟩) ⟨rfl, rfl⟩
  obtain ⟨x, hx, rfl⟩ := Option.map_eq_some_iff.mp e
  exact h x (ht x hx)

theorem hireNotice_keeps (s : State) : Keeps G H Q s s.hireNotice :=
  .after (modTrip_keeps _ _ fun _ => id) (hireBoard_keeps s)

/-- A trip under figures in range starts in its ranges: Dp and Θ are at least 1 (R112, R116). -/
theorem newTrip_law {r : Retained} {tariff i k : Nat} {t : Tariff} (shiftTime : Nat) (h : r.figuresLaw)
    (ht : slotGet r.tariffs i = some t) (hk : r.k = some k) : (newTrip tariff t k shiftTime).law := by
  obtain ⟨hks, hts⟩ := h
  obtain ⟨hk1, -⟩ := hks k hk
  obtain ⟨hr, -⟩ := hts t (slotGet_mem _ _ _ ht)
  simp only [Tariff.inRange, Bool.and_eq_true, decide_eq_true_eq] at hr
  obtain ⟨⟨⟨⟨⟨⟨-, -⟩, hd⟩, -⟩, hi⟩, -⟩, -⟩ := hr
  have hdp : 1 ≤ pulsesPerIncrement t.incDist k := by
    have := Nat.mul_le_mul hd hk1
    unfold pulsesPerIncrement
    omega
  have htheta : 1 ≤ pulsesPerIncrement t.incDist k * t.incTime := Nat.mul_pos hdp hi
  exact ⟨htheta, htheta, Nat.zero_le _, Nat.zero_le _, Nat.zero_le _⟩

theorem startTrip_keeps (s : State) (t : Trip) (ht : s.ret.figuresLaw → t.law) : Keeps G H Q s (s.startTrip t) := by
  have h : Keeps G H Q s (s.setRet { s.ret with fare := .hired, trip := some t }) :=
    setRet_keeps s _ id id (fun ⟨hf, _⟩ => ⟨hf, rfl, fun _ e => by cases e; exact ht hf⟩) ⟨rfl, rfl⟩
  unfold State.startTrip
  refine .after (recompute_keeps _) (.after (startSecond_keeps _) (.after (surchargeTest_keeps _)
    (.after (idleUpdate_keeps _) ?_)))
  split
  · exact .after (hireNotice_keeps _) h
  · exact h

theorem stopTrip_keeps (s : State) (h : s.ret.fare.running = true) : Keeps G H Q s s.stopTrip :=
  .after (setFare_keeps _ _ h.symm) (.after (modTrip_keeps _ _ fun _ => id) (stopSecond_keeps s))

theorem resumeTrip_keeps (s : State) (h : s.ret.fare = .total) : Keeps G H Q s s.resumeTrip := by
  have hr : Keeps G H Q s (s.setRet { s.ret with
      fare := if s.ret.alarm == .alerting then .held else .hired
      trip := s.ret.trip.map fun t => { t with bucket := 0 } }) := by
    refine setRet_keeps s _ id id (fun ⟨hf, hrun, ht⟩ => ⟨hf, ?_, fun t e => ?_⟩) ⟨rfl, rfl⟩
    · rw [Option.isSome_map, hrun, h]
      split <;> rfl
    · obtain ⟨x, hx, rfl⟩ := Option.map_eq_some_iff.mp e
      obtain ⟨h1, h2, h3, -, h5⟩ := ht x hx
      exact ⟨h1, h2, h3, Nat.zero_le _, h5⟩
  exact .after (recompute_keeps _) (.after (surchargeTest_keeps _) (.after (startSecond_keeps _) hr))

theorem endTrip_keeps (s : State) : Keeps G H Q s ((s.setRet { s.ret with trip := none }).setFare .vacant) := by
  have h : Keeps G H Q s (s.setRet { s.ret with trip := none, fare := .vacant }) :=
    setRet_keeps s _ id id (fun ⟨hf, _⟩ => ⟨hf, rfl, fun _ e => by cases e⟩) ⟨rfl, rfl⟩
  exact .after (recompute_keeps _) (.after (idleUpdate_keeps _) h)

theorem settleTrip_keeps (s : State) (r : TripRecord) (h : r.number ≤ cap16) : Keeps G H Q s (s.settleTrip r) :=
  .after (endTrip_keeps _) (.after (tallyIfHome_keeps _) (bookTrip_keeps s r h))

theorem addExtra_keeps (s : State) (t : Trip) (n : Nat) (ht : s.ret.trip = some t) (hl : t.extras.length < 8) :
    Keeps G H Q s (s.setPriced { t with extras := t.extras ++ [n] }) := by
  refine setPriced_keeps s t _ ht fun ⟨h1, h2, h3, h4, _⟩ => ⟨h1, h2, h3, h4, ?_⟩
  rw [List.length_append, List.length_singleton]
  omega

theorem openShift_keeps (s : State) : Keeps G H Q s s.openShift := by
  refine .after (recompute_keeps _) (.after (setTtl_keeps _ _) (setRet_keeps s _ (fun h => ?_) id id ⟨rfl, rfl⟩))
  obtain ⟨-, h2, -, h4, -, h6, -, h8⟩ := h
  exact ⟨Nat.zero_le _, h2, Nat.zero_le _, h4, Nat.zero_le _, h6, Nat.zero_le _, h8⟩

theorem closeShift_keeps (s : State) : Keeps G H Q s s.closeShift :=
  .after (tallyIfHome_keeps _) (.after (recompute_keeps _) (.after (setTtl_keeps _ _)
    (setRet_keeps_rest s _ rfl rfl id ⟨rfl, rfl, rfl⟩ rfl rfl)))

/-! ## Offers, notes and the own alarm -/

theorem acceptEntry_keeps (s : State) (slot : Nat) (e : BoardEntry) (h : slotGet s.ofb.slots slot = some e) :
    Keeps G H Q s (s.acceptEntry slot e) := by
  unfold State.acceptEntry
  split
  · exact claim_keeps s slot _ (fitsSlot_rest _ h rfl rfl rfl)
  · exact putEntry_keeps s slot _ (fitsSlot_rest _ h rfl rfl rfl)

theorem passEntry_keeps (s : State) (slot : Nat) (e : BoardEntry) (h : slotGet s.ofb.slots slot = some e) :
    Keeps G H Q s ((s.putEntry slot e.pass).dropClaim e) :=
  .after (dropClaim_keeps _ _) (putEntry_keeps s slot _ (fitsSlot_rest _ h rfl rfl rfl))

theorem postNote_keeps (s : State) (slot : Nat) (p : Posted) : Keeps G H Q s (s.postNote slot p) := by
  have hid : Keeps G H Q s (s.nextDraw.setRet { s.ret with noteId := next8 s.ret.noteId }) :=
    .after (setRet_keeps_rest s.nextDraw { s.ret with noteId := next8 s.ret.noteId } rfl rfl
      (fun ⟨h1, h2, h3, _, h5⟩ => ⟨h1, h2, h3, next8_le _, h5⟩) ⟨rfl, rfl, rfl⟩ rfl rfl) (nextDraw_keeps s)
  exact .after (offer_keeps _ _) (.after (putOut_keeps _ _ _) hid)

theorem markNote_keeps (s : State) (slot : Nat) (r : InNote) (h : slotGet s.nts.inbox slot = some r) :
    Keeps G H Q s (s.markNote slot r) := by
  unfold State.markNote
  dsimp only
  split
  · exact .after (offer_keeps _ _) (putIn_keeps s slot r _ h rfl)
  · exact putIn_keeps s slot r _ h rfl

theorem clearedOutbox_keeps (s : State) : Keeps G H Q s (s.setNts { s.nts with outbox := clearedOutbox s.nts.outbox }) :=
  setNts_keeps s _ rfl (List.length_map _) rfl id

theorem codeGiven_keeps (s : State) (code : Nat) : Keeps G H Q s (s.codeGiven code) := by
  unfold State.codeGiven
  split
  · exact enterEnding_keeps s
  split
  · exact enterCovert_keeps s
  · exact .refl s

/-! ## Every command -/

theorem config_of_accepts {s : State} (h : CmdGroup.config.accepts s.cpt.part = true) : s.cpt.part = .config := by
  simpa [CmdGroup.accepts] using h

theorem loadZone_keeps (s : State) (i : Nat) (z : Zone) :
    Keeps G H Q s (s.setPpu { s.ppu with zones := slotPut s.ppu.zones i z }) :=
  setPpu_keeps_peers s _ (slotPut_length _ _ _) rfl

theorem actOf_keeps {code : Nat} {p : List Byte} {g : CmdGroup} {act : Act} (h : actOf code p = some (g, act)) {s : State}
    (hg : g.accepts s.cpt.part = true) : Answers (Keeps G H Q s) s (act s) := by
  have hr := Keeps.refl (G := G) (H := H) (Q := Q) s
  unfold actOf at h
  split at h <;> cases h
  · exact actConfigure_answers _ _ _ _ (configure_keeps s _ (config_of_accepts hg))
  · exact actLoadZone_answers _ (loadZone_keeps s _ _)
  · exact actLoadTariff_answers _ _ (loadTariff_keeps s _ _)
  · exact actLoadSurcharge_answers _ _ (loadSurcharge_keeps s _ _)
  · exact actSetPulse_answers _ (setPulse_keeps s _)
  · exact actGo_answers (goRun_keeps s (config_of_accepts hg))
  · exact actSense_answers (sensed_keeps s)
  · exact actReadStatus_answers hr
  · exact actReadStats_answers hr
  · exact actSetPosition_answers _ _ (validFix_keeps s _) (invalidFix_keeps s)
  · exact actSetDriver_answers _ (setDriver_keeps s)
  · exact actReadPeer_answers _ hr
  · exact actReadOffer_answers _ hr
  · exact actScanOffers_answers _ _ _ _ hr
  · exact actAcceptOffer_answers _ hr fun e he _ => acceptEntry_keeps s _ e he
  · exact actPassOffer_answers _ fun e he _ => passEntry_keeps s _ e he
  · exact actReleaseJob_answers _ fun slot e r he => dropJob_keeps s slot e r (fitsSlot_of (jobEntry_slot he) rfl id)
  · exact actHire_answers _ fun t k _ ht hk => startTrip_keeps s _ fun hf => newTrip_law _ hf ht hk
  · refine actStop_answers (fun t hf ht => ?_) fun t hf ht => ?_
    · refine .after (stopTrip_keeps _ ?_) (setEarned_keeps s t _ ht (settlePart_law _))
      rw [(setEarned_trip s t _).1, hf]
      rfl
    · refine .after (stopTrip_keeps _ ?_) (setTrip_keeps s t _ ht id)
      rw [State.setTrip_ret, hf]
      rfl
  · exact actResume_answers (resumeTrip_keeps s)
  · exact actSettle_answers _ fun t _ _ => settleTrip_keeps s _ (nextTrip_le _)
  · exact actAddExtra_answers _ fun t ht hl => addExtra_keeps s t _ ht hl
  · exact actReadFare_answers hr
  · exact actStartShift_answers fun _ => openShift_keeps s
  · exact actEndShift_answers fun _ => closeShift_keeps s
  · exact actReadTotals_answers hr
  · exact actReadTrip_answers _ hr
  · exact actPostNote_answers _ fun slot => postNote_keeps s slot _
  · exact actReadNote_answers _ _ hr
  · exact actScanNotes_answers _ _ _ _ hr
  · exact actMarkRead_answers _ hr fun r h => markNote_keeps s _ r h
  · exact actDeleteNote_answers _ hr fun r h => putIn_keeps s _ r _ h rfl
  · exact actReadOutbox_answers _ hr
  · exact actClearOutbox_answers (clearedOutbox_keeps s)
  · exact actRaiseAlarm_answers fun _ => enterAlerting_keeps s
  · exact actCancelAlarm_answers _ fun _ => codeGiven_keeps s _
  · exact actReadAlarm_answers _ hr

end
end Sys2Proof
end

section
/-! PROOFS. Every step keeps the laws of the store, the queue, the port, the tables and the channel. -/

namespace Sys2Proof
open Sys2Proof.Machine

/-! ## The laws from one state to the next -/

/-- Each law that holds of the one state holds of the next, and the rows that wait are the same. -/
structure Lawful (s t : State) : Prop where
  pending : t.pending = s.pending
  store : s.storeLaw → t.storeLaw
  totals : s.ret.totalsLaw → t.ret.totalsLaw
  counters : s.ret.countersLaw → t.ret.countersLaw
  trip : s.ret.tripLaw → t.ret.tripLaw
  limits : s.cau.queueLaw → t.cau.queueLaw
  window : s.cau.windowLaw → t.cau.windowLaw
  phase : s.cpt.phaseLaw → t.cpt.phaseLaw
  events : s.cpt.eventLaw → t.cpt.eventLaw
  sizes : s.sizeLaw → t.sizeLaw
  csn : s.csnLaw → t.csnLaw
  filter : s.filterLaw → t.filterLaw
  hunt : s.rru.windowLaw → t.rru.windowLaw
  boardKeys : s.ofb.keyLaw → t.ofb.keyLaw
  claims : s.ofb.claimLaw → t.ofb.claimLaw
  inboxKeys : s.nts.keyLaw → t.nts.keyLaw
  alarmKeys : s.emu.keyLaw → t.emu.keyLaw
  channel : s.relayLaw ∧ s.peerLaw → t.relayLaw ∧ t.peerLaw

theorem Lawful.trans {s t u : State} (h : Lawful s t) (k : Lawful t u) : Lawful s u where
  pending := k.pending.trans h.pending
  store := k.store ∘ h.store
  totals := k.totals ∘ h.totals
  counters := k.counters ∘ h.counters
  trip := k.trip ∘ h.trip
  limits := k.limits ∘ h.limits
  window := k.window ∘ h.window
  phase := k.phase ∘ h.phase
  events := k.events ∘ h.events
  sizes := k.sizes ∘ h.sizes
  csn := k.csn ∘ h.csn
  filter := k.filter ∘ h.filter
  hunt := k.hunt ∘ h.hunt
  boardKeys := k.boardKeys ∘ h.boardKeys
  claims := k.claims ∘ h.claims
  inboxKeys := k.inboxKeys ∘ h.inboxKeys
  alarmKeys := k.alarmKeys ∘ h.alarmKeys
  channel := k.channel ∘ h.channel

/-- A change of the port's own fields. -/
theorem withPort_lawful (s : State) (v : Port)
    (hp : s.cpt.phaseLaw → v.phase ≠ .exec ∧ (v.phase = .result ↔ v.result ≠ []) ∧ (v.phase = .param ↔ v.abandonAt.isSome = true)
      ∧ (v.phase ≠ .param → v.code = 0 ∧ v.params = []))
    (hc : s.csnLaw → v.muted = .on → v.csnLow = true) : Lawful s (withPort s v) where
  pending := rfl
  store := id
  totals := id
  counters := id
  trip := id
  limits := id
  window := id
  phase := hp
  events := id
  sizes := id
  csn := hc
  filter := id
  hunt := id
  boardKeys := id
  claims := id
  inboxKeys := id
  alarmKeys := id
  channel := id

theorem Lawful.refl (s : State) : Lawful s s := withPort_lawful s (portOf s) id id

/-! ## From the acts of the blocks -/

/-- A relayed frame in the queue of a running part (R35, R42). -/
def goodRelay (s : State) (f : Frame) : Prop := s.cpt.part = .run ∧ f.origin ≠ s.ownId ∧ f.hops ≤ 2

/-- A frame in a hold of a running part (R35, R42). -/
def goodHold (s : State) (f : Frame) : Prop := s.cpt.part = .run ∧ f.origin ≠ s.ownId ∧ 1 ≤ f.hops ∧ f.hops ≤ 3

/-- What the acts of reception and relay need at the state of the row: the laws of CONFIG, and that a frame in a hold or a frame
being taken may go on. -/
structure admits (G H : Frame → Prop) (Q : Prop) (s : State) : Prop where
  quiet : Q → emptyLaw s
  release : ∀ h ∈ slotEntries s.rru.holds, G (h.frame.relayCopy s.ownId)
  take : s.rru.rx = .taking → holdable H s

theorem PartState.eq_run {p : PartState} (h : p ≠ .config) : p = .run := by
  cases p
  · exact absurd rfl h
  · rfl

theorem emptyLaw_of_laws {s : State} (h : s.relayLaw ∧ s.peerLaw) : emptyLaw s := fun hc => by
  obtain ⟨⟨he, -, -⟩, -, -, hp⟩ := h
  obtain ⟨h1, h2, h3⟩ := he hc
  exact ⟨h1, h2, h3, hp hc⟩

theorem admits_of_laws {s : State} (h : s.relayLaw ∧ s.peerLaw) : admits (goodRelay s) (goodHold s) (emptyLaw s) s where
  quiet := id
  release x hx := by
    obtain ⟨⟨he, -, hh⟩, -⟩ := h
    obtain ⟨ho, h1, h3⟩ := hh x hx
    refine ⟨PartState.eq_run fun hc => ?_, ho, by show x.frame.hops - 1 ≤ 2; omega⟩
    rw [(he hc).2.1] at hx
    exact List.not_mem_nil hx
  take hx f ho h1 h3 := by
    obtain ⟨⟨he, -, -⟩, -⟩ := h
    refine ⟨PartState.eq_run fun hc => ?_, ho, h1, h3⟩
    cases hx.symm.trans (he hc).2.2

theorem admits_true (s : State) : admits (fun _ => True) (fun _ => True) False s :=
  ⟨False.elim, fun _ _ => trivial, fun _ _ _ _ _ => trivial⟩

theorem Keeps.channel {s t : State} (k : Keeps (goodRelay s) (goodHold s) (emptyLaw s) s t) (h : s.relayLaw ∧ s.peerLaw) :
    t.relayLaw ∧ t.peerLaw := by
  have he := emptyLaw_of_laws h
  obtain ⟨⟨_, hq, hh⟩, hd, ho, _⟩ := h
  obtain ⟨ket, hdt, hot⟩ := k.quiet he ⟨he, hd, ho⟩
  have hown (hr : s.cpt.part = .run) : t.ownId = s.ownId := by simp [State.ownId, (k.run hr).2]
  have hrun {α : Type} {x : α} {l : List α} (hl : s.cpt.part = .config → l = []) (hx : x ∈ l) : s.cpt.part = .run :=
    PartState.eq_run fun hc => List.not_mem_nil (hl hc ▸ hx)
  refine ⟨⟨fun hc => ⟨(ket hc).1, (ket hc).2.1, (ket hc).2.2.1⟩, fun e het hr => ?_, fun x hx => ?_⟩, hdt, hot,
    fun hc => (ket hc).2.2.2⟩
  · obtain ⟨hrun', ho', hh'⟩ := k.relayed (fun e hes hr => ⟨hrun (fun hc => (he hc).1) hes, hq e hes hr⟩) e het hr
    rw [hown hrun']
    exact ⟨ho', hh'⟩
  · obtain ⟨hrun', ho', hh'⟩ := k.held (fun x hxs => ⟨hrun (fun hc => (he hc).2.1) hxs, hh x hxs⟩) x hx
    rw [hown hrun']
    exact ⟨ho', hh'⟩

/-- An act of the blocks keeps the laws. -/
theorem lawful_of_keeps {s t : State} (h : ∀ G H Q, admits G H Q s → Keeps G H Q s t) : Lawful s t := by
  have k := h _ _ _ (admits_true s)
  obtain ⟨h1, h2, h3, h4, h5, h6⟩ := k.port
  exact {
    pending := k.pending
    store := k.store
    totals := k.totals
    counters := k.counters
    trip := k.trip
    limits := k.limits
    window := k.window
    phase := by simp only [Cpt.phaseLaw, h1, h2, h3, h4, h5]; exact id
    events := k.events
    sizes := k.sizes
    csn := by simp only [State.csnLaw, h6, k.pins]; exact id
    filter := by simp only [State.filterLaw, k.panic.1, k.panic.2, k.pins, k.powered]; exact id
    hunt := k.hunt
    boardKeys := k.boardKeys
    claims := k.claims
    inboxKeys := k.inboxKeys
    alarmKeys := k.alarmKeys
    channel := fun hl => (h _ _ _ (admits_of_laws hl)).channel hl }

/-! ## Resets and supplies (R11, R141 to R143, R188) -/

theorem recover_fields (r : Retained) : r.recover.tariffs = r.tariffs ∧ r.recover.surcharges = r.surcharges
    ∧ r.recover.life = r.life ∧ r.recover.shift = r.shift ∧ r.recover.tripLog = r.tripLog
    ∧ r.recover.tripCounter = r.tripCounter ∧ r.recover.seq = r.seq ∧ r.recover.noteId = r.noteId
    ∧ r.recover.serial = r.serial ∧ r.recover.k = r.k := by
  unfold Retained.recover Retained.recoverAlarm Retained.recoverFare
  split <;> split <;> exact ⟨rfl, rfl, rfl, rfl, rfl, rfl, rfl, rfl, rfl, rfl⟩

theorem interrupt_law {t : Trip} (h : t.law) : t.interrupt.law := by
  obtain ⟨h1, h2, h3, -, h5⟩ := h
  exact ⟨h1, h2, h3, Nat.zero_le _, h5⟩

theorem recoverAlarm_tripLaw {r : Retained} (h : r.tripLaw) : r.recoverAlarm.tripLaw := by
  unfold Retained.recoverAlarm
  split <;> exact h

theorem recoverFare_tripLaw {r : Retained} (h : r.tripLaw) : r.recoverFare.tripLaw := by
  have hi (hr : r.fare.running = true) : Retained.tripLaw { r with fare := .total, trip := r.trip.map (·.interrupt) } := by
    obtain ⟨hf, hrun, ht⟩ := h
    refine ⟨hf, by rw [Option.isSome_map, hrun, hr]; rfl, fun t e => ?_⟩
    obtain ⟨x, hx, rfl⟩ := Option.map_eq_some_iff.mp e
    exact interrupt_law (ht x hx)
  unfold Retained.recoverFare
  split
  · next hf => exact hi (by rw [hf]; rfl)
  · next hf => exact hi (by rw [hf]; rfl)
  · next hf =>
    obtain ⟨h1, h2, h3⟩ := h
    exact ⟨h1, by rw [h2, hf]; rfl, h3⟩
  · exact h

theorem slotEntries_replicate {α : Type} (n : Nat) : slotEntries (List.replicate n (none : Option α)) = [] := by
  simp [slotEntries]

theorem slotsDistinct_replicate {α κ : Type} (key : α → κ) (n : Nat) :
    slotsDistinct key (List.replicate n (none : Option α)) := by
  rw [slotsDistinct, slotEntries_replicate]
  exact List.Pairwise.nil

/-- The blocks at their reset values keep every law that the store keeps (R188). -/
theorem volatileReset_lawful (s : State) : Lawful s s.volatileReset where
  pending := rfl
  store := id
  totals := id
  counters := id
  trip := id
  limits := fun _ => show Cau.reset.queueLaw by decide
  window := fun _ => show Cau.reset.windowLaw by decide
  phase := fun _ => show (Cpt.reset s.pins.csnLow).phaseLaw by simp [Cpt.phaseLaw, Cpt.reset]
  events := fun _ => ⟨Nat.zero_le _, List.Pairwise.nil, by simp [State.volatileReset, Cpt.reset]⟩
  sizes := fun ⟨_, _, _, _, _, _, _, _, _, h10, h11⟩ =>
    ⟨rfl, rfl, rfl, rfl, rfl, Nat.zero_le _, rfl, rfl, Nat.zero_le _, h10, h11⟩
  csn := fun _ h => by
    simp only [State.volatileReset, Cpt.reset] at h ⊢
    split at h
    · assumption
    · cases h
  filter := fun _ => ⟨fun h => (by cases h), fun h => absurd rfl h.2⟩
  hunt := fun _ w h => by cases h
  boardKeys := fun _ => slotsDistinct_replicate _ 16
  claims := fun _ e he => by
    simp only [State.volatileReset, Ofb.reset, slotEntries_replicate] at he
    exact absurd he List.not_mem_nil
  inboxKeys := fun _ => slotsDistinct_replicate _ 12
  alarmKeys := fun _ => slotsDistinct_replicate _ 4
  channel := fun _ => by
    refine ⟨⟨fun _ => ⟨rfl, slotEntries_replicate 4, rfl⟩, fun e he => absurd he List.not_mem_nil, fun x hx => ?_⟩,
      slotsDistinct_replicate _ 32, fun p hp => ?_, fun _ => slotEntries_replicate 32⟩
    · rw [show slotEntries s.volatileReset.rru.holds = [] from slotEntries_replicate 4] at hx
      exact absurd hx List.not_mem_nil
    · rw [show slotEntries s.volatileReset.ppu.peers = [] from slotEntries_replicate 32] at hp
      exact absurd hp List.not_mem_nil

/-- A new content of the store that keeps the laws of the store. -/
theorem setRet_lawful (s : State) (r : Retained) (ht : s.ret.totalsLaw → r.totalsLaw)
    (hc : s.ret.countersLaw → r.countersLaw) (hr : s.ret.tripLaw → r.tripLaw)
    (hs : s.sizeLaw → r.tariffs.length = 8 ∧ r.surcharges.length = 3) : Lawful s (s.setRet r) where
  pending := rfl
  store := fun _ => rfl
  totals := ht
  counters := hc
  trip := hr
  limits := id
  window := id
  phase := id
  events := id
  sizes := fun h => by
    obtain ⟨k1, k2⟩ := hs h
    obtain ⟨h1, h2, h3, h4, h5, h6, h7, h8, h9, _, _⟩ := h
    exact ⟨h1, h2, h3, h4, h5, h6, h7, h8, h9, k1, k2⟩
  csn := id
  filter := id
  hunt := id
  boardKeys := id
  claims := id
  inboxKeys := id
  alarmKeys := id
  channel := id

theorem recover_lawful (s : State) : Lawful s (s.setRet s.ret.recover) := by
  obtain ⟨h1, h2, h3, h4, h5, h6, h7, h8, h9, -⟩ := recover_fields s.ret
  refine setRet_lawful s _ ?_ ?_ (fun h => recoverAlarm_tripLaw (recoverFare_tripLaw h)) ?_
  · simp only [Retained.totalsLaw, h3, h4]
    exact id
  · simp only [Retained.countersLaw, h5, h6, h7, h8, h9]
    exact id
  · rw [h1, h2]
    rintro ⟨-, -, -, -, -, -, -, -, -, h10, h11⟩
    exact ⟨h10, h11⟩

theorem resetPart_lawful (s : State) : Lawful s s.resetPart :=
  ((recover_lawful s).trans (volatileReset_lawful _)).trans (lawful_of_keeps fun _ _ _ _ => recompute_keeps _)

theorem cleared_lawful (s : State) : Lawful s (s.setRet .cleared) := by
  refine setRet_lawful s _ (fun _ => by decide) (fun _ => by decide) (fun _ => ?_) fun _ => ⟨rfl, rfl⟩
  refine ⟨⟨fun k hk => (by cases hk), fun t ht => ?_⟩, rfl, fun t ht => by cases ht⟩
  rw [show slotEntries Retained.cleared.tariffs = [] from slotEntries_replicate 8] at ht
  exact absurd ht List.not_mem_nil

/-- A change of the supplies that neither switches the filter of PANIC nor rests on it. -/
theorem supply_lawful (s : State) (powered lost : Bool) (u : Ttl) (h : s.filterLaw → { s with powered := powered }.filterLaw) :
    Lawful s { s with powered := powered, storeLost := lost, ttl := u } :=
  { Lawful.refl s with filter := h }

theorem checkStore_lawful (s : State) : Lawful s s.checkStore := by
  unfold State.checkStore
  split
  · exact (cleared_lawful s).trans { Lawful.refl (s.setRet .cleared) with }
  · exact .refl s

/-- A reset, of a part whose filter of PANIC may have run under another supply. -/
theorem powerUp_lawful (s : State) : Lawful s s.powerUp := by
  have h : Lawful s.checkStore { s.checkStore with powered := true }.resetPart := by
    refine { resetPart_lawful { s.checkStore with powered := true } with filter := fun _ => ?_ }
    have k := (lawful_of_keeps fun _ _ _ _ => recompute_keeps
      (({ s.checkStore with powered := true }.setRet s.checkStore.ret.recover).volatileReset)).filter
    exact k ⟨fun h => (by cases h), fun h => absurd rfl h.2⟩
  exact (checkStore_lawful s).trans h

theorem powerDown_lawful (s : State) (vbk : Bool) : Lawful s (s.powerDown vbk) :=
  (volatileReset_lawful s).trans (supply_lawful _ _ _ _ fun _ => ⟨fun h => (by cases h), fun h => absurd rfl h.2⟩)

/-! ## The hidden switch (R164, R165) -/

theorem panicPin_lawful (s : State) (low : Bool) : Lawful s (s.panicPin low) where
  pending := rfl
  store := id
  totals := id
  counters := id
  trip := id
  limits := id
  window := id
  phase := id
  events := id
  sizes := id
  csn := id
  filter := fun _ => by
    simp only [State.filterLaw, State.panicPin_emu, State.panicPin_pins, State.panicPin_powered]
    split <;> simp_all
  hunt := id
  boardKeys := id
  claims := id
  inboxKeys := id
  alarmKeys := id
  channel := id

theorem samplePanic_lawful (s : State) (low : Bool) : Lawful s (s.samplePanic low) := by
  unfold State.samplePanic
  split
  · exact panicPin_lawful s low
  · exact .refl s

/-- The level that the pin has becomes the level in force, and the filter rests. -/
theorem counted_lawful (s : State) (low : Bool) (h : s.pins.panicLow = low) :
    Lawful s (s.setEmu { s.emu with panicLow := low, filterAt := none }) := by
  refine { Lawful.refl s with filter := fun _ => ⟨fun h => (by cases h), fun hf => absurd h hf.2⟩ }

theorem panicLevel_lawful (s : State) (low : Bool) (h : s.pins.panicLow = low) : Lawful s (s.panicLevel low) := by
  have hold (s : State) (t : Option Nat) (a : AlarmState) :
      Lawful s (((s.setEmu { s.emu with holdAt := t }).setAlarm a s.ret.covert).alarmChanged) :=
    lawful_of_keeps fun _ _ _ _ => .after (alarmChanged_keeps _) (.after (setAlarm_keeps _ _ _)
      (setEmu_keeps_own s _ ⟨rfl, rfl⟩ rfl))
  unfold State.panicLevel
  dsimp only
  split
  · exact (counted_lawful s low h).trans (hold _ _ _)
  split
  · exact (counted_lawful s low h).trans (hold _ _ _)
  · exact counted_lawful s low h

/-! ## Bytes on the port (R179 to R185) -/

theorem answerOf_keeps {code : Nat} {p : List Byte} {g : CmdGroup} {act : Act} (h : actOf code p = some (g, act)) (s : State)
    {G H : Frame → Prop} {Q : Prop} : Answers (Keeps G H Q s) s (answerOf g act s) := by
  unfold answerOf
  split
  · next hg => exact actOf_keeps h hg
  · exact .barred

theorem answered_lawful (s : State) (v : Port) (result : List Byte) (hr : result ≠ [])
    (hc : s.csnLaw → v.muted = .on → v.csnLow = true) : Lawful s (withPort s (answered v result)) :=
  withPort_lawful s _ (fun _ => ⟨Phase.noConfusion, ⟨fun _ => hr, fun _ => rfl⟩, ⟨Phase.noConfusion, Bool.noConfusion⟩,
    fun _ => ⟨rfl, rfl⟩⟩) hc

theorem runCommand_lawful (s : State) (code : Byte) (p : List Byte) : Lawful s (s.runCommand code p) := by
  unfold State.runCommand
  split
  · exact resetPart_lawful s
  split
  · next a ha =>
    obtain ⟨g, act⟩ := a
    have hk := fun G H Q => (answerOf_keeps ha s (G := G) (H := H) (Q := Q)).state (.refl s)
    have hcsn : (answerOf g act s).1.csnLaw → s.csnLaw := by
      obtain ⟨_, _, _, _, _, h6⟩ := (hk (fun _ => True) (fun _ => True) False).port
      simp only [State.csnLaw, h6, (hk (fun _ => True) (fun _ => True) False).pins]
      exact id
    rw [show s.runAct g act = withPort (answerOf g act s).1 (answered (portOf s) (answerOf g act s).2) from
      runAct_withPort s (portOf s) g act (actOf_blind ha)]
    exact (lawful_of_keeps fun G H Q _ => hk G H Q).trans
      (answered_lawful _ _ _ (answerOf_keeps ha s (G := fun _ => True) (H := fun _ => True) (Q := False)).result hcsn)
  · exact answered_lawful s (portOf s) _ (List.cons_ne_nil _ _) id

/-- A change of the port that its phase does not see. -/
theorem setSdo_lawful (s : State) (err : Bool) (b : Byte) : Lawful s (s.setCpt { s.cpt with phaseError := err, sdo := b }) :=
  withPort_lawful s { portOf s with phaseError := err, sdo := b } id id

theorem discard_lawful (s : State) (b : Byte) : Lawful s (s.discard b) := by
  unfold State.discard
  split
  · exact .refl s
  · exact setSdo_lawful s true s.cpt.sdo

theorem sendStatus_lawful (s : State) : Lawful s s.sendStatus := setSdo_lawful s s.cpt.phaseError _

theorem readyByte_lawful (s : State) (b : Byte) (hs : s.cpt.phase = .ready) : Lawful s (s.readyByte b) := by
  unfold State.readyByte
  split
  · exact .refl s
  split
  · exact withPort_lawful s { portOf s with phase := .result, result := [Completion.invalid.code] }
      (fun ⟨_, _, h3, h4⟩ => ⟨Phase.noConfusion, ⟨fun _ => List.cons_ne_nil _ _, fun _ => rfl⟩,
        ⟨Phase.noConfusion, fun ha => by cases hs.symm.trans (h3.mpr ha)⟩, fun _ => h4 (by rw [hs]; exact Phase.noConfusion)⟩) id
  · exact (setSdo_lawful s false s.cpt.sdo).trans (runCommand_lawful _ _ _)
  · exact withPort_lawful s { portOf s with
      phase := .param, code := b, params := [], phaseError := false, abandonAt := some s.abandonTime }
      (fun ⟨_, h2, _, _⟩ => ⟨Phase.noConfusion, ⟨Phase.noConfusion, fun hr => by cases hs.symm.trans (h2.mpr hr)⟩,
        ⟨fun _ => rfl, fun _ => rfl⟩, fun h => absurd rfl h⟩) id

theorem paramByte_lawful (s : State) (b : Byte) (hs : s.cpt.phase = .param) : Lawful s (s.paramByte b) := by
  unfold State.paramByte
  dsimp only
  split
  · exact runCommand_lawful _ _ _
  · exact withPort_lawful s { portOf s with params := s.cpt.params ++ [b], abandonAt := some s.abandonTime }
      (fun ⟨h1, h2, _, _⟩ => ⟨h1, h2, ⟨fun _ => rfl, fun _ => hs⟩, fun h => absurd hs h⟩) id

theorem resultByte_lawful (s : State) (first : Bool) (b : Byte) (hs : s.cpt.phase = .result) :
    Lawful s (s.resultByte first b) := by
  unfold State.resultByte
  split
  · exact (sendStatus_lawful s).trans (discard_lawful _ _)
  have hres (phase : Phase) (sdo : Byte) (result : List Byte) (h : phase = .ready ∧ result = [] ∨ phase = .result ∧ result ≠ []) :
      Lawful s (withPort s { portOf s with phase := phase, result := result, sdo := sdo }) := by
    refine withPort_lawful s _ (fun ⟨_, _, h3, h4⟩ => ?_) id
    have ha : ¬ s.cpt.abandonAt.isSome = true := fun ha => by cases hs.symm.trans (h3.mpr ha)
    have hn := h4 (by rw [hs]; exact Phase.noConfusion)
    obtain ⟨rfl, rfl⟩ | ⟨rfl, hr⟩ := h
    · exact ⟨Phase.noConfusion, ⟨Phase.noConfusion, fun h => absurd rfl h⟩, ⟨Phase.noConfusion, fun h => absurd h ha⟩, fun _ => hn⟩
    · exact ⟨Phase.noConfusion, ⟨fun _ => hr, fun _ => rfl⟩, ⟨Phase.noConfusion, fun h => absurd h ha⟩, fun _ => hn⟩
  split
  · exact (hres .ready s.cpt.sdo [] (.inl ⟨rfl, rfl⟩)).trans (discard_lawful _ _)
  · next r l _ =>
    cases l with
    | nil => exact (hres .ready r [] (.inl ⟨rfl, rfl⟩)).trans (discard_lawful _ _)
    | cons c l => exact (hres .result r (c :: l) (.inr ⟨rfl, List.cons_ne_nil _ _⟩)).trans (discard_lawful _ _)

theorem phaseByte_lawful (s : State) (first : Bool) (b : Byte) : Lawful s (s.phaseByte first b) := by
  unfold State.phaseByte
  split
  · next h => exact (sendStatus_lawful s).trans (readyByte_lawful s.sendStatus b (by rw [State.sendStatus, State.setCpt_cpt]; exact h))
  · next h => exact (sendStatus_lawful s).trans (paramByte_lawful s.sendStatus b (by rw [State.sendStatus, State.setCpt_cpt]; exact h))
  · exact (sendStatus_lawful s).trans (discard_lawful _ _)
  · next h => exact resultByte_lawful s first b h

theorem setCsn_lawful (s : State) : Lawful s (s.setCsn true) := withPort_lawful s { portOf s with csnLow := true } id fun _ _ => rfl

theorem csnRise_lawful (s : State) : Lawful s s.csnRise :=
  withPort_lawful s { portOf s with csnLow := false, muted := .off } id fun _ => Muting.noConfusion

theorem hostByte_lawful (s : State) (first : Bool) (b : Byte) : Lawful s (s.hostByte first b) := by
  unfold State.hostByte State.lowByte
  dsimp only
  split
  · exact .refl s
  split
  · exact setCsn_lawful s
  split
  · exact (setCsn_lawful s).trans (withPort_lawful _ { portOf s with muted := .on, sdo := 0, csnLow := true } id fun _ _ => rfl)
  · exact ((setCsn_lawful s).trans (withPort_lawful _ { portOf s with muted := .off, csnLow := true } id
      fun _ => Muting.noConfusion)).trans (phaseByte_lawful _ _ _)

theorem transaction_lawful (s : State) (l : List Byte) : Lawful s (s.transaction l) := by
  cases l with
  | nil => exact .refl s
  | cons b l =>
    refine .trans ?_ (csnRise_lawful _)
    unfold State.laterBytes
    have h := hostByte_lawful s true b
    generalize s.hostByte true b = t at h ⊢
    induction l generalizing t with
    | nil => exact h
    | cons c l ih => exact ih _ (h.trans (hostByte_lawful _ _ _))

theorem afterByte_lawful (s : State) (last : Bool) : Lawful s (s.afterByte last) := by
  cases last
  · exact .refl s
  · exact csnRise_lawful s

/-! ## Every row -/

/-- A command row is the transaction of its bytes, the pins as the row finds them. -/
theorem sampled_lawful (i : Instr) (s : State) : Lawful s (i.sampled s) := by
  have htp (tp : Bool) : Lawful s (s.setPins { s.pins with tprotOpen := tp }) := { Lawful.refl s with }
  cases i
  case restart low => exact samplePanic_lawful s low
  case loadTariff tp => exact htp tp
  case loadSurcharge tp => exact htp tp
  case setPulseConstant tp => exact htp tp
  case readStatus tp => exact htp tp
  all_goals exact .refl s

theorem act_lawful {s t : State} (h : ∀ G H Q, Keeps G H Q s t) : Lawful s t := lawful_of_keeps fun G H Q _ => h G H Q

theorem ite_lawful {s t : State} {c : Bool} (h : Lawful s t) : Lawful s (if c then t else s) := by
  cases c
  · exact .refl s
  · exact h

theorem ite_lawful_of {s t : State} {c : Prop} [Decidable c] (h : c → Lawful s t) : Lawful s (if c then t else s) := by
  split
  · next hc => exact h hc
  · exact .refl s

theorem execByte_lawful (s : State) : Lawful s s.execByte := by
  unfold State.execByte
  generalize (s.setCpt { s.cpt with phase := .exec }).statusByte = b
  exact (setCsn_lawful s).trans (setSdo_lawful (s.setCsn true) true b)

theorem partialByte_lawful (s : State) (older : Bool) : Lawful s (s.partialByte older) := by
  unfold State.partialByte
  split
  · exact csnRise_lawful s
  · exact (csnRise_lawful s).trans (setSdo_lawful s.csnRise true s.csnRise.cpt.sdo)

theorem abandon_lawful (s : State) (h : s.cpt.phase = .param) : Lawful s (s.setCpt s.cpt.abandon) :=
  withPort_lawful s { portOf s with phase := .ready, code := 0, params := [], abandonAt := none, phaseError := true }
    (fun ⟨_, h2, _, _⟩ => ⟨Phase.noConfusion, ⟨Phase.noConfusion, fun hr => by cases h.symm.trans (h2.mpr hr)⟩,
      ⟨Phase.noConfusion, Bool.noConfusion⟩, fun _ => ⟨rfl, rfl⟩⟩) id

/-- A level of CD on the pin is seen by none of the laws. -/
theorem setCd_lawful (s : State) (cd : Bool) : Lawful s (s.setCd cd) := { Lawful.refl s with }

theorem cdRise_lawful (s : State) : Lawful s s.cdRise := by
  unfold State.cdRise
  exact (setCd_lawful s true).trans (ite_lawful (act_lawful fun _ _ _ =>
    .after (resumeHunt_keeps _) (cauRest_keeps _ _ rfl rfl rfl)))

theorem admits.run {G H : Frame → Prop} {Q : Prop} {s : State} (ha : admits G H Q s) (hx : s.rru.rx = .taking) (q : Q) :
    s.cpt.part = .run :=
  PartState.eq_run fun hc => by cases hx.symm.trans (ha.quiet q hc).2.2.1

theorem cdFall_lawful (s : State) (taken : List Byte) (further : Nat) : Lawful s (s.cdFall taken further) := by
  unfold State.cdFall
  refine (setCd_lawful s false).trans (ite_lawful (lawful_of_keeps fun G H Q ha => ?_))
  have hc : Keeps G H Q (s.setCd false) (s.setCd false).cauFall := cauRest_keeps _ _ rfl rfl rfl
  refine .after (resumeHunt_keeps _) (.after (fallFrame_keeps _ taken further (fun hx q => ha.run hx q) ha.take) hc)

/-- A command keeps the laws, whether its operands can come about or not. -/
theorem hostCommand_lawful (s : State) (code : Byte) (params : List Byte) {n : Nat} {p : List Byte} {g : CmdGroup} {act : Act}
    (h : actOf n p = some (g, act)) : Lawful s (s.hostCommand code params g act) := by
  by_cases hp : s.powered = true ∧ s.cpt.phase = .ready
  · rw [hostCommand_answering (actOf_blind h) hp.1 hp.2, answering_eq]
    have hk {G H Q} := answerOf_keeps h s (G := G) (H := H) (Q := Q)
    refine (act_lawful fun _ _ _ => hk.state (.refl s)).trans (withPort_lawful _ _ (fun _ => ?_) fun _ => Muting.noConfusion)
    exact ⟨Phase.noConfusion, ⟨fun _ => (hk (G := fun _ => True) (H := fun _ => True) (Q := False)).result, fun _ => rfl⟩,
      ⟨Phase.noConfusion, Bool.noConfusion⟩, fun _ => ⟨rfl, rfl⟩⟩
  · have : (s.powered && s.cpt.phase == .ready) = false := by simpa using hp
    rw [State.hostCommand, this, if_neg Bool.false_ne_true]
    exact transaction_lawful s _

theorem command_lawful {i : Instr} {g : CmdGroup} {code : Byte} {params : List Byte} (h : i.command = some (g, code, params))
    {s t : State} (he : exec i s = .next t) : Lawful s t := by
  by_cases hr : ∃ low, i = .restart low
  · obtain ⟨low, rfl⟩ := hr
    cases he
    exact (samplePanic_lawful s low).trans (transaction_lawful _ _)
  · obtain ⟨act, hi⟩ := rowIs_of_command h fun low he => hr ⟨low, he⟩
    rw [hi.run] at he
    cases he
    exact (sampled_lawful i s).trans (hostCommand_lawful _ _ _ hi.decoded)

theorem frameTaken_lawful (s : State) (bytes : List Byte) (further : Nat) (hx : s.rru.rx = .taking) :
    Lawful s (s.frameTaken bytes further) :=
  lawful_of_keeps fun _ _ _ ha =>
    .after (resumeHunt_keeps _) (judgeFrame_keeps s _ _ _ (ha.run hx) (ha.take hx))

theorem releaseHold_lawful (s : State) (i : Nat) (h : Hold) (hh : slotGet s.rru.holds i = some h) :
    Lawful s (s.releaseHold i h) :=
  lawful_of_keeps fun _ _ _ ha => releaseHold_keeps s i h (ha.release h (slotGet_mem _ _ _ hh)) fun q hc =>
    absurd ((ha.quiet q hc).2.1 ▸ slotGet_mem _ _ _ hh) List.not_mem_nil

/-- A row on a board entry: an act when its condition holds. -/
theorem boardRow_lawful (s : State) (slot : Nat) (c : BoardEntry → Bool) (act : BoardEntry → State)
    (h : ∀ e, slotGet s.ofb.slots slot = some e → ∀ G H Q, Keeps G H Q s (act e)) :
    Lawful s (match slotGet s.ofb.slots slot with
      | some e => if c e then act e else s
      | none => s) := by
  split
  · next e he => exact ite_lawful (act_lawful (h e he))
  · exact .refl s

/-- Every row but a command keeps the laws. -/
theorem event_lawful {i : Instr} (hc : i.command = none) {s t : State} (h : exec i s = .next t) : Lawful s t := by
  cases i
  case powerOn low =>
    cases h
    exact (samplePanic_lawful s low).trans (powerUp_lawful _)
  case resetPin low =>
    cases h
    split
    · exact (samplePanic_lawful s low).trans (resetPart_lawful _)
    · exact samplePanic_lawful s low
  case mainSupplyLoss vbk =>
    cases h
    exact powerDown_lawful s vbk
  case invalid code last =>
    cases h
    exact (hostByte_lawful s true code).trans (afterByte_lawful _ last)
  case resultByte first mosi last =>
    cases h
    exact (hostByte_lawful s first mosi).trans (afterByte_lawful _ last)
  case execByteDiscard last =>
    cases h
    refine .trans ?_ (afterByte_lawful _ last)
    split
    · exact execByte_lawful s
    · exact setCsn_lawful s
  case partialByte older =>
    cases h
    exact partialByte_lawful s older
  case abandonmentTimer =>
    cases h
    refine ite_lawful_of fun hc => abandon_lawful s ?_
    simp only [Bool.and_eq_true, beq_iff_eq] at hc
    exact hc.1.2
  case cdRise =>
    cases h
    split
    · exact .refl s
    · exact cdRise_lawful s
  case cdFall taken further =>
    cases h
    exact ite_lawful (cdFall_lawful s taken further)
  case channelBlocked =>
    cases h
    exact ite_lawful (act_lawful fun _ _ _ => enterBlocked_keeps s)
  case channelClear =>
    cases h
    exact ite_lawful (act_lawful fun _ _ _ => leaveBlocked_keeps s)
  case frameReceived bytes further =>
    cases h
    refine ite_lawful_of fun hc => frameTaken_lawful s bytes further ?_
    simp only [Bool.and_eq_true, beq_iff_eq] at hc
    exact hc.1
  case overlongLength len =>
    cases h
    exact ite_lawful (act_lawful fun _ _ _ => .after (resumeHunt_keeps _) (setStats_keeps s _))
  case cacheExpiry origin kind seq =>
    cases h
    split
    · exact act_lawful fun _ _ _ => expireKey_keeps s _
    · exact .refl s
  case relayHoldRelease hold =>
    cases h
    split
    · next x hx => exact ite_lawful_of fun _ => releaseHold_lawful s hold x hx
    · exact .refl s
  case backoffEnd =>
    cases h
    split
    · exact ite_lawful_of fun _ => act_lawful fun _ _ _ => (decide_kept s true).toKeeps
    · exact .refl s
  case transmissionEnd =>
    cases h
    split
    · exact ite_lawful_of fun _ => act_lawful fun _ _ _ => endTx_keeps s _
    · exact .refl s
  case fixStale =>
    cases h
    exact ite_lawful (act_lawful fun _ _ _ => turnStale_keeps s)
  case peerAging slot =>
    cases h
    split
    · exact ite_lawful_of fun _ => act_lawful fun _ _ _ => freePeer_keeps s slot
    · exact .refl s
  case beaconInterval =>
    cases h
    exact ite_lawful (act_lawful fun _ _ _ => sendBeacon_keeps s)
  case beaconChangeTimer =>
    cases h
    exact ite_lawful (act_lawful fun _ _ _ => sendBeacon_keeps s)
  case claimPoint slot =>
    cases h
    exact boardRow_lawful s slot _ _ fun e he _ _ _ => claim_keeps s slot e (fitsSlot_of he rfl id)
  case latestClaimPoint slot =>
    cases h
    exact boardRow_lawful s slot _ _ fun e he _ _ _ => latestPoint_keeps s slot e (fitsSlot_of he rfl id)
  case close slot =>
    cases h
    exact boardRow_lawful s slot _ _ fun e he _ _ _ => closeEntry_keeps s slot e (fitsSlot_of he rfl id)
  case takeTurn slot =>
    cases h
    exact boardRow_lawful s slot _ _ fun e he _ _ _ => takeTurn_keeps s slot e (fitsSlot_of he rfl id)
  case watchClose slot =>
    cases h
    exact boardRow_lawful s slot _ _ fun e he _ _ _ => putEntry_keeps s slot _ (fitsSlot_rest _ he rfl rfl rfl)
  case entryRetentionEnd slot =>
    cases h
    exact boardRow_lawful s slot _ _ fun e he _ _ _ => endRetention_keeps s slot e (fitsSlot_of he rfl id)
  case pulse =>
    cases h
    exact ite_lawful (act_lawful fun _ _ _ => pulse_keeps s)
  case secondTick =>
    cases h
    exact ite_lawful (act_lawful fun _ _ _ => secondTick_keeps s)
  case shiftTimeTick =>
    cases h
    exact ite_lawful (act_lawful fun _ _ _ => shiftSecond_keeps s)
  case noteRetry slot =>
    cases h
    split
    · exact ite_lawful (act_lawful fun _ _ _ => retryNote_keeps s slot _)
    · exact .refl s
  case panicPress =>
    cases h
    refine ite_lawful_of fun hc => panicLevel_lawful s true ?_
    simp only [Bool.and_eq_true] at hc
    exact hc.2
  case panicRelease =>
    cases h
    refine ite_lawful_of fun hc => panicLevel_lawful s false ?_
    simp only [Bool.and_eq_true, Bool.not_eq_true'] at hc
    exact hc.2
  case panicLevelChange low =>
    cases h
    split
    · exact panicPin_lawful s low
    · next hc => exact ite_lawful (panicLevel_lawful s low (show low = s.pins.panicLow by simpa using hc).symm)
  case holdTimer =>
    cases h
    exact ite_lawful (act_lawful fun _ _ _ => enterAlerting_keeps s)
  case alarmRepeat =>
    cases h
    exact ite_lawful (act_lawful fun _ _ _ => alarmRepeat_keeps s)
  case alarmEndGap =>
    cases h
    exact ite_lawful (act_lawful fun _ _ _ => alarmGap_keeps s)
  case alarmTableAging slot =>
    cases h
    split
    · next a ha => exact ite_lawful_of fun _ => act_lawful fun _ _ _ => ageAlarm_keeps s slot a ha
    · exact .refl s
  case signFlashToggle =>
    cases h
    exact ite_lawful (act_lawful fun _ _ _ => flashToggle_keeps s)
  case syncWordMatch =>
    cases h
    exact act_lawful fun _ _ _ => syncMatch_keeps s
  all_goals cases hc

theorem exec_lawful {i : Instr} {s t : State} (h : exec i s = .next t) : Lawful s t := by
  cases hc : i.command with
  | some c => exact command_lawful hc h
  | none => exact event_lawful hc h

theorem tick_lawful (s : State) : Lawful s ((tick s).setPending s.pending) := by
  have hnow : Lawful s (s.setNow (s.now + 1)) := { Lawful.refl s with }
  unfold tick
  split
  · have k := hnow.trans (act_lawful fun _ _ _ => clockRxd_keeps _)
    exact { k with pending := rfl }
  · exact act_lawful fun _ _ _ => nextDraw_keeps s

/-- Every step keeps every law; the laws do not see the queue of waiting rows. -/
theorem step_lawful {s t : State} (h : step s = .next t) : ∃ q r, Lawful (s.setPending q) (t.setPending r) := by
  unfold step at h
  split at h
  · cases h
    exact ⟨s.pending, s.pending, tick_lawful s⟩
  · exact ⟨_, _, exec_lawful h⟩

/-- Settles O52. -/
theorem storeTotalsAndCountersAreKept : Obligations.StoreTotalsAndCountersAreKept := by
  intro s hs ht hc t h
  obtain ⟨_, _, k⟩ := step_lawful h
  exact ⟨k.store hs, k.totals ht, k.counters hc⟩

/-- Settles O53. -/
theorem queueAndWindowLimitsAreKept : Obligations.QueueAndWindowLimitsAreKept := by
  intro s hq hw t h
  obtain ⟨_, _, k⟩ := step_lawful h
  exact ⟨k.limits hq, k.window hw⟩

/-- Settles O54. -/
theorem portEventsAndSizesAreKept : Obligations.PortEventsAndSizesAreKept := by
  intro s hp he hs hc hf hw t h
  obtain ⟨_, _, k⟩ := step_lawful h
  exact ⟨k.phase hp, k.events he, k.sizes hs, k.csn hc, k.filter hf, k.hunt hw⟩

/-- Settles O55. -/
theorem keysAndClaimListsAreKept : Obligations.KeysAndClaimListsAreKept := by
  intro s hb hn ha hc t h
  obtain ⟨_, _, k⟩ := step_lawful h
  exact ⟨k.boardKeys hb, k.inboxKeys hn, k.alarmKeys ha, k.claims hc⟩

/-- Settles O58. -/
theorem noOwnFrameIsRelayedNorPeerDoubled : Obligations.NoOwnFrameIsRelayedNorPeerDoubled := by
  intro s hr hp t h
  obtain ⟨_, _, k⟩ := step_lawful h
  exact k.channel ⟨hr, hp⟩

end Sys2Proof
end

section
/-! PROOFS. The total of the trip can fall in one step: a row whose bytes are two commands settles one trip and hires the next
(R117, R125, R184). -/

namespace Sys2Proof
open Sys2Proof.Machine

/-- A tariff in range (R112). -/
def secondTariff : Tariff := ⟨300, 100, 1000, 10, 0⟩

/-- A stopped trip of 5.00. -/
def stoppedTrip : Trip := { newTrip 1 secondTariff 1000 0 with flagFall := 500, stopTime := some 0 }

/-- RUN with an open shift and the stopped trip; one result byte is unread, and the row that waits is a POST-NOTE whose bytes
the port takes, after that result byte, as SETTLE, the three bytes of its answer, and HIRE. -/
def settlesAndHires : State :=
  { State.reset with
    ret := { Retained.cleared with
      tariffs := some secondTariff :: List.replicate 7 none, k := some 1000, fare := .total, trip := some stoppedTrip
      shiftOpen := true }
    cpt := { Cpt.reset false with
      part := .run, phase := .result, result := [0], muted := .off
      config := some ⟨40, 7, 0, 1, .auto, 500, 20, 40, 30, 1234, 5678, false⟩ }
    pending := [.postNote [0x43, 0, 0, 0, 0, 0x40, 1]] }

/-- The state after the step that settles and hires. -/
def hiredAgain : State := ({ settlesAndHires with pending := [] }).transaction [0x50, 7, 0x43, 0, 0, 0, 0, 0x40, 1]

theorem step_settlesAndHires : step settlesAndHires = .next hiredAgain := rfl

theorem hiredAgain_total : hiredAgain.ret.trip.map (·.total) = some 300 := by decide +kernel

/-- Refutes O57: the port takes a POST-NOTE row in RESULT byte by byte, and its bytes settle a trip of 5.00 and hire one of 3.00. -/
theorem not_tripsKeepTheirRangesAndTotalsNeverFall : ¬ Obligations.TripsKeepTheirRangesAndTotalsNeverFall := by
  intro h
  obtain ⟨-, hfall⟩ := h settlesAndHires (by decide +kernel) (by decide +kernel) hiredAgain step_settlesAndHires
  obtain ⟨y, hy, hty⟩ := Option.map_eq_some_iff.mp hiredAgain_total
  have hle := hfall stoppedTrip y rfl hy
  rw [hty] at hle
  exact absurd hle (by decide)

end Sys2Proof
end

section
/-! PROOFS. Steps and the timebase, the reset state and the output pins (O1, O2, O59, O60). -/

namespace Sys2Proof

open Sys2Proof.Machine

/-! ## The queue of rows -/

theorem step_of_pending {s : State} {c : Instr} {rest : List Instr} (h : s.pending = c :: rest) :
    step s = exec c (s.setPending rest) := by
  simp only [step, h]

/-- Settles O1: the front row is the one `step` matches on. -/
theorem stepRunsTheFrontRow : Obligations.StepRunsTheFrontRow := fun _ _ _ h => step_of_pending h

/-! ## The timebase on an empty queue -/

theorem step_of_idle {s : State} (h : s.pending = []) : step s = .next (tick s) := by
  simp only [step, h]

theorem tick_of_none {s : State} (h : s.dueRows = []) : tick s = (s.setNow (s.now + 1)).clockRxd := by
  simp only [tick, h]

theorem clockRxd_of_still {s : State} (h : (∀ w, s.rru.rx ≠ .hunting w) ∨ s.now % 5 ≠ 0) : s.clockRxd = s := by
  unfold State.clockRxd
  split
  · next w hw => exact if_neg fun hc => h.elim (fun hx => hx w hw) fun hn => hn (beq_iff_eq.mp hc)
  · rfl

theorem clockRxd_of_hunt {s : State} {w : List Bool} (hw : s.rru.rx = .hunting w) (h : s.now % 5 = 0) :
    s.clockRxd = { s with
      draws := s.draws + 1
      rru := { s.rru with rx := .hunting ((w ++ [s.randomIn 0 1 == 1]).drop (w.length - 15)) } } := by
  have hp : (s.now % bitPeriod == 0) = true := beq_iff_eq.mpr h
  simp only [State.clockRxd, hw, hp, RxState.clock]
  rfl

theorem tick_of_due {s : State} (h : s.dueRows ≠ []) :
    ∃ r ∈ s.dueRows, tick s = { s with draws := s.draws + 1, pending := [r] } := by
  unfold tick
  cases he : s.dueRows with
  | nil => exact absurd he h
  | cons r l =>
    have hlt : Config.free s.draws % (l.length + 1) < (r :: l).length := Nat.mod_lt _ (Nat.succ_pos _)
    dsimp only
    rw [List.getElem?_eq_getElem hlt]
    exact ⟨_, List.getElem_mem hlt, rfl⟩

/-- Settles O2: `tick` by whether a row is due; every row keeps the queue of waiting rows as one of the facts of `Lawful`. -/
theorem emptyQueueRunsTheTimebaseAndRowsNeverStop : Obligations.EmptyQueueRunsTheTimebaseAndRowsNeverStop := by
  refine ⟨fun s hs => ⟨fun hn => ?_, fun hd => ?_⟩, fun c s => ?_⟩
  · rw [step_of_idle hs, tick_of_none hn]
    exact ⟨fun h => congrArg _ (clockRxd_of_still (s := s.setNow (s.now + 1)) h),
      fun w hw h5 => ⟨_, congrArg _ (clockRxd_of_hunt (s := s.setNow (s.now + 1)) hw h5)⟩⟩
  · rw [step_of_idle hs]
    obtain ⟨r, hr, ht⟩ := tick_of_due hd
    exact ⟨r, hr, congrArg _ ht⟩
  · have hnext : ∃ t, exec c s = .next t := by cases c <;> exact ⟨_, rfl⟩
    obtain ⟨t, ht⟩ := hnext
    exact ⟨t, ht, (exec_lawful ht).pending⟩

/-! ## The state after reset -/

/-- Settles O59: the check word of the reset state is that of its content by definition, and every other law and value is a
finite fact of one state. -/
theorem resetHoldsTheChapterValues : Obligations.ResetHoldsTheChapterValues := by
  unfold Obligations.ResetHoldsTheChapterValues
  refine ⟨⟨rfl, by decide, by decide, by decide, by decide, by decide, by decide, by decide, by decide, by decide,
    by decide, by decide, by decide, by decide, by decide, by decide, by decide, by decide, ?window⟩, by decide, by decide,
    by decide, by decide, by decide, by decide⟩
  case window => exact fun w h => by cases h

/-! ## The output pins -/

theorem bitAt_append_right (a b : List Byte) (i : Nat) (h : a.length * 8 ≤ i) :
    bitAt (a ++ b) i = bitAt b (i - a.length * 8) := by
  have hdiv : (i - a.length * 8) / 8 = i / 8 - a.length := by omega
  have hmod : (i - a.length * 8) % 8 = i % 8 := by omega
  rw [bitAt, bitAt, hdiv, hmod, List.getD_append_right _ _ _ _ (by omega)]

theorem bitAt_append_left (a b : List Byte) (i : Nat) (h : i < a.length * 8) : bitAt (a ++ b) i = bitAt a i := by
  rw [bitAt, bitAt, List.getD_append _ _ _ _ (by omega)]

/-- The preamble and the sync word of R1. -/
def preamble : List Byte := [0xAA, 0xAA, 0xAA, 0xAA, 0xE2, 0x5A]

theorem bitAt_preamble : ∀ i < 32, bitAt preamble i = decide (i % 2 = 0) := by decide

theorem bitAt_sync : ∀ i < 48, 32 ≤ i → bitAt preamble i
    = [true, true, true, false, false, false, true, false, false, true, false, true, true, false, true, false].getD
      (i - 32) false := by decide

theorem txdLevel_onAir {s : State} {a : OnAir} (h : s.cau.onAir = some a) :
    s.txdLevel = bitAt (preamble ++ a.entry.frame.bytes) ((s.now - a.start) / 5) := by
  simp only [State.txdLevel, h]
  rfl

theorem raiseIn_ne_nil (l : List Event) (overflow : Bool) (k : EventKind) (subject detail : Nat) :
    (raiseIn l overflow k subject detail).1 ≠ [] := by
  unfold raiseIn
  split
  next h => simpa using List.ne_nil_of_mem (List.any_eq_true.mp h).choose_spec.1
  next =>
    split
    · simp
    · split
      · simp
      · rintro rfl; contradiction

theorem alertAsserted_iff (s : State) : s.alertAsserted = true ↔ s.cpt.events ≠ [] := by
  simp [State.alertAsserted]

theorem senseEvent_alert {s : State} (hp : s.powered = true) (hr : s.cpt.phase = .ready) :
    ∃ t, exec .senseEvent s = .next t ∧ (t.alertAsserted = true ↔ 2 ≤ s.cpt.events.length) := by
  cases hl : s.cpt.events with
  | nil => exact ⟨_, exec_senseEvent_nil hp hr hl, by rw [alertAsserted_iff]; simp [State.answering, withEvents]⟩
  | cons e rest =>
    refine ⟨_, exec_senseEvent_cons hp hr hl, ?_⟩
    rw [alertAsserted_iff]
    cases rest <;> simp [State.answering, withEvents]

/-- Settles O60: TXD reads the preamble, the sync word or the frame by where the bit of this moment falls. -/
theorem outputPinsFollowTheState : Obligations.OutputPinsFollowTheState := by
  intro s
  refine ⟨fun h => by simp [State.keyPin, State.txdLevel, h], fun a h => ⟨by simp [State.keyPin, h], ?_, ?_, ?_⟩,
    fun f h => by simp [State.signLit, h], fun h => by simp [State.signLit, h], alertAsserted_iff s,
    fun k subject detail => (alertAsserted_iff _).mpr (raiseIn_ne_nil _ s.cpt.overflow k subject detail), senseEvent_alert⟩
  · intro hb
    rw [txdLevel_onAir h, bitAt_append_left _ _ _ (show _ < 48 by omega), bitAt_preamble _ hb]
  · intro hl hb
    rw [txdLevel_onAir h, bitAt_append_left _ _ _ (show _ < 48 from hb), bitAt_sync _ hb hl]
  · intro hl
    rw [txdLevel_onAir h, bitAt_append_right _ _ _ (show 48 ≤ _ from hl), bitAt]
    have hmod : ((s.now - a.start) / 5 - 48) % 8 = (s.now - a.start) / 5 % 8 := by omega
    rw [← hmod]
    rfl

end Sys2Proof
end

section
/-! PROOFS. Table entries age at their times (O13), and zones are looked up (O15). -/

namespace Sys2Proof

open Sys2Proof.Machine

/-! ## Ages (R41, R64, R73, R96, R177) -/

@[simp] theorem ofCode_code (k : Kind) : Kind.ofCode k.code = some k := by cases k <;> rfl

section
variable {s : State} {slot : Nat}

theorem exec_cacheExpiry (s : State) (origin seq : Nat) (k : Kind) :
    exec (.cacheExpiry origin k.code seq) s = .next (s.expireKey ⟨origin, k, seq⟩) := by
  simp only [exec, execCacheExpiry, ofCode_code]

theorem exec_peerAging {p : Peer} (h : slotGet s.ppu.peers slot = some p) :
    exec (.peerAging slot) s = .next (if p.lastHeard + 300000 * ms ≤ s.now then s.freePeer slot else s) := by
  simp only [exec, execPeerAging, h]
  rfl

theorem exec_alarmTableAging {a : AlarmEntry} (h : slotGet s.emu.table slot = some a) :
    exec (.alarmTableAging slot) s = .next (if a.agesAt ≤ s.now then s.ageAlarm slot a else s) := by
  simp only [exec, execAlarmTableAging, h]

theorem exec_watchClose {e : BoardEntry} (h : slotGet s.ofb.slots slot = some e) :
    exec (.watchClose slot) s
      = .next (if e.state == .watch && e.close + 9000 * ms ≤ s.now then s.putEntry slot (e.finish .closed s.now) else s) := by
  simp only [exec, execWatchClose, h]
  rfl

theorem exec_entryRetentionEnd {e : BoardEntry} (h : slotGet s.ofb.slots slot = some e) :
    exec (.entryRetentionEnd slot) s = .next (if e.retained s.now then s.endRetention slot e else s) := by
  simp only [exec, execEntryRetentionEnd, h]

theorem ageAlarm_active {a : AlarmEntry} (h : a.state = .active) (hs : a.agesAt ≤ s.now)
    (hg : slotGet s.emu.table slot = some a) :
    exec (.alarmTableAging slot) s = .next (s.putAlarm slot { a with state := .silent }) := by
  rw [exec_alarmTableAging hg, if_pos hs]
  simp only [State.ageAlarm, h]

theorem ageAlarm_gone {a : AlarmEntry} (h : a.state ≠ .active) (hs : a.agesAt ≤ s.now)
    (hg : slotGet s.emu.table slot = some a) :
    exec (.alarmTableAging slot) s = .next (s.freeAlarm slot) := by
  rw [exec_alarmTableAging hg, if_pos hs]
  unfold State.ageAlarm
  split
  · next ha => exact absurd ha h
  · rfl

theorem ageAlarm_not {a : AlarmEntry} (hs : ¬ a.agesAt ≤ s.now) (hg : slotGet s.emu.table slot = some a) :
    exec (.alarmTableAging slot) s = .next s := by
  rw [exec_alarmTableAging hg, if_neg hs]

theorem agesAt_active {a : AlarmEntry} (h : a.state = .active) : a.agesAt = a.lastHeard + 60000 * ms := by
  simp only [AlarmEntry.agesAt, h]

theorem agesAt_silent {a : AlarmEntry} (h : a.state = .silent) : a.agesAt = a.lastHeard + 300000 * ms := by
  simp only [AlarmEntry.agesAt, h]

theorem agesAt_ended {a : AlarmEntry} {e : Nat} (h : a.state = .ended) (he : a.endedTime = some e) :
    a.agesAt = e + 60000 * ms := by
  simp only [AlarmEntry.agesAt, h, he, Option.getD_some]

theorem retained_eq {e : BoardEntry} {t now : Nat} (hl : e.state.live = false) (ht : e.termTime = some t)
    (hr : e.retentionPassed = false) : e.retained now = decide (t + 60000 * ms ≤ now) := by
  simp [BoardEntry.retained, hl, ht, hr, due, retention]

end

/-- Settles O13: each row is its table's entry under one test of its time. -/
theorem tableEntriesAgeAtTheirTimes : Obligations.TableEntriesAgeAtTheirTimes := by
  refine ⟨fun s origin seq k => ?cache, fun s slot p h => ?peer, fun s slot a h => ?alarm, fun s slot e h => ?board⟩
  case cache =>
    have hf (c : CacheEntry) : (!(c.key == ⟨origin, k, seq⟩ && c.expired s.now))
        = !decide (c.key = ⟨origin, k, seq⟩ ∧ c.mark = .none ∧ c.firstHeard + 60000 * ms ≤ s.now) := by
      show (!(c.key == _ && (c.mark == _ && decide (c.firstHeard + 60000 * ms ≤ s.now)))) = _
      simp [beq_eq_decide]
    simp only [exec_cacheExpiry, State.expireKey, State.setRru, hf]
  case peer =>
    rw [exec_peerAging h]
    exact ⟨fun ht => by rw [if_pos ht]; rfl, fun ht => by rw [if_neg (Nat.not_le.mpr ht)]⟩
  case alarm =>
    refine ⟨fun ha ht => ?_, fun ha ht => ?_, fun e ha he ht => ?_, fun ha ht => ?_, fun ha ht => ?_, fun e ha he ht => ?_⟩
    · exact ageAlarm_active ha (agesAt_active ha ▸ ht) h
    · exact ageAlarm_gone (by rw [ha]; exact HeardState.noConfusion) (agesAt_silent ha ▸ ht) h
    · exact ageAlarm_gone (by rw [ha]; exact HeardState.noConfusion) (agesAt_ended ha he ▸ ht) h
    · exact ageAlarm_not (agesAt_active ha ▸ Nat.not_le.mpr ht) h
    · exact ageAlarm_not (agesAt_silent ha ▸ Nat.not_le.mpr ht) h
    · exact ageAlarm_not (agesAt_ended ha he ▸ Nat.not_le.mpr ht) h
  case board =>
    refine ⟨fun hw ht => ?_, fun hn => ?_, fun t hl ht hr => ?_⟩
    · rw [exec_watchClose h, if_pos (by simpa [hw] using ht)]
      rfl
    · rw [exec_watchClose h, if_neg (by simpa [imp_iff_not_or] using hn)]
    · rw [exec_entryRetentionEnd h, retained_eq hl ht hr]
      refine ⟨fun hd hm hq => ?_, fun hd hm => ?_, fun hd => ?_⟩
      · simp only [hd, decide_true, if_true, State.endRetention, hm, hq]
        rfl
      · have hkept : (e.dropMark.isSome || s.cau.holds (.drop e.key)) = true := by
          simpa [Option.isSome_iff_ne_none] using hm
        simp only [hd, decide_true, if_true, State.endRetention, hkept]
        rfl
      · rw [if_neg (by simpa using hd)]

/-! ## Zones (R56, R57) -/

/-- What is found is the first record with the property. -/
theorem slotFind_first {α : Type} (p : α → Bool) (l : List (Option α)) (k i : Nat) (x : α)
    (h : slotFind p l k = some (i, x)) (j : Nat) (y : α) (hj : k + j < i) (hy : slotGet l j = some y) : p y = false := by
  induction l generalizing k j with
  | nil => cases h
  | cons o l ih =>
    cases o with
    | none =>
      cases j with
      | zero => cases hy
      | succ j => exact ih (k + 1) h j (by omega) hy
    | some z =>
      rw [slotFind] at h
      split at h
      · cases h
        omega
      · next hz =>
        cases j with
        | zero =>
          cases hy
          exact Bool.eq_false_iff.mpr hz
        | succ j => exact ih (k + 1) h j (by omega) hy

theorem contains_iff (z : Zone) (p : Point) : z.contains p = true
    ↔ z.eastMin ≤ p.east ∧ p.east ≤ z.eastMax ∧ z.northMin ≤ p.north ∧ p.north ≤ z.northMax := by
  simp [Zone.contains, and_assoc]

/-- The slot of the first zone that contains the position, or 255 with none. -/
theorem zoneOf_cases (zones : List (Option Zone)) (p : Point) :
    (zoneOf zones p = 255 ∧ ∀ n z, slotGet zones n = some z → ¬ z.contains p = true)
      ∨ ∃ z, slotGet zones (zoneOf zones p) = some z ∧ z.contains p = true
        ∧ ∀ n < zoneOf zones p, ∀ y, slotGet zones n = some y → ¬ y.contains p = true := by
  unfold zoneOf
  cases h : slotFind (fun z => z.contains p) zones 0 with
  | none =>
    exact .inl ⟨rfl, fun n z hz => Bool.eq_false_iff.mp ((slotFind_none _ _ _).mp h z (slotGet_mem _ _ _ hz))⟩
  | some x =>
    obtain ⟨hget, hp⟩ := slotFind_zero _ _ _ _ h
    exact .inr ⟨x.2, hget, hp, fun n hn y hy => Bool.eq_false_iff.mp (slotFind_first _ _ _ _ _ h n y (by simpa using hn) hy)⟩

/-- Settles O15: the lookup takes the first slot that contains the position. -/
theorem lowestZoneWinsAndBidSetIsItsNeighbourhood : Obligations.LowestZoneWinsAndBidSetIsItsNeighbourhood := by
  refine ⟨fun zones p hlen => ?_, fun s n hlen => ?_⟩
  · simp only [← contains_iff]
    obtain ⟨h255, hnone⟩ | ⟨z, hz, hp, hfirst⟩ := zoneOf_cases zones p
    · exact .inl ⟨h255, fun n ⟨z, hz, hp⟩ => hnone n z hz hp⟩
    · exact .inr ⟨hlen ▸ slotGet_lt hz, ⟨z, hz, hp⟩, fun n hn ⟨y, hy, hyp⟩ => hfirst n hn y hy hyp⟩
  · unfold State.inBidSet
    cases hz : slotGet s.ppu.zones s.ppu.zone <;> simp

end Sys2Proof
end

section
/-! PROOFS. The access unit's decisions (O10, O11) and the edges of the carrier (O9). -/

namespace Sys2Proof

open Sys2Proof.Machine

/-! ## The head of the queue (R14) -/

@[simp] theorem headOf_singleton (e : QEntry) : headOf [e] = some e := rfl

theorem headOf_cons_ne_none (e : QEntry) (l : List QEntry) : headOf (e :: l) ≠ none := by
  simp only [headOf]
  split
  · exact Option.some_ne_none _
  · split <;> exact Option.some_ne_none _

theorem headOf_eq_none {q : List QEntry} : headOf q = none ↔ q = [] := by
  cases q with
  | nil => simp [headOf]
  | cons e l => simp [headOf_cons_ne_none]

/-! ## Deciding on the head (R23, R24, R26) -/

section
variable {s : State} {e : QEntry}

theorem decide_of_empty (failed : Bool) (h : s.cau.queue = []) : s.decide failed = s.setCau { s.cau with au := .rest } := by
  simp only [State.decide, decideHead, h, headOf]

/-- The head is keyed when it may be and its parts can be fixed (R25). -/
theorem decide_keys {k : QEntry} (failed : Bool) (h : headOf s.cau.queue = some e) (hm : s.mayKey e = true)
    (hk : e.keyed s.now = some k) : s.decide failed = s.airing k (s.cau.queue.erase e) := by
  simp only [State.decide, decideHead, h, hm, hk, if_true, startTx_eq]

/-- A head that may not be keyed draws a backoff, with W doubled after a failed wait (R24). -/
theorem decide_waits (failed : Bool) (h : headOf s.cau.queue = some e) (hm : ¬ s.mayKey e = true) :
    s.decide failed = (if failed then s.setCau { s.cau with w := doubleW s.cau.w } else s).drawBackoff e := by
  simp only [State.decide, decideHead, h, if_neg hm]

/-- An OFFER dropped at keying leaves the queue, and the unit decides again on what remains (R26). -/
theorem decide_drops (failed : Bool) (h : headOf s.cau.queue = some e) (hm : s.mayKey e = true)
    (hk : e.keyed s.now = none) : s.decide failed = decideHead s.cau.queue.length false
      (((s.setQueue (s.cau.queue.erase e)).relayNotSent e.frame.key).spaceThen id) := by
  simp only [State.decide, decideHead, h, hm, hk, if_true]

theorem keyed_of_no_copy {now : Nat} (h : e.endOfCopy = none) : e.keyed now = some e := by
  unfold QEntry.keyed
  rw [h]
  split
  next he _ => cases he
  next => rfl

end

/-! ## What a change of the queue brings (R23, R29) -/

section
variable {s : State} {e : QEntry}

theorem kick_of_onAir (h : s.cau.onAir.isSome = true) : s.kick = s := by
  simp only [State.kick, h, if_true]

theorem kick_of_empty (h : s.cau.queue = []) : s.kick = s := by
  have hh := headOf_eq_none.mpr h
  unfold State.kick
  split
  · rfl
  · split
    · rfl
    · simp_all
    · simp_all

/-- A waiting unit goes on waiting, but for a class-0 head in blocked operation. -/
theorem kick_of_waiting {w : Nat} (h : s.cau.au = .waiting w)
    (hb : s.cau.blocked = true → ∀ x ∈ s.cau.queue, x.cls ≠ 0) : s.kick = s := by
  unfold State.kick
  split
  · rfl
  · rw [h]
    split
    · rfl
    · contradiction
    · next x _ hx =>
      refine if_neg fun hc => ?_
      simp only [Bool.and_eq_true, beq_iff_eq] at hc
      exact hb hc.1 x (headOf_mem hx) hc.2

theorem kick_of_waits (h : s.cau.waits) : s.kick = s := by
  obtain hair | ⟨⟨w, hw⟩, hb⟩ := h
  · exact kick_of_onAir hair
  · exact kick_of_waiting hw fun h => by simp [hb] at h

theorem kick_of_rest (ha : s.cau.onAir = none) (hu : s.cau.au = .rest) (h : headOf s.cau.queue = some e) :
    s.kick = s.decide false := by
  simp only [State.kick, ha, hu, h]
  rfl

theorem kick_of_blocked (ha : s.cau.onAir = none) (hb : s.cau.blocked = true) (h : headOf s.cau.queue = some e)
    (h0 : e.cls = 0) : s.kick = s.decide false := by
  simp only [State.kick, ha, h, hb]
  cases s.cau.au <;> simp [h0]

theorem mayKey_of_blocked (hb : s.cau.blocked = true) (h0 : e.cls = 0) : s.mayKey e = true :=
  (mayKey_iff s e).mpr (.inr ⟨hb, h0⟩)

/-- In blocked operation a class-0 head is keyed at once (R29). -/
theorem kick_keys_blocked (ha : s.cau.onAir = none) (hb : s.cau.blocked = true) (h : headOf s.cau.queue = some e)
    (h0 : e.cls = 0) (hc : e.endOfCopy = none) : s.kick = s.airing e (s.cau.queue.erase e) := by
  rw [kick_of_blocked ha hb h h0, decide_keys false h (mayKey_of_blocked hb h0) (keyed_of_no_copy hc)]

end

/-! ## The blocked condition (R28, R29) -/

theorem due_of_le {x : Option Nat} {t now : Nat} (hx : x = some t) (h : t ≤ now) : due x now = true :=
  (due_iff _ _).mpr ⟨t, hx, h⟩

theorem exec_channelBlocked {s : State} {t : Nat} (hp : s.powered = true) (ht : t ≤ s.now) (hb : s.cau.blockedAt = some t) :
    exec .channelBlocked s = .next s.enterBlocked := by
  simp only [exec, execChannelBlocked, hp, due_of_le hb ht]
  rfl

theorem exec_channelClear {s : State} {t : Nat} (hp : s.powered = true) (ht : t ≤ s.now) (hc : s.cau.clearAt = some t) :
    exec .channelClear s = .next s.leaveBlocked := by
  simp only [exec, execChannelClear, hp, due_of_le hc ht]
  rfl

/-- Settles O10: entry and exit raise their events, and the entry is a change that may give the unit a class-0 head. -/
theorem blockedConditionKeysClassZero : Obligations.BlockedConditionKeysClassZero := by
  intro s t hp ht
  refine ⟨fun hb => ⟨fun hn => ?_, fun e ha hh h0 hc => ?_⟩, fun hc => ?_⟩
  · rw [exec_channelBlocked hp ht hb, State.enterBlocked]
    refine congrArg _ ?_
    obtain hair | hempty | ⟨⟨w, hw⟩, hcls⟩ := hn
    · exact kick_of_onAir hair
    · exact kick_of_empty hempty
    · exact kick_of_waiting hw fun _ x hx => Nat.ne_of_gt (hcls x hx)
  · rw [exec_channelBlocked hp ht hb, State.enterBlocked]
    exact congrArg _ (kick_keys_blocked (s := (s.setCau { s.cau with blocked := true, blockedAt := none }).raiseEvent _ 0 0)
      ha rfl hh h0 hc)
  · exact exec_channelClear hp ht hc

/-! ## The end of a wait (R24 to R26) -/

theorem exec_backoffEnd {s : State} {till : Nat} (hw : s.cau.au = .waiting till) (ht : till ≤ s.now) :
    exec .backoffEnd s = .next (s.decide true) := by
  simp only [exec, execBackoffEnd, hw, if_pos ht, State.backoffEnd]

theorem mayKey_of_guard {s : State} {e : QEntry} (hcd : s.pins.cd = false)
    (hg : (if e.cls = 0 then 20 * ms else 60 * ms) ≤ (if s.pins.cd then 0 else (s.cau.idleRef.map (s.now - ·)).getD 0)) :
    s.mayKey e = true := by
  have hi : s.idleTime = (s.cau.idleRef.map (s.now - ·)).getD 0 := by
    simp only [State.idleTime, hcd]
    cases s.cau.idleRef <;> rfl
  simp only [State.mayKey, hcd, guardTime, beq_iff_eq, hi]
  rw [hcd] at hg
  simp only [Bool.not_false, Bool.true_and, Bool.or_eq_true, decide_eq_true_eq]
  exact .inl hg

theorem not_mayKey_of_guard {s : State} {e : QEntry} (hb : s.cau.blocked = false)
    (hg : s.pins.cd = true ∨ (if s.pins.cd then 0 else (s.cau.idleRef.map (s.now - ·)).getD 0)
      < (if e.cls = 0 then 20 * ms else 60 * ms)) : ¬ s.mayKey e = true := by
  have hi : s.idleTime = if s.pins.cd then 0 else (s.cau.idleRef.map (s.now - ·)).getD 0 := by
    simp only [State.idleTime]
    cases s.cau.idleRef <;> rfl
  simp only [State.mayKey, guardTime, beq_iff_eq, hb, hi]
  obtain hcd | hlt := hg
  · simp [hcd]
  · simp [Nat.not_le.mpr hlt]

/-- After a failed wait W is doubled before the draw (R24). -/
theorem drawDoubled_cases (s : State) (e : QEntry) (h : s.cau.windowLaw) :
    ∃ slots, 1 ≤ slots ∧ slots ≤ (if e.cls = 0 then 2 else min 64 (2 * s.cau.w))
      ∧ (s.setCau { s.cau with w := doubleW s.cau.w }).drawBackoff e = { s with
        draws := s.draws + 1
        cau := { s.cau with w := min 64 (2 * s.cau.w), au := .waiting (s.now + slots * (30 * ms)) } } :=
  drawBackoff_cases (s.setCau { s.cau with w := doubleW s.cau.w }) e (doubleW_law h)

/-- A relayed OFFER at its keying, by its remaining window (R26, R46). -/
theorem keyed_offer {e : QEntry} {o : OfferBody} {ended now : Nat} (hr : e.owner = .relay) (hb : e.frame.body = .offer o)
    (hc : e.endOfCopy = some ended) : e.keyed now = if 20 ≤ (o.window * (100 * ms) - (now - ended)) / (100 * ms)
      then some { e with frame := { e.frame with
        body := .offer { o with window := (o.window * (100 * ms) - (now - ended)) / (100 * ms) } } }
      else none := by
  simp only [QEntry.keyed, hr, hb, hc, remainingUnits]

theorem spaceThen_of_no_marks {s : State} (after : State → State) (h : s.standingMarks = []) : s.spaceThen after = s := by
  simp only [State.spaceThen, h, List.length_nil, reofferAll, ite_self]

theorem endMark_eq (s : State) (k : FrameKey) : s.endMark k = { s with rru := { s.rru with
    cache := (s.rru.cache.map fun c => if c.key = k then { c with mark := .none } else c).filter
      fun c => !decide (c.key = k ∧ c.firstHeard + 60000 * ms ≤ s.now) } } := by
  have hf (c : CacheEntry) : (!(c.key == k && c.firstHeard + cacheLife ≤ s.now))
      = !decide (c.key = k ∧ c.firstHeard + 60000 * ms ≤ s.now) := by
    show (!(c.key == k && decide (c.firstHeard + 60000 * ms ≤ s.now))) = _
    simp [beq_eq_decide]
  simp only [State.endMark, hf, State.setRru, beq_iff_eq]

/-- Settles O11: the decision of the unit at the end of its wait, and for an OFFER the test of its window first. -/
theorem waitEndKeysOrDrawsAgain : Obligations.WaitEndKeysOrDrawsAgain := by
  refine ⟨fun s till hw ht hb hlaw => ?_, fun s till ended e o hw ht hcd hidle hq hr h2 hbody hcopy hrx => ?_⟩
  · rw [exec_backoffEnd hw ht]
    refine ⟨fun hq => congrArg _ (decide_of_empty true hq), fun e he => ⟨fun hcd hg hc => ?_, fun hg => ?_⟩⟩
    · exact congrArg _ (decide_keys true he (mayKey_of_guard hcd hg) (keyed_of_no_copy hc))
    · rw [decide_waits true he (not_mayKey_of_guard hb hg)]
      obtain ⟨slots, h1, h2, heq⟩ := drawDoubled_cases s e hlaw
      exact ⟨slots, h1, h2, congrArg _ heq⟩
  · rw [exec_backoffEnd hw ht]
    have hhead : headOf s.cau.queue = some e := by rw [hq]; rfl
    have hm : s.mayKey e = true := (mayKey_iff s e).mpr (.inl ⟨hcd, by simpa [h2] using hidle⟩)
    have hk := keyed_offer (now := s.now) hr hbody hcopy
    refine ⟨fun hle => congrArg _ ?_, fun hlt hmarks => congrArg _ ?_⟩
    · rw [if_pos hle] at hk
      rw [decide_keys true hhead hm hk, hq, State.airing, if_neg hrx]
      simp only [List.erase_cons_head]
    · rw [if_neg (Nat.not_le.mpr hlt)] at hk
      rw [decide_drops true hhead hm hk, hq, List.erase_cons_head, spaceThen_of_no_marks id
        (show ((s.setQueue []).relayNotSent e.frame.key).standingMarks = [] from hmarks), State.relayNotSent, endMark_eq]
      rfl

end Sys2Proof
end

section
/-! PROOFS. The edges of the carrier and the receiver (O9). -/

namespace Sys2Proof

open Sys2Proof.Machine

section
variable {s : State}

theorem inRun_of (h : s.cpt.part = .run) : s.inRun = true := beq_iff_eq.mpr h

theorem resumeHunt_eq (s : State) : s.resumeHunt = { s with rru := { s.rru with rx := s.rxOpen s.pins.cd } } := rfl

theorem resumeHunt_of_low (h : s.pins.cd = false) : s.resumeHunt = { s with rru := { s.rru with rx := .idle } } := by
  simp [State.resumeHunt, State.setRru, h]

/-! ## The edges of CD (R22, R28, R31, R32) -/

theorem exec_cdRise (hp : s.powered = true) (hr : s.cpt.part = .run) (hcd : s.pins.cd = false) :
    exec .cdRise s = .next (s.setCd true).cauRise.resumeHunt := by
  have hrun : (s.setCd true).inRun = true := inRun_of hr
  have hpow : (s.setCd true).powered = true := hp
  simp only [exec, execCdRise, State.cdRise, hcd, hrun, hpow]
  rfl

theorem exec_cdFall (hp : s.powered = true) (hr : s.cpt.part = .run) (hcd : s.pins.cd = true) (taken : List Byte)
    (further : Nat) :
    exec (.cdFall taken further) s = .next (((s.setCd false).cauFall.fallFrame taken further).resumeHunt) := by
  have hrun : (s.setCd false).inRun = true := inRun_of hr
  have hpow : (s.setCd false).powered = true := hp
  simp only [exec, execCdFall, State.cdFall, hcd, hrun, hpow]
  rfl

/-- A frame being taken that is neither whole nor overlong ends truncated (R32). -/
theorem fallFrame_truncates {taken : List Byte} {further : Nat}
    (h : s.rru.rx = .taking → frameWhole taken = false ∧ frameOverlong taken = false) :
    s.fallFrame taken further = s.truncate := by
  by_cases hx : s.rru.rx = .taking
  · simp [State.fallFrame, hx, h hx]
  · simp [State.fallFrame, State.truncate, hx]

theorem fallFrame_overlong {taken : List Byte} {further : Nat} (hx : s.rru.rx = .taking) (h : frameOverlong taken = true) :
    s.fallFrame taken further = s.countMalformed := by
  simp [State.fallFrame, hx, h]

theorem not_overlong_of_whole {l : List Byte} (h : frameWhole l = true) : frameOverlong l = false := by
  simp only [frameWhole, Bool.and_eq_true, decide_eq_true_eq] at h
  simp [frameOverlong, h.1.2]

theorem fallFrame_whole {taken : List Byte} {further : Nat} (hx : s.rru.rx = .taking) (h : frameWhole taken = true) :
    s.fallFrame taken further = s.judgeFrame taken (8 ≤ further) (s.lastBit taken) := by
  simp [State.fallFrame, hx, h, not_overlong_of_whole h]

theorem exec_frameReceived {bytes : List Byte} {further : Nat} (hx : s.rru.rx = .taking) (h : frameWhole bytes = true) :
    exec (.frameReceived bytes further) s = .next (s.judgeFrame bytes (8 ≤ further) (s.lastBit bytes)).resumeHunt := by
  simp only [exec, execFrameReceived, hx, h]
  rfl

theorem truncate_resumeHunt (hcd : s.pins.cd = false) : s.truncate.resumeHunt = { s with rru := { s.rru with
    rx := .idle
    stats := if s.rru.rx = .taking
      then { s.rru.stats with truncated := inc16 s.rru.stats.truncated } else s.rru.stats } } := by
  by_cases hx : s.rru.rx = .taking <;> simp [State.truncate, State.resumeHunt, State.setRru, hx, hcd]

/-! ## The sync word and the length byte (R7, R31, R33) -/

/-- Bits clocked into a window leave its last sixteen. -/
theorem foldl_clockBit (w : List Bool) (b : Bool) (l : List Bool) :
    (b :: l).foldl clockBit w = (w ++ b :: l).drop (w.length + l.length - 15) := by
  induction l generalizing w b with
  | nil => rfl
  | cons c l ih =>
    have hdrop : clockBit w b ++ c :: l = (w ++ b :: c :: l).drop (w.length - 15) := by
      rw [clockBit, ← List.drop_append_of_le_length (by simp; omega)]
      simp
    have hlen : (clockBit w b).length = w.length + 1 - (w.length - 15) := by simp [clockBit]
    rw [List.foldl_cons, ih, hdrop, List.drop_drop, hlen]
    congr 1
    simp only [List.length_cons]
    omega

theorem foldl_clock (w l : List Bool) : l.foldl (fun r b => RxState.clock b r) (.hunting w) = .hunting (l.foldl clockBit w) := by
  induction l generalizing w with
  | nil => rfl
  | cons b l ih => exact ih _

/-- The sync word clocked into any window is matched. -/
theorem foldl_syncBits (w : List Bool) : syncBits.foldl clockBit w = syncBits := by
  rw [show syncBits = true :: syncBits.tail by decide, foldl_clockBit, show w.length + syncBits.tail.length - 15 = w.length by
    simp [syncBits], List.drop_left]

theorem sync_of_hunt (w : List Bool) : (RxState.hunting w).sync = .taking := by
  unfold RxState.sync
  dsimp only
  split
  · rfl
  · rw [foldl_clock, foldl_syncBits, if_pos (by decide)]

theorem syncMatch_of_hunt {w : List Bool} (h : s.rru.rx = .hunting w) :
    s.syncMatch = { s with rru := { s.rru with rx := .taking, syncAt := s.now } } := by
  simp only [State.syncMatch, h, sync_of_hunt]
  rfl

theorem mem_dueRows_of_channel {i : Instr} (h : i ∈ s.dueChannel) : i ∈ s.dueRows := List.mem_append_left _ h

theorem syncWordMatch_due (h : s.rru.rx.matched = true) : .syncWordMatch ∈ s.dueRows := by
  refine mem_dueRows_of_channel ?_
  simp [State.dueChannel, h]

theorem exec_overlongLength {len : Byte} (hx : s.rru.rx = .taking) (h : 52 < len.toNat) :
    exec (.overlongLength len) s = .next s.countMalformed.resumeHunt := by
  have hl : decide (maxBody < len.toNat) = true := decide_eq_true h
  simp only [exec, execOverlongLength, hx, hl]
  rfl

end

/-- Settles O9: the edges by what the frame being taken is, the match and the length byte by the receiver. -/
theorem carrierEdgesAndTheReceiver : Obligations.CarrierEdgesAndTheReceiver := by
  refine ⟨fun s hp hr => ⟨fun hcd => ?_, fun hcd taken further h => ?_⟩,
    fun s taken further hp hr hcd hx hf => ⟨fun ho => ?_, fun hw => ?_⟩,
    fun s => ⟨fun w hw => ?_, fun hn => ?_, fun hw => ?_, fun hx len hlen => ?_⟩⟩
  · rw [exec_cdRise hp hr hcd]
    rfl
  · rw [exec_cdFall hp hr hcd, fallFrame_truncates (s := (s.setCd false).cauFall) h,
      truncate_resumeHunt (s := (s.setCd false).cauFall) rfl]
    rfl
  · rw [exec_cdFall hp hr hcd, fallFrame_overlong (s := (s.setCd false).cauFall) hx ho,
      resumeHunt_of_low (s := (s.setCd false).cauFall.countMalformed) rfl]
    rfl
  · rw [exec_cdFall hp hr hcd, fallFrame_whole (s := (s.setCd false).cauFall) hx hw]
    exact (exec_frameReceived (s := (s.setCd false).cauFall) hx hw).symm
  · exact congrArg _ (syncMatch_of_hunt hw)
  · obtain ⟨w, hw, -⟩ | ⟨-, h⟩ := syncMatch_cases s
    · exact absurd hw (hn w)
    · exact congrArg _ h
  · exact syncWordMatch_due (by rw [hw]; decide)
  · rw [exec_overlongLength hx hlen]
    rfl

end Sys2Proof
end

section
/-! PROOFS. The order of the queue, and what becomes of a frame that its owner offers (O7, O8). -/

namespace Sys2Proof

open Sys2Proof.Machine

/-! ## Records found again after they were written -/

/-- The record found with a property is still the one found after it was rewritten with the property. -/
theorem slotFind_slotPut {α : Type} (p : α → Bool) (l : List (Option α)) (k i : Nat) (x y : α)
    (h : slotFind p l k = some (k + i, x)) (hy : p y = true) : slotFind p (slotPut l i y) k = some (k + i, y) := by
  induction l generalizing k i with
  | nil => cases h
  | cons o l ih =>
    cases o with
    | none =>
      rw [slotFind] at h
      obtain ⟨hle, -, -⟩ := slotFind_some p l _ _ x h
      obtain ⟨i, rfl⟩ : ∃ j, i = j + 1 := ⟨i - 1, by omega⟩
      rw [show k + (i + 1) = k + 1 + i by omega] at h ⊢
      exact ih (k + 1) i h
    | some z =>
      rw [slotFind] at h
      split at h
      · obtain rfl : i = 0 := by
          have := congrArg (Prod.fst ∘ fun o => o.getD (0, x)) h
          simp only [Function.comp, Option.getD_some] at this
          omega
        simp [slotPut, slotFind, hy]
      · next hz =>
        obtain ⟨hle, -, -⟩ := slotFind_some p l _ _ x h
        obtain ⟨i, rfl⟩ : ∃ j, i = j + 1 := ⟨i - 1, by omega⟩
        rw [show k + (i + 1) = k + 1 + i by omega] at h ⊢
        have hput : slotPut (some z :: l) (i + 1) y = some z :: slotPut l i y := rfl
        rw [hput, slotFind, if_neg hz]
        exact ih (k + 1) i h

section
variable {s : State} {k : JobKey} {slot : Nat} {e e' : BoardEntry}

theorem entry_key (h : s.entry k = some (slot, e)) : e.key = k := by
  simpa using (slotFind_zero _ _ _ _ h).2

theorem entry_putEntry (h : s.entry k = some (slot, e)) (hk : e'.key = k) :
    (s.putEntry slot e').entry k = some (slot, e') := by
  have := slotFind_slotPut (fun e => e.key == k) s.ofb.slots 0 slot e e' (by rw [Nat.zero_add]; exact h) (by simpa using hk)
  rwa [Nat.zero_add] at this

theorem entry_modEntry {f : BoardEntry → BoardEntry} {p : Nat × BoardEntry} (h : s.entry k = some p)
    (hk : ∀ e, (f e).key = e.key) : (s.modEntry k f).entry k = some (p.1, f p.2) := by
  obtain ⟨slot, e⟩ := p
  simp only [State.modEntry, h, entry_putEntry h ((hk e).trans (entry_key h))]

theorem modEntry_of_none {f : BoardEntry → BoardEntry} (h : s.entry k = none) : s.modEntry k f = s := by
  simp only [State.modEntry, h]

theorem inNote_key {o i : Nat} {r : InNote} (h : s.inNote o i = some (slot, r)) : r.origin = o ∧ r.id = i := by
  simpa using (slotFind_zero _ _ _ _ h).2

theorem inNote_modIn {o i : Nat} {p : Nat × InNote} {f : InNote → InNote} (h : s.inNote o i = some p)
    (hk : ∀ r, (f r).origin = r.origin ∧ (f r).id = r.id) : (s.modIn o i f).inNote o i = some (p.1, f p.2) := by
  obtain ⟨slot, r⟩ := p
  obtain ⟨ho, hi⟩ := inNote_key h
  obtain ⟨hfo, hfi⟩ := hk r
  simp only [State.modIn, h]
  have := slotFind_slotPut (fun r => r.origin == o && r.id == i) s.nts.inbox 0 slot r (f r) (by rw [Nat.zero_add]; exact h)
    (by simp [hfo, hfi, ho, hi])
  rwa [Nat.zero_add] at this

theorem modIn_of_none {o i : Nat} {f : InNote → InNote} (h : s.inNote o i = none) : s.modIn o i f = s := by
  simp only [State.modIn, h]

theorem outbox_modOut {r : OutNote} {f : OutNote → OutNote} (h : slotGet s.nts.outbox slot = some r) :
    slotGet (s.modOut slot f).nts.outbox slot = some (f r) := by
  simp only [State.modOut, h]
  exact slotGet_slotPut_self _ _ _ (slotGet_lt h)

theorem modOut_of_none {f : OutNote → OutNote} (h : slotGet s.nts.outbox slot = none) : s.modOut slot f = s := by
  simp only [State.modOut, h]

end

/-! ## The order of the queue (R14, R18) -/

theorem before_iff (a b : QEntry) : a.before b = true ↔ a.cls < b.cls ∨ (a.cls = b.cls ∧ a.enq ≤ b.enq) := by
  simp [QEntry.before]

theorem before_refl (a : QEntry) : a.before a = true := by simp [before_iff]

theorem before_total {a b : QEntry} (h : ¬ a.before b = true) : b.before a = true := by
  rw [before_iff] at h ⊢
  omega

theorem before_trans {a b c : QEntry} (h : a.before b = true) (k : b.before c = true) : a.before c = true := by
  rw [before_iff] at h k ⊢
  omega

theorem headOf_before {q : List QEntry} {e : QEntry} (h : headOf q = some e) : ∀ x ∈ q, e.before x = true := by
  induction q generalizing e with
  | nil => cases h
  | cons y q ih =>
    simp only [headOf] at h
    split at h
    · next hq =>
      cases h
      rw [headOf_eq_none.mp hq]
      simpa using before_refl y
    · next z hz =>
      have hzx := ih hz
      split at h
      · next hy =>
        cases h
        exact List.forall_mem_cons.mpr ⟨before_refl y, fun x hx => before_trans hy (hzx x hx)⟩
      · next hy =>
        cases h
        exact List.forall_mem_cons.mpr ⟨before_total hy, hzx⟩

theorem lastOf_eq_none {q : List QEntry} : lastOf q = none ↔ q = [] := by
  cases q with
  | nil => simp [lastOf]
  | cons e l =>
    simp only [lastOf]
    split
    · simp
    · split <;> simp

theorem lastOf_after {q : List QEntry} {e : QEntry} (h : lastOf q = some e) : ∀ x ∈ q, x.before e = true := by
  induction q generalizing e with
  | nil => cases h
  | cons y q ih =>
    simp only [lastOf] at h
    split at h
    · next hq =>
      cases h
      rw [lastOf_eq_none.mp hq]
      simpa using before_refl y
    · next z hz =>
      have hzx := ih hz
      split at h
      · next hy =>
        cases h
        simp only [Bool.and_eq_true] at hy
        exact List.forall_mem_cons.mpr ⟨before_refl y, fun x hx => before_trans (hzx x hx) hy.1⟩
      · next hy =>
        cases h
        refine List.forall_mem_cons.mpr ⟨?_, hzx⟩
        by_cases hb : e.before y = true
        · simpa [hb] using hy
        · exact before_total hb

/-- A class-0 entry stands before entries of greater classes. -/
theorem headOf_append_of_lt {q : List QEntry} {e : QEntry} (h : ∀ x ∈ q, e.cls < x.cls) : headOf (q ++ [e]) = some e := by
  cases hh : headOf (q ++ [e]) with
  | none => simp [headOf_eq_none] at hh
  | some y =>
    obtain hy | hy := List.mem_append.mp (headOf_mem hh)
    · have := (before_iff y e).mp (headOf_before hh e (by simp))
      have := h y hy
      omega
    · rw [List.mem_singleton.mp hy]

theorem victim_spec (cls : Nat) (own : Bool) (q : List QEntry) :
    (∀ e, victim cls own q = some e →
      (cls < e.cls ∧ ∀ x ∈ q, x.cls < e.cls ∨ (x.cls = e.cls ∧ x.enq ≤ e.enq))
        ∨ (cls = 0 ∧ own = true ∧ e.owner = .relay ∧ (∀ x ∈ q, x.cls = 0) ∧ ∀ x ∈ q, x.owner = .relay → x.enq ≤ e.enq))
    ∧ (victim cls own q = none →
      (∀ x ∈ q, x.cls ≤ cls) ∧ (cls = 0 → own = true → ∀ x ∈ q, x.owner ≠ .relay)) := by
  unfold victim
  split
  · next y hy =>
    refine ⟨fun e he => .inl ?_, fun h => by cases h⟩
    cases he
    have hmem := (List.mem_filter.mp (lastOf_mem hy)).2
    refine ⟨by simpa using hmem, fun x hx => ?_⟩
    by_cases hc : cls < x.cls
    · exact (before_iff _ _).mp (lastOf_after hy x (by simp [hx, hc]))
    · exact .inl (by simp at hmem; omega)
  · next hy =>
    have hle : ∀ x ∈ q, x.cls ≤ cls := by simpa using lastOf_eq_none.mp hy
    split
    · next hc =>
      simp only [Bool.and_eq_true, beq_iff_eq] at hc
      obtain ⟨rfl, rfl⟩ := hc
      have h0 : ∀ x ∈ q, x.cls = 0 := fun x hx => Nat.le_zero.mp (hle x hx)
      refine ⟨fun e he => .inr ?_, fun he => ⟨hle, fun _ _ x hx hr => ?_⟩⟩
      · have hmem := (List.mem_filter.mp (lastOf_mem he)).2
        simp only [Bool.and_eq_true, beq_iff_eq] at hmem
        refine ⟨rfl, rfl, hmem.2, h0, fun x hx hr => ?_⟩
        have := (before_iff _ _).mp (lastOf_after he x (by simp [hx, h0 x hx, hr]))
        omega
      · have := lastOf_eq_none.mp he
        simp only [List.filter_eq_nil_iff, Bool.and_eq_true, beq_iff_eq] at this
        exact this x hx ⟨h0 x hx, hr⟩
    · next hc => exact ⟨fun e he => (by cases he), fun _ => ⟨hle, fun h0 ho => by simp [h0, ho] at hc⟩⟩

/-! ## What an own frame writes into the owner's records -/

/-- The owner of an accepted frame writes its own record alone, which stands in the board, the note store or the tally. -/
theorem ownerAccepted_eq (s : State) (r : OwnRef) (n : Nat) :
    ∃ o m u, s.ownerAccepted r n = { s with ofb := o, nts := m, ttl := u } := by
  have hentry (k : JobKey) (f : BoardEntry → BoardEntry) :
      ∃ o m u, s.modEntry k f = { s with ofb := o, nts := m, ttl := u } := by
    unfold State.modEntry
    split <;> exact ⟨_, _, _, rfl⟩
  have hin (d i : Nat) (f : InNote → InNote) : ∃ o m u, s.modIn d i f = { s with ofb := o, nts := m, ttl := u } := by
    unfold State.modIn
    split <;> exact ⟨_, _, _, rfl⟩
  have hout (i : Nat) (f : OutNote → OutNote) : ∃ o m u, s.modOut i f = { s with ofb := o, nts := m, ttl := u } := by
    unfold State.modOut
    split <;> exact ⟨_, _, _, rfl⟩
  cases r with
  | claim k => exact hentry k _
  | take k => exact hentry k _
  | drop k => exact hentry k _
  | note slot => exact hout slot _
  | receipt kind dest id => cases kind <;> first | exact hin dest id _ | exact ⟨_, _, _, rfl⟩
  | tally | beacon | alarm | alarmEnd => exact ⟨_, _, _, rfl⟩

/-- An accepted frame has no mark (R20). -/
theorem ownMark_ownerAccepted (s : State) (r : OwnRef) (n : Nat) : (s.ownerAccepted r n).ownMark r = none := by
  cases r with
  | claim k =>
    cases h : s.entry k with
    | none => simp [State.ownerAccepted, State.ownMark, modEntry_of_none h, h]
    | some p =>
      rw [State.ownerAccepted, State.ownMark, entry_modEntry h]
      · simp
      · exact fun _ => rfl
  | take k =>
    cases h : s.entry k with
    | none => simp [State.ownerAccepted, State.ownMark, modEntry_of_none h, h]
    | some p =>
      rw [State.ownerAccepted, State.ownMark, entry_modEntry h]
      · simp
      · exact fun _ => rfl
  | drop k =>
    cases h : s.entry k with
    | none => simp [State.ownerAccepted, State.ownMark, modEntry_of_none h, h]
    | some p =>
      rw [State.ownerAccepted, State.ownMark, entry_modEntry h]
      · simp
      · exact fun _ => rfl
  | note slot =>
    cases h : slotGet s.nts.outbox slot with
    | none => simp [State.ownerAccepted, State.ownMark, modOut_of_none h, h]
    | some x =>
      simp only [State.ownerAccepted, State.ownMark, outbox_modOut h, Option.bind_some]
      split
      · rfl
      · next hl => exact if_neg fun hp => hl (by rw [beq_iff_eq.mp hp]; rfl)
  | receipt kind dest id =>
    cases kind with
    | refusedFull =>
      simp [State.ownerAccepted, State.ownMark]
      exact fun x _ hk hd hi => hk.elim (· hd) (· hi)
    | stored =>
      cases h : s.inNote dest id with
      | none => simp [State.ownerAccepted, State.ownMark, modIn_of_none h, h]
      | some p =>
        rw [show s.ownerAccepted (.receipt .stored dest id) n = s.modIn dest id (·.setMark .stored none) from rfl,
          State.ownMark, inNote_modIn h]
        · rfl
        · exact fun _ => ⟨rfl, rfl⟩
    | read =>
      cases h : s.inNote dest id with
      | none => simp [State.ownerAccepted, State.ownMark, modIn_of_none h, h]
      | some p =>
        rw [show s.ownerAccepted (.receipt .read dest id) n = s.modIn dest id (·.setMark .read none) from rfl,
          State.ownMark, inNote_modIn h]
        · rfl
        · exact fun _ => ⟨rfl, rfl⟩
  | tally =>
    simp only [State.ownerAccepted, State.ownMark, State.tallyPlace, State.setTtl_ttl]
    cases s.ttl.tally <;> rfl
  | beacon | alarm | alarmEnd => rfl

/-- An accepted own frame: the entry of this moment behind the others, and the next sequence when it has none (R4, R15). -/
theorem acceptOwn_eq (s : State) (o : Offered) : ∃ b m u, s.acceptOwn o = {
    (if o.seq.isSome then s else s.setRet { s.ret with seq := (s.ret.seq + 1) % 256 }) with
      cau := { s.cau with queue := s.cau.queue ++ [acceptedEntry s o] }
      ofb := b
      nts := m
      ttl := u } := by
  unfold State.acceptOwn
  dsimp only
  split
  · obtain ⟨b, m, u, h⟩ := ownerAccepted_eq (s.setQueue (s.cau.queue ++ [acceptedEntry s o])) o.ref (o.seq.getD s.ret.seq)
    exact ⟨b, m, u, h⟩
  · obtain ⟨b, m, u, h⟩ := ownerAccepted_eq ((s.setRet { s.ret with seq := next8 s.ret.seq }).setQueue
      (s.cau.queue ++ [acceptedEntry s o])) o.ref (o.seq.getD s.ret.seq)
    exact ⟨b, m, u, h⟩

theorem ownMark_acceptOwn (s : State) (o : Offered) : (s.acceptOwn o).ownMark o.ref = none :=
  ownMark_ownerAccepted _ _ _

/-! ## Where an offered frame goes (R15 to R19) -/

section
variable {s : State} {r : OwnRef} {b : Body}

/-- The frame neither merges nor is deferred. -/
def unmatched (c : Cau) (r : OwnRef) : Prop :=
  ∀ g, r.group = some g → (∀ x ∈ c.queue, x.owner.inGroup g = false) ∧ ∀ a, c.onAir = some a → a.entry.owner.inGroup g = false

theorem unmatched_of_no_group (c : Cau) (h : r.group = none) : unmatched c r := fun g hg => by rw [h] at hg; cases hg

theorem offerOwnQ_places {o : Offered} (hr : s.cpt.part = .run) (hg : unmatched s.cau o.ref) : s.offerOwnQ o = s.placeOwn o := by
  have hrun : (!s.inRun) = false := by simp [State.inRun, hr]
  unfold State.offerOwnQ
  rw [hrun, if_neg Bool.false_ne_true]
  split
  · rfl
  · next g hgr =>
    obtain ⟨hq, ha⟩ := hg g hgr
    have hnone : s.cau.queue.find? (·.owner.inGroup g) = none := List.find?_eq_none.mpr fun x hx => by simp [hq x hx]
    rw [hnone]
    dsimp only
    split
    · next a hair => rw [ha a hair, if_neg Bool.false_ne_true]
    · rfl

theorem offer_places (hr : s.cpt.part = .run) (hb : s.ownBody r = some b) (hg : unmatched s.cau r) :
    s.offer r = (s.placeOwn ⟨r, b, none, none⟩).kick := by
  simp only [State.offer, State.offerRefQ, hb]
  rw [offerOwnQ_places hr hg]

theorem placeOwn_of_room {o : Offered} (hc : s.cau.count < 8) : s.placeOwn o = s.acceptOwn o := if_pos hc

theorem offer_accepts (hr : s.cpt.part = .run) (hb : s.ownBody r = some b) (hg : unmatched s.cau r) (hc : s.cau.count < 8) :
    s.offer r = (s.acceptOwn ⟨r, b, none, none⟩).kick := by
  rw [offer_places hr hb hg, placeOwn_of_room hc]

end

end Sys2Proof
end

section
/-! PROOFS. A full queue (O7), and own frames that join, merge, are deferred or return (O8). -/

namespace Sys2Proof

open Sys2Proof.Machine

/-! ## A frame that finds no place (R18, R19) -/

theorem ownerNotSent_eq (s : State) (r : OwnRef) (m : Mark) :
    ∃ o n u, s.ownerNotSent r m = { s with ofb := o, nts := n, ttl := u } := by
  have hentry (k : JobKey) (f : BoardEntry → BoardEntry) :
      ∃ o n u, s.modEntry k f = { s with ofb := o, nts := n, ttl := u } := by
    unfold State.modEntry
    split <;> exact ⟨_, _, _, rfl⟩
  have hin (d i : Nat) (f : InNote → InNote) : ∃ o n u, s.modIn d i f = { s with ofb := o, nts := n, ttl := u } := by
    unfold State.modIn
    split <;> exact ⟨_, _, _, rfl⟩
  have hout (i : Nat) (f : OutNote → OutNote) : ∃ o n u, s.modOut i f = { s with ofb := o, nts := n, ttl := u } := by
    unfold State.modOut
    split <;> exact ⟨_, _, _, rfl⟩
  have hkeep (d i : Nat) : ∃ o n u, s.keepRefusal d i m = { s with ofb := o, nts := n, ttl := u } := by
    unfold State.keepRefusal
    split
    · exact ⟨_, _, _, rfl⟩
    · split <;> exact ⟨_, _, _, rfl⟩
  cases r with
  | claim k => exact hentry k _
  | take k => exact hentry k _
  | drop k => exact hentry k _
  | note slot => exact hout slot _
  | receipt kind dest id => cases kind <;> first | exact hin dest id _ | exact hkeep dest id
  | tally | beacon | alarm | alarmEnd => exact ⟨_, _, _, rfl⟩

/-- A refused frame is counted, and its owner alone is told. -/
theorem refuseOwn_eq (s : State) (o : Offered) : ∃ b n u, s.refuseOwn o = { s.countRefused with ofb := b, nts := n, ttl := u } :=
  ownerNotSent_eq _ _ _

/-- A displaced entry leaves the queue and is counted by its owner; beside the records, the cache alone may change (R19). -/
theorem displace_eq (s : State) (e : QEntry) : ∃ b n u c, s.displace e = { s with
    cau := { s.cau with queue := s.cau.queue.erase e }
    rru := { s.rru with
      cache := c
      stats := if e.owner = .relay then { s.rru.stats with relaysDropped := inc16 s.rru.stats.relaysDropped }
        else { s.rru.stats with ownRefused := inc16 s.rru.stats.ownRefused } }
    ofb := b
    nts := n
    ttl := u } := by
  unfold State.displace
  dsimp only
  split
  · next h => exact ⟨_, _, _, _, by rw [if_pos h]; rfl⟩
  · next r h =>
    obtain ⟨b, n, u, heq⟩ := ownerNotSent_eq (s.setQueue (s.cau.queue.erase e)).countRefused r ⟨e.mark.getD s.now, some e.frame.seq⟩
    exact ⟨b, n, u, s.rru.cache, by rw [if_neg (by rw [h]; exact Owner.noConfusion)]; exact heq⟩

theorem victim_cases {s : State} {o : Offered} (hc : 8 ≤ s.cau.count) :
    (∀ e, victim o.ref.cls true s.cau.queue = some e → s.placeOwn o = (s.displace e).acceptOwn o)
      ∧ (victim o.ref.cls true s.cau.queue = none → s.placeOwn o = s.refuseOwn o) := by
  have hn : ¬ s.cau.count < queueMax := Nat.not_lt.mpr hc
  exact ⟨fun e he => by simp only [State.placeOwn, if_neg hn, he], fun he => by simp only [State.placeOwn, if_neg hn, he]⟩

/-! ## The marks of refused frames (R19, R79, R149, R157) -/

section
variable {s : State} {m : Mark}

theorem ownMark_claim {k : JobKey} {p : Nat × BoardEntry} (h : s.entry k = some p) (hp : p.2.state = .claimPending) :
    (s.ownerNotSent (.claim k) m).ownMark (.claim k) = some m := by
  rw [State.ownerNotSent, State.ownMark, entry_modEntry h]
  · simp [hp]
  · exact fun e => by split <;> rfl

theorem ownMark_take {k : JobKey} {p : Nat × BoardEntry} (h : s.entry k = some p) (hp : p.2.state.holdsJob = true) :
    (s.ownerNotSent (.take k) m).ownMark (.take k) = some m := by
  rw [State.ownerNotSent, State.ownMark, entry_modEntry h]
  · simp [hp]
  · exact fun e => by split <;> rfl

theorem ownMark_drop {k : JobKey} {p : Nat × BoardEntry} (h : s.entry k = some p) :
    (s.ownerNotSent (.drop k) m).ownMark (.drop k) = some m := by
  rw [State.ownerNotSent, State.ownMark, entry_modEntry h]
  · rfl
  · exact fun e => rfl

theorem ownMark_note {slot : Nat} {x : OutNote} (h : slotGet s.nts.outbox slot = some x) (hx : x.state.live = true) :
    (s.ownerNotSent (.note slot) m).ownMark (.note slot) = some m := by
  rw [State.ownerNotSent, State.ownMark, outbox_modOut h]
  simp [hx]

theorem ownMark_stored {o i : Nat} {p : Nat × InNote} (h : s.inNote o i = some p) :
    (s.ownerNotSent (.receipt .stored o i) m).ownMark (.receipt .stored o i) = some m := by
  rw [show s.ownerNotSent (.receipt .stored o i) m = s.modIn o i (·.setMark .stored (some m)) from rfl, State.ownMark,
    inNote_modIn h]
  · rfl
  · exact fun _ => ⟨rfl, rfl⟩

theorem ownMark_read {o i : Nat} {p : Nat × InNote} (h : s.inNote o i = some p) :
    (s.ownerNotSent (.receipt .read o i) m).ownMark (.receipt .read o i) = some m := by
  rw [show s.ownerNotSent (.receipt .read o i) m = s.modIn o i (·.setMark .read (some m)) from rfl, State.ownMark,
    inNote_modIn h]
  · rfl
  · exact fun _ => ⟨rfl, rfl⟩

end

/-- Settles O7: the head and the displaced entry are first and last in one order; a frame offered to a full queue takes the
place of the displaced entry, or is refused. -/
theorem fullQueueDisplacesByClassAndTime : Obligations.FullQueueDisplacesByClassAndTime := by
  refine ⟨fun q => ⟨headOf_eq_none, fun e he => ⟨headOf_mem he, fun x hx => (before_iff _ _).mp (headOf_before he x hx)⟩⟩,
    fun cls own q => ⟨fun e he => ⟨victim_mem he, (victim_spec cls own q).1 e he⟩, (victim_spec cls own q).2⟩,
    fun s r b hr hg hb hc hw => ⟨offer_frame s r, fun e he => ?_, fun he => ?_⟩⟩
  · obtain ⟨o, n, u, c, hd⟩ := displace_eq s e
    obtain ⟨o', n', u', ha⟩ := acceptOwn_eq (s.displace e) ⟨r, b, none, none⟩
    have hoffer : s.offer r = (s.displace e).acceptOwn ⟨r, b, none, none⟩ := by
      rw [offer_places hr hb (unmatched_of_no_group _ hg), (victim_cases hc).1 e he]
      refine kick_of_waits ?_
      rw [ha, hd]
      exact hw
    rw [hoffer, ha, hd]
    exact ⟨rfl, rfl⟩
  · obtain ⟨o, n, u, ha⟩ := refuseOwn_eq s ⟨r, b, none, none⟩
    have hoffer : s.offer r = s.refuseOwn ⟨r, b, none, none⟩ := by
      rw [offer_places hr hb (unmatched_of_no_group _ hg), (victim_cases hc).2 he]
      refine kick_of_waits ?_
      rw [ha]
      exact hw
    rw [hoffer]
    refine ⟨by rw [ha]; rfl, by rw [ha]; rfl, by rw [ha]; rfl, fun k slot e hk => ⟨?_, ?_, ?_⟩, ?_, fun origin id p hp => ?_⟩
    · rintro rfl hst
      exact ownMark_claim (s := s.countRefused) hk hst
    · rintro rfl hst
      exact ownMark_take (s := s.countRefused) hk hst
    · rintro rfl
      exact ownMark_drop (s := s.countRefused) hk
    · rintro slot x rfl hx hl
      exact ownMark_note (s := s.countRefused) hx hl
    · rintro (rfl | rfl)
      · exact ownMark_stored (s := s.countRefused) hp
      · exact ownMark_read (s := s.countRefused) hp

/-! ## A frame that joins the queue (R4, R13, R15) -/

/-- The state with this own frame accepted behind the others, before the access unit decides; what its owner wrote left open. -/
def joined (s : State) (r : OwnRef) (b : Body) (o : Ofb) (n : Nts) (u : Ttl) : State :=
  { s.setRet { s.ret with seq := (s.ret.seq + 1) % 256 } with
    cau := { s.cau with queue := s.cau.queue ++ [s.ownEntry r b] }
    ofb := o
    nts := n
    ttl := u }

theorem offer_joins {s : State} {r : OwnRef} {b : Body} (hr : s.cpt.part = .run) (hb : s.ownBody r = some b)
    (hg : unmatched s.cau r) (hc : s.cau.count < 8) :
    ∃ o n u, s.offer r = (joined s r b o n u).kick ∧ (joined s r b o n u).ownMark r = none := by
  obtain ⟨o, n, u, h⟩ := acceptOwn_eq s ⟨r, b, none, none⟩
  have hj : s.acceptOwn ⟨r, b, none, none⟩ = joined s r b o n u := h
  have hm := ownMark_acceptOwn s ⟨r, b, none, none⟩
  rw [hj] at hm
  exact ⟨o, n, u, by rw [offer_accepts hr hb hg hc, hj], hm⟩

/-- A frame that joins beside others leaves a waiting unit as it is. -/
theorem offer_waits {s : State} {r : OwnRef} {b : Body} (hr : s.cpt.part = .run) (hb : s.ownBody r = some b)
    (hg : unmatched s.cau r) (hc : s.cau.count < 8) (hw : s.cau.waits) :
    ∃ o n u, s.offer r = joined s r b o n u ∧ (joined s r b o n u).ownMark r = none := by
  obtain ⟨o, n, u, h, hm⟩ := offer_joins hr hb hg hc
  exact ⟨o, n, u, h.trans (kick_of_waits hw), hm⟩

theorem group_of_class0 {r : OwnRef} (h : r.cls = 0) : r.group = some .class0 := by
  cases r <;> first | rfl | cases h

theorem unmatched_of_empty {s : State} (r : OwnRef) (ha : s.cau.onAir = none) (hq : s.cau.queue = []) : unmatched s.cau r :=
  fun g _ => ⟨by rw [hq]; simp, fun a h => by rw [ha] at h; cases h⟩

theorem count_of_empty {c : Cau} (ha : c.onAir = none) (hq : c.queue = []) : c.count < 8 := by
  simp [Cau.count, ha, hq]

/-- A frame that becomes the head of a resting unit is decided on at once (R15, R23, R24). -/
theorem offer_heads {s : State} {r : OwnRef} {b : Body} (hr : s.cpt.part = .run) (hb : s.ownBody r = some b)
    (ha : s.cau.onAir = none) (hq : s.cau.queue = []) (hu : s.cau.au = .rest) (hl : s.cau.windowLaw) :
    ∃ o n u, (joined s r b o n u).ownMark r = none
      ∧ (s.clearFor r.cls → s.offer r = (joined s r b o n u).airing (s.ownEntry r b) [])
      ∧ (¬ s.clearFor r.cls → ∃ slots, 1 ≤ slots ∧ slots ≤ (if r.cls = 0 then 2 else s.cau.w)
        ∧ s.offer r = (joined s r b o n u).backingOff [s.ownEntry r b] slots) := by
  obtain ⟨o, n, u, h, hm⟩ := offer_joins hr hb (unmatched_of_empty r ha hq) (count_of_empty ha hq)
  have hqueue : (joined s r b o n u).cau.queue = [s.ownEntry r b] := by
    show s.cau.queue ++ _ = _
    rw [hq, List.nil_append]
  have hhead : headOf (joined s r b o n u).cau.queue = some (s.ownEntry r b) := by rw [hqueue]; rfl
  have hkick : s.offer r = (joined s r b o n u).decide false := h.trans (kick_of_rest ha hu hhead)
  have hmay : (joined s r b o n u).mayKey (s.ownEntry r b) = true ↔ s.clearFor r.cls := mayKey_iff _ _
  refine ⟨o, n, u, hm, fun hclear => ?_, fun hclear => ?_⟩
  · rw [hkick, decide_keys false hhead (hmay.mpr hclear) (keyed_of_no_copy rfl), hqueue, List.erase_cons_head]
  · obtain ⟨slots, h1, h2, heq⟩ := drawBackoff_cases (joined s r b o n u) (s.ownEntry r b) hl
    exact ⟨slots, h1, h2, by rw [hkick, decide_waits false hhead fun hc => hclear (hmay.mp hc), ← hqueue]; exact heq⟩

/-- In blocked operation a class-0 frame before all others is keyed at once (R29). -/
theorem offer_blocked {s : State} {r : OwnRef} {b : Body} (hr : s.cpt.part = .run) (hb : s.ownBody r = some b)
    (ha : s.cau.onAir = none) (hbl : s.cau.blocked = true) (h0 : r.cls = 0) (hc : s.cau.count < 8)
    (hq : ∀ x ∈ s.cau.queue, 0 < x.cls ∧ x.owner.inGroup .class0 = false) :
    ∃ o n u, (joined s r b o n u).ownMark r = none
      ∧ s.offer r = (joined s r b o n u).airing (s.ownEntry r b) s.cau.queue := by
  have hg : unmatched s.cau r := fun g hgr => by
    cases (group_of_class0 h0).symm.trans hgr
    exact ⟨fun x hx => (hq x hx).2, fun a h => by rw [ha] at h; cases h⟩
  obtain ⟨o, n, u, h, hm⟩ := offer_joins hr hb hg hc
  have hhead : headOf (s.cau.queue ++ [s.ownEntry r b]) = some (s.ownEntry r b) :=
    headOf_append_of_lt fun x hx => by rw [show (s.ownEntry r b).cls = 0 from h0]; exact (hq x hx).1
  have hnot : s.ownEntry r b ∉ s.cau.queue := fun hx => by
    have := (hq _ hx).1
    rw [show (s.ownEntry r b).cls = 0 from h0] at this
    omega
  refine ⟨o, n, u, hm, ?_⟩
  rw [h, kick_keys_blocked (s := joined s r b o n u) ha hbl hhead h0 rfl]
  show (joined s r b o n u).airing _ ((s.cau.queue ++ [s.ownEntry r b]).erase _) = _
  rw [List.erase_append_right _ hnot, List.erase_cons_head, List.append_nil]

/-! ## Merging and deferring (R16, R17) -/

theorem offer_merges {s : State} {r : OwnRef} {b : Body} {g : Group} {e : QEntry} {before after : List QEntry}
    (hr : s.cpt.part = .run) (hg : r.group = some g) (hb : s.ownBody r = some b)
    (hq : s.cau.queue = before ++ e :: after) (he : e.owner.inGroup g = true)
    (hbefore : ∀ x ∈ before, x.owner.inGroup g = false ∧ x ≠ e) (hafter : e ∉ after) (hw : s.cau.waits) :
    ∃ o n u, s.offer r = { s with
      cau := { s.cau with
        queue := before ++ { e with frame := s.ownFrame b e.frame.seq, owner := .own r } :: after }
      ofb := o
      nts := n
      ttl := u } := by
  have hrun : (!s.inRun) = false := by simp [State.inRun, hr]
  have hfind : s.cau.queue.find? (·.owner.inGroup g) = some e := by
    rw [hq, List.find?_append, List.find?_eq_none.mpr fun x hx => by simp [(hbefore x hx).1]]
    simp [he]
  have hmap (e' : QEntry) : (s.cau.queue.map fun x => if x = e then e' else x) = before ++ e' :: after := by
    have hself (l : List QEntry) (hl : ∀ x ∈ l, x ≠ e) : (l.map fun x => if x = e then e' else x) = l :=
      (List.map_congr_left fun x hx => if_neg (hl x hx)).trans (List.map_id' l)
    rw [hq, List.map_append, List.map_cons, hself before fun x hx => (hbefore x hx).2,
      hself after fun x hx hxe => hafter (hxe ▸ hx), if_pos rfl]
  obtain ⟨o, n, u, h⟩ := ownerAccepted_eq (s.setQueue (before
    ++ { e with frame := s.ownFrame b e.frame.seq, owner := .own r } :: after)) r e.frame.seq
  refine ⟨o, n, u, ?_⟩
  have hoffer : s.offerRefQ r = _ := Eq.trans (by
    simp only [State.offerRefQ, hb, State.offerOwnQ, hrun, if_neg Bool.false_ne_true, hg, hfind, State.mergeOwn, hmap]) h
  rw [State.offer, hoffer]
  exact kick_of_waits hw

theorem offer_defers {s : State} {r : OwnRef} {b : Body} {g : Group} {a : OnAir} (hr : s.cpt.part = .run)
    (hg : r.group = some g) (hb : s.ownBody r = some b) (hq : ∀ x ∈ s.cau.queue, x.owner.inGroup g = false)
    (ha : s.cau.onAir = some a) (hag : a.entry.owner.inGroup g = true) :
    ∃ u, s.offer r = { s with cau := s.cau.setDeferred g (some ⟨r, b, none, none⟩), ttl := u } := by
  have hrun : (!s.inRun) = false := by simp [State.inRun, hr]
  have hfind : s.cau.queue.find? (·.owner.inGroup g) = none := List.find?_eq_none.mpr fun x hx => by simp [hq x hx]
  have hoffer : s.offerRefQ r = s.deferOwn ⟨r, b, none, none⟩ g := by
    simp only [State.offerRefQ, hb, State.offerOwnQ, hrun, if_neg Bool.false_ne_true, hg, hfind, ha, hag, if_true]
  obtain ⟨u, hd⟩ : ∃ u, s.deferOwn ⟨r, b, none, none⟩ g
      = { s with cau := s.cau.setDeferred g (some ⟨r, b, none, none⟩), ttl := u } := by
    unfold State.deferOwn
    dsimp only
    split <;> exact ⟨_, rfl⟩
  refine ⟨u, ?_⟩
  rw [State.offer, hoffer, hd]
  refine kick_of_onAir ?_
  have hair : (s.cau.setDeferred g (some ⟨r, b, none, none⟩)).onAir = s.cau.onAir := by cases g <;> rfl
  exact (congrArg Option.isSome (hair.trans ha)).trans rfl

/-! ## The "space" notice with one mark (R20) -/

theorem pickLeast_singleton {α : Type} (s : State) (key : α → Nat) (x : α) : s.pickLeast key [x] = some x := by
  simp [State.pickLeast, leastBy]

theorem space_returns {s : State} {r : OwnRef} {b : Body} {m : Mark} (hr : s.cpt.part = .run) (hg : r.group = none)
    (hb : s.ownBody r = some b) (hm : s.ownMark r = some m) (hs : s.standingMarks = [(m.time, r)]) (hc : s.cau.count < 8)
    (hw : s.cau.waits) : s.space = s.nextDraw.acceptOwn ⟨r, b, m.seq, some m.time⟩ := by
  have hoffer : s.nextDraw.reofferQ r = s.nextDraw.acceptOwn ⟨r, b, m.seq, some m.time⟩ := by
    have hb' : s.nextDraw.ownBody r = some b := hb
    have hm' : s.nextDraw.ownMark r = some m := hm
    simp only [State.reofferQ, hb', hm']
    rw [offerOwnQ_places (s := s.nextDraw) hr (unmatched_of_no_group _ hg), placeOwn_of_room (s := s.nextDraw) hc]
  have hspace : s.space = (s.nextDraw.reofferQ r).kick := by
    simp only [State.space, State.spaceThen, if_pos (show s.cau.count < queueMax from hc), hs, List.length_singleton,
      reofferAll, pickLeast_singleton]
  rw [hspace, hoffer]
  obtain ⟨o, n, u, h⟩ := acceptOwn_eq s.nextDraw ⟨r, b, m.seq, some m.time⟩
  refine kick_of_waits ?_
  rw [h]
  exact hw

/-- Settles O8: by what the queue and the air hold of the frame's group, and by whether the access unit has a head to decide on. -/
theorem ownFramesJoinMergeDeferOrReturn : Obligations.OwnFramesJoinMergeDeferOrReturn := by
  refine ⟨fun s r b hr hg hb hc hw => ?join, fun s r b hr hb ha => ⟨fun hq hu hl => ?rest, fun hbl h0 hc hq => ?blocked⟩,
    fun s r b g e before after hr hg hb hq he hbefore hafter hw => ?merge,
    fun s r b g a hr hg hb hq ha hag => ?defer, fun s r b m hr hg hb hm hs hc hw => ?space⟩
  case join =>
    obtain ⟨o, n, u, h, hm⟩ := offer_waits hr hb (unmatched_of_no_group _ hg) hc hw
    refine ⟨?_, ?_, ?_, ?_, ?_, ?_, offer_frame s r⟩
    all_goals rw [h]
    exacts [rfl, rfl, rfl, hm, rfl, rfl]
  case rest =>
    obtain ⟨o, n, u, hm, hclear, hwait⟩ := offer_heads hr hb ha hq hu hl
    by_cases hcl : s.clearFor r.cls
    · have h := hclear hcl
      refine ⟨⟨?_, ?_, ?_, offer_frame s r⟩, fun _ => ⟨?_, ?_, ?_⟩, fun hn => absurd hcl hn⟩
      all_goals rw [h]
      exacts [rfl, rfl, hm, rfl, rfl, rfl]
    · obtain ⟨slots, h1, h2, h⟩ := hwait hcl
      refine ⟨⟨?_, ?_, ?_, offer_frame s r⟩, fun hn => absurd hn hcl, fun _ => ⟨slots, h1, h2, ?_, ?_, ?_⟩⟩
      all_goals rw [h]
      exacts [rfl, rfl, hm, rfl, rfl, rfl]
  case blocked =>
    obtain ⟨o, n, u, hm, h⟩ := offer_blocked hr hb ha hbl h0 hc hq
    refine ⟨⟨?_, ?_, ?_, offer_frame s r⟩, ?_, ?_, ?_⟩
    all_goals rw [h]
    exacts [rfl, rfl, hm, rfl, rfl, rfl]
  case merge =>
    obtain ⟨o, n, u, h⟩ := offer_merges hr hg hb hq he hbefore hafter hw
    exact ⟨by rw [h]; rfl, by rw [h], offer_frame s r⟩
  case defer =>
    obtain ⟨u, h⟩ := offer_defers hr hg hb hq ha hag
    refine ⟨?_, ?_, ?_, ?_, fun g' hg' => ?_, offer_frame s r⟩
    all_goals rw [h]
    · cases g <;> rfl
    · cases g <;> rfl
    · cases g <;> rfl
    · cases g <;> cases g' <;> first | rfl | exact absurd rfl hg'
  case space =>
    have h := space_returns hr hg hb hm hs hc hw
    obtain ⟨o, n, u, ha⟩ := acceptOwn_eq s.nextDraw ⟨r, b, m.seq, some m.time⟩
    refine ⟨?_, ?_, ?_, space_frame s⟩
    · rw [h, ha]
      rfl
    · rw [h, ha]
      cases m.seq <;> rfl
    · rw [h]
      exact ownMark_acceptOwn s.nextDraw _

end Sys2Proof
end

section
/-! PROOFS. Commands answered in a part state that accepts them, and frames under the updates that follow them (R110, R183 to R185). -/

namespace Sys2Proof

open Sys2Proof.Machine

/-! ## A command on a ready port (R183 to R185) -/

/-- An operating command in RUN does its act, and the port shows the answer. -/
theorem operating_answers {s : State} {code : Byte} {params : List Byte} {act : Act} (hb : blind act) (h : s.ready .run) :
    s.hostCommand code params .operating act = (act s).1.answering s (!params.isEmpty) (act s).2 := by
  obtain ⟨hp, hr, hpart⟩ := h
  rw [hostCommand_answering hb hp hr, answerOf, hpart]
  rfl

/-- A configuring command in CONFIG does its act, and the port shows the answer. -/
theorem config_answers {s : State} {code : Byte} {params : List Byte} {act : Act} (hb : blind act) (h : s.ready .config) :
    s.hostCommand code params .config act = (act s).1.answering s (!params.isEmpty) (act s).2 := by
  obtain ⟨hp, hr, hpart⟩ := h
  rw [hostCommand_answering hb hp hr, answerOf, hpart]
  rfl

/-- An operating command whose act has this outcome. -/
theorem operating_next {s u : State} {code : Byte} {params result : List Byte} {act : Act} (hb : blind act)
    (h : s.ready .run) (ha : act s = (u, result)) :
    s.hostCommand code params .operating act = u.answering s (!params.isEmpty) result := by
  rw [operating_answers hb h, ha]

/-- A configuring command whose act has this outcome. -/
theorem config_next {s u : State} {code : Byte} {params result : List Byte} {act : Act} (hb : blind act)
    (h : s.ready .config) (ha : act s = (u, result)) :
    s.hostCommand code params .config act = u.answering s (!params.isEmpty) result := by
  rw [config_answers hb h, ha]

end Sys2Proof

namespace Sys2Proof.Machine

/-! ## Frames under the same update on both sides -/

section
variable {s t : State}

/-- The pins and the port are one on both sides, so they may be written alike. -/
theorem QueueFrame.alike (h : QueueFrame s t) {p p' : Pins} {c c' : Cpt} (hp : p' = p) (hc : c' = c) :
    QueueFrame { s with pins := p, cpt := c } { t with pins := p', cpt := c' } :=
  { h with pins := hp, cpt := hc }

theorem QueueFrame.answering (h : QueueFrame s t) (v : State) (c : Bool) (l : List Byte) :
    QueueFrame (s.answering v c l) (t.answering v c l) :=
  h.alike (congrArg (fun p : Pins => { p with csnLow := false }) h.pins)
    (congrArg (fun d : Cpt => { d with
      phase := .result, code := 0, params := [], abandonAt := none, result := l, phaseError := false, muted := .off
      sdo := v.lastStatus c }) h.cpt)

theorem QueueFrame.raiseEvent (h : QueueFrame s t) (k : EventKind) (a b : Nat) :
    QueueFrame (s.raiseEvent k a b) (t.raiseEvent k a b) :=
  h.alike h.pins (congrArg (fun d : Cpt => { d with
    events := (raiseIn d.events d.overflow k a b).1, overflow := (raiseIn d.events d.overflow k a b).2 }) h.cpt)

/-- Pins, port, store and fare engine written on both sides, up to the sequence counter and the availability. -/
theorem AvailFrame.alike (h : AvailFrame s t) {p p' : Pins} {c c' : Cpt} {r r' : Retained} {f f' : Fre} {x x' : BitVec 16}
    (hp : p' = p) (hc : c' = c) (hr : r' = { r with seq := r'.seq }) (hf : f' = { f with avail := f'.avail })
    (hx : x = storeCheck r → x' = storeCheck r') :
    AvailFrame { s with pins := p, cpt := c, ret := r, fre := f, check := x }
      { t with pins := p', cpt := c', ret := r', fre := f', check := x' } :=
  { h with pins := hp, cpt := hc, ret := hr, fre := hf, store := hx }

theorem AvailFrame.answering (h : AvailFrame s t) (v : State) (c : Bool) (l : List Byte) :
    AvailFrame (s.answering v c l) (t.answering v c l) :=
  h.alike (congrArg (fun p : Pins => { p with csnLow := false }) h.pins)
    (congrArg (fun d : Cpt => { d with
      phase := .result, code := 0, params := [], abandonAt := none, result := l, phaseError := false, muted := .off
      sdo := v.lastStatus c }) h.cpt) h.ret h.fre h.store

theorem AvailFrame.raiseEvent (h : AvailFrame s t) (k : EventKind) (a b : Nat) :
    AvailFrame (s.raiseEvent k a b) (t.raiseEvent k a b) :=
  h.alike h.pins (congrArg (fun d : Cpt => { d with
    events := (raiseIn d.events d.overflow k a b).1, overflow := (raiseIn d.events d.overflow k a b).2 }) h.cpt)
    h.ret h.fre h.store

/-- A change of the store that leaves the sequence counter to the queue, and one of the fare engine beside the availability. -/
theorem AvailFrame.withStore (h : AvailFrame s t) {r r' : Retained} {f f' : Fre} (hr : r' = { r with seq := r'.seq })
    (hf : f' = { f with avail := f'.avail }) :
    AvailFrame ({ s with fre := f }.withRet r) ({ t with fre := f' }.withRet r') :=
  h.alike h.pins h.cpt hr hf fun _ => rfl

/-! ## The fare state (R88, R107) -/

theorem idleUpdate_eq (s : State) :
    s.idleUpdate = { s with fre := { s.fre with idleSince := s.idleFrom s.ret.fare s.fre.driver } } := by
  unfold State.idleUpdate State.idleFrom
  by_cases h : s.ret.fare = .vacant ∧ s.fre.driver = .available
  · obtain ⟨hf, hd⟩ := h
    cases hi : s.fre.idleSince with
    | none => simp [hf, hd, State.setFre]
    | some t =>
      simp [hf, hd]
      rw [← hd, ← hi]
  · rw [if_neg h, if_neg (by simpa using h)]
    rfl

theorem AvailFrame.idleFrom (h : AvailFrame s t) (f : FareState) (d : DriverStatus) : t.idleFrom f d = s.idleFrom f d := by
  unfold State.idleFrom
  have hi : t.fre.idleSince = s.fre.idleSince := by rw [h.fre]
  rw [h.now, hi]

/-- A change of the fare state on top of a frame (R88, R107). -/
theorem AvailFrame.setFare (h : AvailFrame s t) (f : FareState) :
    AvailFrame ({ s with fre := { s.fre with idleSince := s.idleFrom f s.fre.driver } }.withRet { s.ret with fare := f })
      (t.setFare f) := by
  refine .trans ?_ (recompute_frame _)
  rw [idleUpdate_eq]
  have hd : t.fre.driver = s.fre.driver := by rw [h.fre]
  have hi : t.idleFrom f t.fre.driver = s.idleFrom f s.fre.driver := by rw [hd, h.idleFrom]
  refine h.withStore (f' := { t.fre with idleSince := t.idleFrom f t.fre.driver })
    (congrArg (fun r : Retained => { r with fare := f }) h.ret) ?_
  rw [hi]
  exact congrArg (fun g : Fre => { g with idleSince := s.idleFrom f s.fre.driver }) h.fre

end

theorem boardAvail_fre (s : State) (a : Avail) : (s.boardAvail a).fre = s.fre := by
  unfold State.boardAvail State.convertBoard
  dsimp only
  split
  · exact (removeClaims_frame _ _).fre
  · rfl

/-- The availability held after a recomputation is the one of the moment (R110). -/
theorem recompute_avail_held (s : State) : s.recompute.fre.avail = some s.recompute.availNow := by
  have hnow : s.recompute.availNow = s.availNow := by
    have h := recompute_frame s
    unfold State.availNow
    rw [h.ret, h.ppu, h.fre]
  rw [hnow]
  unfold State.recompute
  dsimp only
  split
  · next h => exact beq_iff_eq.mp h
  · exact congrArg Fre.avail (boardAvail_fre _ _)

end Sys2Proof.Machine
end

section
/-! PROOFS. Beacons (O17), the extras of a fare (O32), CONFIGURE and LOAD-ZONE (O48), and the meter figures (O49). -/

namespace Sys2Proof

open Sys2Proof.Machine

/-! ## Values shared by many rows -/

theorem randomIn_mem (s : State) {lo hi : Nat} (h : lo ≤ hi) : lo ≤ s.randomIn lo hi ∧ s.randomIn lo hi ≤ hi := by
  have := Nat.mod_lt (Config.free s.draws) (show 0 < hi + 1 - lo by omega)
  unfold State.randomIn
  omega

section
variable {s : State} {st : Station} (h : s.cpt.config = some st)
include h

theorem ownId_of : s.ownId = st.id := by simp [State.ownId, h]
theorem ownFleet_of : s.ownFleet = st.fleet := by simp [State.ownFleet, h]
theorem ownClass_of : s.ownClass = st.vclass := by simp [State.ownClass, h]
theorem homeBase_of : s.homeBase = st.home := by simp [State.homeBase, h]

end

/-! ## Beacons (R66 to R68) -/

theorem due_some {t now : Nat} (h : t ≤ now) : due (some t) now = true := decide_eq_true h

theorem exec_beacon {s : State} {c : Instr} {t : Nat} (ht : t ≤ s.now)
    (h : (c = .beaconInterval ∧ s.ppu.intervalAt = some t) ∨ (c = .beaconChangeTimer ∧ s.ppu.changeAt = some t)) :
    exec c s = .next s.sendBeacon := by
  rcases h with ⟨rfl, h⟩ | ⟨rfl, h⟩
  · show Host.Outcome.next (if due s.ppu.intervalAt s.now then s.sendBeacon else s) = _
    rw [h, due_some ht, if_pos rfl]
  · show Host.Outcome.next (if due s.ppu.changeAt s.now then s.sendBeacon else s) = _
    rw [h, due_some ht, if_pos rfl]

/-- Settles O17: both timers send the beacon, which joins the queue as every own frame of its group. -/
theorem beaconTimersOfferABeacon : Obligations.BeaconTimersOfferABeacon := by
  intro s c t st hst hr ht hc
  have hint : s.beaconInterval = st.beacon := by simp [State.beaconInterval, hst]
  have hwait := randomIn_mem s (show st.beacon * 900 ≤ st.beacon * 1100 by omega)
  refine ⟨s.randomIn (st.beacon * 900) (st.beacon * 1100), hwait.1, hwait.2, ⟨_, exec_beacon ht hc, ?_⟩, fun hcount hw hq ha => ?_⟩
  · unfold State.sendBeacon
    rw [hint]
    exact (nextDraw_frame _).trans (offer_frame _ _)
  · have hg : unmatched s.cau .beacon := fun g hgr => by cases hgr; exact ⟨hq, ha⟩
    rw [exec_beacon ht hc, State.sendBeacon, hint, ← ownId_of hst, ← ownFleet_of hst, ← ownClass_of hst]
    dsimp only
    exact congrArg _ ((offer_accepts (s := s.nextDraw.setPpu _) (r := .beacon) hr rfl hg hcount).trans (kick_of_waits hw))

/-! ## Extras (R121, R122) -/

theorem setPriced_below {s : State} {t : Trip} (h : t.rawTotal < 999999 ∨ t.flags.fareLimit = true) :
    s.setPriced t = s.setTrip t := by
  have : (totalMax ≤ t.rawTotal && !t.flags.fareLimit) = false := by
    rcases h with h | h
    · simp [show ¬ totalMax ≤ t.rawTotal from Nat.not_le.mpr h]
    · simp [h]
  rw [State.setPriced, this, if_neg Bool.false_ne_true]

theorem setPriced_limit {s : State} {t : Trip} (h : 999999 ≤ t.rawTotal) (hf : t.flags.fareLimit = false) :
    s.setPriced t = (s.setTrip { t with flags := { t.flags with fareLimit := true } }).raiseEvent .fareLimit 0 0 := by
  have : (totalMax ≤ t.rawTotal && !t.flags.fareLimit) = true := by
    simp [show totalMax ≤ t.rawTotal from h, hf]
  rw [State.setPriced, this, if_pos rfl]

theorem addExtra_of_running {s : State} {amount : Nat} {x : Trip} (h1 : 1 ≤ amount) (h2 : amount ≤ 9999)
    (hv : s.ret.fare ≠ .vacant) (hc : s.ret.fare ≠ .onCall) (hx : s.ret.trip = some x) :
    actAddExtra amount s = if 8 ≤ x.extras.length then refuse .limit s
      else done (s.setPriced { x with extras := x.extras ++ [amount] })
        (put32 (s.setPriced { x with extras := x.extras ++ [amount] }).tripTotal) := by
  have hrange : (decide (amount < 1) || decide (9999 < amount)) = false := by simp; omega
  have hrun : s.ret.fare.running = true := by cases hf : s.ret.fare <;> simp_all [FareState.running]
  simp only [actAddExtra, hrange, hrun, hx, Bool.not_true, if_neg Bool.false_ne_true]

/-- Settles O32: the extra is priced like every change of the total. -/
theorem addExtraRaisesTheTotal : Obligations.AddExtraRaisesTheTotal := by
  intro s amount h h1 h2
  have hexec : exec (.addExtra amount) s = .next (s.hostCommand 0x44 (wordBytes amount) .operating (actAddExtra amount.toNat)) := rfl
  rw [hexec]
  refine ⟨fun hf => congrArg _ (operating_next (blind_addExtra _) h ?_), fun x hv hc hx => ?_⟩
  · have hrange : (decide (amount.toNat < 1) || decide (9999 < amount.toNat)) = false := by simp; omega
    have hrun : s.ret.fare.running = false := by rcases hf with hf | hf <;> rw [hf] <;> rfl
    simp only [actAddExtra, hrange, hrun, Bool.not_false, if_neg Bool.false_ne_true, if_true]
    rfl
  · have hraw : ({ x with extras := x.extras ++ [amount.toNat] } : Trip).rawTotal
        = x.flagFall + x.incAmount * (x.units - x.n0) + x.surchSum + (x.extras.sum + amount.toNat) := by
      simp [Trip.rawTotal, Trip.meter]
    have hact := addExtra_of_running h1 h2 hv hc hx
    refine ⟨fun hl => congrArg _ (operating_next (blind_addExtra _) h ?_),
      fun hl hb => congrArg _ (operating_next (blind_addExtra _) h ?_),
      fun hl hb hfl => congrArg _ (operating_next (blind_addExtra _) h ?_)⟩
    · rw [hact, if_pos hl]
      rfl
    · rw [hact, if_neg (Nat.not_le.mpr hl), setPriced_below (by rw [hraw]; exact hb), ← hraw]
      rfl
    · rw [hact, if_neg (Nat.not_le.mpr hl), setPriced_limit (t := { x with extras := x.extras ++ [amount.toNat] }) (by rw [hraw]; exact hb) hfl, ← hraw]
      rfl

/-! ## CONFIGURE (R163, R186) -/

theorem flashWanted_iff {s : State} {st : Station} (h : s.cpt.config = some st) :
    s.flashWanted = true ↔ st.covertSign = true ∧ (s.ret.alarm = .alerting ∨ s.ret.alarm = .covert ∨ s.ret.alarm = .ending) := by
  simp [State.flashWanted, h, and_comm, or_assoc]

theorem flashUpdate_eq (s : State) : s.flashUpdate = { s with emu := { s.emu with
    flash := if s.flashWanted then (if s.emu.flash.isSome then s.emu.flash else some ⟨true, s.now + flashHalf⟩) else none } } := by
  unfold State.flashUpdate
  split
  · cases h : s.emu.flash with
    | none => simp [State.setEmu]
    | some f =>
      simp
      rw [← h]
  · rfl

theorem beq_one (b : Byte) : (b == 1) = decide (b.toNat = 1) :=
  decide_eq_decide.mpr ⟨fun h => by rw [h]; rfl, fun h => BitVec.eq_of_toNat_eq h⟩

theorem configure_of_ok {s : State} {st : Station} {bid dflt sign : Byte} (h : st.inRange = true) (hb : bid.toNat ≤ 1)
    (hd : dflt.toNat ≤ 15) (hs : sign.toNat ≤ 1) :
    actConfigure st bid dflt sign s = done (s.setCpt { s.cpt with config := some st }).flashUpdate [] := by
  simp [actConfigure, h, hb, hs, Nat.lt_succ_of_le hd]

theorem configure_of_not_ok {s : State} {st : Station} {bid dflt sign : Byte}
    (h : ¬ (st.inRange = true ∧ bid.toNat ≤ 1 ∧ dflt.toNat ≤ 15 ∧ sign.toNat ≤ 1)) :
    actConfigure st bid dflt sign s = refuse .range s := by
  have : (st.inRange && decide (bid.toNat ≤ 1) && decide (dflt.toNat < 16) && decide (sign.toNat ≤ 1)) = false := by
    rw [← Bool.not_eq_true]
    simp only [Bool.and_eq_true, decide_eq_true_eq, Nat.lt_succ_iff]
    tauto
  rw [actConfigure, this, if_neg Bool.false_ne_true]

theorem station_inRange (st : Station) : st.inRange = true ↔
    (32 ≤ st.id ∧ st.id ≤ 4094) ∧ (1 ≤ st.fleet ∧ st.fleet ≤ 254) ∧ st.home ≤ 31 ∧ st.vclass ≤ 3
      ∧ (10 ≤ st.beacon ∧ st.beacon ≤ 120) ∧ st.cancelCode ≤ 9999 ∧ st.duressCode ≤ 9999 ∧ st.cancelCode ≠ st.duressCode := by
  simp only [Station.inRange, isCab, Bool.and_eq_true, decide_eq_true_eq, bne_iff_ne, and_assoc]

/-! ## LOAD-ZONE (R54, R55) -/

theorem neighbourSet_bit (nb : List Byte) (i : Nat) (h : i < 64) :
    (neighbourSet nb).getLsbD i = (nb.getD (i / 8) 0).getLsbD (i % 8) := by
  induction nb generalizing i with
  | nil => simp [neighbourSet]
  | cons b l ih =>
    simp only [neighbourSet, BitVec.getLsbD_or, BitVec.getLsbD_setWidth, BitVec.getLsbD_shiftLeft]
    by_cases hi : i < 8
    · have h0 : i / 8 = 0 := by omega
      have h1 : i % 8 = i := by omega
      simp [h, hi, h0, h1]
    · have h0 : i / 8 = (i - 8) / 8 + 1 := by omega
      have h1 : i % 8 = (i - 8) % 8 := by omega
      have hb : b.getLsbD i = false := BitVec.getLsbD_of_ge b i (by omega)
      rw [ih (i - 8) (by omega), h0, h1]
      simp [h, hi, hb]

theorem loadZone_of_ok {s : State} {b : List Byte} {z : Zone} (hz : zoneOfBytes b = z) (h10 : 10 ≤ b.length)
    (h18 : b.length ≤ 18) (h63 : at8 b 0 ≤ 63) (he : z.eastMin ≤ z.eastMax) (hn : z.northMin ≤ z.northMax)
    (hs : z.surcharge ≤ 3) :
    actLoadZone b s = done (s.setPpu { s.ppu with zones := slotPut s.ppu.zones (at8 b 0) z }) [] := by
  simp [actLoadZone, hz, h10, h18, h63, he, hn, hs]

theorem loadZone_of_not_ok {s : State} {b : List Byte} {z : Zone} (hz : zoneOfBytes b = z)
    (h : ¬ (10 ≤ b.length ∧ b.length ≤ 18 ∧ at8 b 0 ≤ 63 ∧ z.eastMin ≤ z.eastMax ∧ z.northMin ≤ z.northMax ∧ z.surcharge ≤ 3)) :
    actLoadZone b s = refuse .range s := by
  unfold actLoadZone
  dsimp only
  rw [hz, if_neg]
  simpa only [Bool.and_eq_true, decide_eq_true_eq, and_assoc] using h

/-- Settles O48: both commands judge every field before they write. -/
theorem configureAndLoadZoneReplaceWhole : Obligations.ConfigureAndLoadZoneReplaceWhole := by
  refine ⟨fun s id fleet home vclass bid dflt dist pen idle beacon cancel duress sign h => ?_,
    fun s z sur emin emax nmin nmax nb h hnb => ?_⟩
  · intro st ok flash c
    have hst : stationOf id fleet home vclass bid dflt dist pen idle beacon cancel duress sign = st := by
      simp only [stationOf, orDefault, beq_one, decide_eq_true_eq, st]
    have hexec : exec c s = .next (s.hostCommand 0x01 (wordBytes id ++ [fleet, home, vclass, bid, dflt] ++ wordBytes dist
        ++ [pen, idle, beacon] ++ wordBytes cancel ++ wordBytes duress ++ [sign]) .config (actConfigure st bid dflt sign)) := by
      rw [← hst]
      rfl
    have hok : ok ↔ st.inRange = true ∧ bid.toNat ≤ 1 ∧ dflt.toNat ≤ 15 ∧ sign.toNat ≤ 1 := by
      rw [station_inRange]
      exact ⟨fun ⟨a, b, c, d, e, f, g, i, j, k, l⟩ => ⟨⟨a, b, c, d, g, i, j, k⟩, e, f, l⟩,
        fun ⟨⟨a, b, c, d, g, i, j, k⟩, e, f, l⟩ => ⟨a, b, c, d, e, f, g, i, j, k, l⟩⟩
    rw [hexec, hok]
    refine ⟨fun ⟨hr, hb, hd, hs⟩ => congrArg _ (config_next (blind_configure _ _ _ _) h ?_),
      fun hn => congrArg _ (config_next (blind_configure _ _ _ _) h (configure_of_not_ok hn))⟩
    rw [configure_of_ok hr hb hd hs, flashUpdate_eq]
    have hw := flashWanted_iff (s := s.setCpt { s.cpt with config := some st }) (st := st) rfl
    simp only [hw]
    rfl
  · intro bytes ok
    have hexec (l : List Byte) : exec (.loadZone l) s = .next (s.hostCommand 0x02 (byte l.length :: l) .config (actLoadZone l)) := rfl
    have hlen : bytes.length = nb.length + 10 := rfl
    have hzone : zoneOfBytes bytes = ⟨emin.toNat, emax.toNat, nmin.toNat, nmax.toNat, sur.toNat, neighbourSet nb⟩ := by
      rw [← at16_word emin, ← at16_word emax, ← at16_word nmin, ← at16_word nmax]
      rfl
    refine ⟨fun ⟨h63, he, hn, hs, h8⟩ => ⟨neighbourSet nb, neighbourSet_bit nb, ?_⟩, fun hok => ?_, fun l hl => ?_⟩
    · rw [hexec]
      exact congrArg _ (config_next (blind_loadZone _) h
        (loadZone_of_ok hzone (by omega) (by omega) h63 he hn hs))
    · rw [hexec]
      refine congrArg _ (config_next (blind_loadZone _) h (loadZone_of_not_ok hzone fun ⟨_, h18, h63, he, hn, hs⟩ => ?_))
      exact hok ⟨h63, he, hn, hs, by omega⟩
    · rw [hexec]
      exact congrArg _ (config_next (blind_loadZone _) h (loadZone_of_not_ok rfl fun ⟨h10, _⟩ => by omega))

/-! ## The meter figures (R112 to R114) -/

theorem loadTariff_open {s : State} {slot : Nat} {t : Tariff} (h : s.pins.tprotOpen = true) :
    actLoadTariff slot t s = if 1 ≤ slot && slot ≤ 8 && t.inRange && t.dpOk s.ret.k then
      done (s.setRet { s.ret with tariffs := slotPut s.ret.tariffs (slot - 1) t }) [] else refuse .range s := by
  simp [actLoadTariff, h]

theorem tariff_inRange (t : Tariff) : t.inRange = true ↔ (1 ≤ t.incAmount ∧ t.incAmount ≤ 9999)
    ∧ (10 ≤ t.incDist ∧ t.incDist ≤ 9999) ∧ (1 ≤ t.incTime ∧ t.incTime ≤ 999) ∧ t.n0 ≤ 99 := by
  simp only [Tariff.inRange, Bool.and_eq_true, decide_eq_true_eq, and_assoc]

theorem tariff_dpOk (t : Tariff) (k : Option Nat) : t.dpOk k = true ↔ ∀ m ∈ k, (t.incDist * m + 500) / 1000 ≤ 65535 := by
  cases k with
  | none => simp [Tariff.dpOk]
  | some m =>
    simp only [Tariff.dpOk, pulsesPerIncrement, Option.mem_some_iff, forall_eq']
    exact decide_eq_true_iff

theorem loadSurcharge_open {s : State} {i a : Nat} (h : s.pins.tprotOpen = true) :
    actLoadSurcharge i a s = if 1 ≤ i && i ≤ 3 then
      done (s.setRet { s.ret with surcharges := s.ret.surcharges.set (i - 1) a }) [] else refuse .range s := by
  simp [actLoadSurcharge, h]

theorem setPulse_open {s : State} {k : Nat} (h : s.pins.tprotOpen = true) :
    actSetPulse k s = if 500 ≤ k && k ≤ 65000 && (slotEntries s.ret.tariffs).all (·.dpOk (some k)) then
      done (s.setRet { s.ret with k := some k, totalRem := 0, trip := s.ret.trip.map fun t => { t with rem := 0 } }) []
      else refuse .range s := by
  simp [actSetPulse, h]

/-- Settles O49: with TPROT closed each command stops at the seal; with it open it judges its values and writes. -/
theorem meterFiguresAreProtected : Obligations.MeterFiguresAreProtected := by
  intro s slot n0 fall amount dist time w h pins tariff fits load okTariff okPulse written
  have hready (o : Bool) : (pins o).ready .config := h
  have hload (o : Bool) : exec (load o) s = .next ((pins o).hostCommand 0x03 ([slot] ++ wordBytes fall ++ wordBytes amount
    ++ wordBytes dist ++ wordBytes time ++ [n0]) .config (actLoadTariff slot.toNat tariff)) := rfl
  have hsur (o : Bool) : exec (.loadSurcharge slot w o) s
    = .next ((pins o).hostCommand 0x04 ([slot] ++ wordBytes w) .config (actLoadSurcharge slot.toNat w.toNat)) := rfl
  have hpulse (o : Bool) : exec (.setPulseConstant w o) s
    = .next ((pins o).hostCommand 0x05 (wordBytes w) .config (actSetPulse w.toNat)) := rfl
  have htariff : okTariff ↔ (1 ≤ slot.toNat && slot.toNat ≤ 8 && tariff.inRange && tariff.dpOk s.ret.k) = true := by
    simp only [Bool.and_eq_true, decide_eq_true_eq, tariff_inRange, tariff_dpOk, and_assoc, okTariff, fits, tariff]
  have hokPulse : okPulse
      ↔ (500 ≤ w.toNat && w.toNat ≤ 65000 && (slotEntries s.ret.tariffs).all (·.dpOk (some w.toNat))) = true := by
    simp [tariff_dpOk, and_assoc, okPulse, fits]
  simp only [hload, hsur, hpulse]
  refine ⟨⟨?_, ?_, ?_⟩, fun hn => ?_, fun hy => ?_, fun hn => ?_, fun h1 h3 => ?_, fun hn => ?_, fun hy => ?_⟩
  · exact congrArg _ (config_next (blind_loadTariff _ _) (hready _) rfl)
  · exact congrArg _ (config_next (blind_loadSurcharge _ _) (hready _) rfl)
  · exact congrArg _ (config_next (blind_setPulse _) (hready _) rfl)
  · exact congrArg _ (config_next (blind_loadTariff _ _) (hready _) ((loadTariff_open rfl).trans (if_neg (htariff.not.mp hn))))
  · exact congrArg _ (config_next (blind_loadTariff _ _) (hready _) ((loadTariff_open rfl).trans (if_pos (htariff.mp hy))))
  · exact congrArg _ (config_next (blind_loadSurcharge _ _) (hready _)
      ((loadSurcharge_open rfl).trans (if_neg (by simp; omega))))
  · exact congrArg _ (config_next (blind_loadSurcharge _ _) (hready _)
      ((loadSurcharge_open rfl).trans (if_pos (by simp [h1, h3]))))
  · exact congrArg _ (config_next (blind_setPulse _) (hready _) ((setPulse_open rfl).trans (if_neg (hokPulse.not.mp hn))))
  · exact congrArg _ (config_next (blind_setPulse _) (hready _) ((setPulse_open rfl).trans (if_pos (hokPulse.mp hy))))

end Sys2Proof
end

section
/-! PROOFS. A frame that has left the queue, and whose mark cannot stand, stays out of the queue (R20, R21). -/

namespace Sys2Proof

open Sys2Proof.Machine

/-! ## Frames without a mark -/

theorem slotGet_map {α β : Type} (g : α → β) (l : List (Option α)) (i : Nat) :
    slotGet (l.map (·.map g)) i = (slotGet l i).map g := by
  simp only [slotGet, List.getElem?_map]
  cases l[i]? <;> rfl

/-- The owner's record is in no state in which a mark of this frame may stand (R79, R157); a mark of the other frames is not looked at. -/
def markless (s : State) : OwnRef → Prop
  | .claim k => ∀ e ∈ slotEntries s.ofb.slots, e.key = k → e.state ≠ .claimPending
  | .take k => ∀ e ∈ slotEntries s.ofb.slots, e.key = k → e.state.holdsJob = false
  | .note slot => ∀ n, slotGet s.nts.outbox slot = some n → n.state.live = false
  | .alarm | .alarmEnd | .beacon => True
  | _ => False

/-- The frame stands nowhere in the queue, and no mark of it may bring it back. -/
def absent (r : OwnRef) (s : State) : Prop := markless s r ∧ ∀ x ∈ s.cau.queue, x.owner ≠ .own r

theorem ownMark_of_markless {s : State} {r : OwnRef} (h : markless s r) : s.ownMark r = none := by
  cases r with
  | claim k =>
    cases he : s.entry k with
    | none => simp [State.ownMark, he]
    | some p =>
      obtain ⟨hslot, hkey⟩ := slotFind_zero _ _ _ _ he
      have := h p.2 (slotGet_mem _ _ _ hslot) (by simpa using hkey)
      simp [State.ownMark, he, this]
  | take k =>
    cases he : s.entry k with
    | none => simp [State.ownMark, he]
    | some p =>
      obtain ⟨hslot, hkey⟩ := slotFind_zero _ _ _ _ he
      have := h p.2 (slotGet_mem _ _ _ hslot) (by simpa using hkey)
      simp [State.ownMark, he, this]
  | note slot =>
    cases hn : slotGet s.nts.outbox slot with
    | none => simp [State.ownMark, hn]
    | some n =>
      have : n.state ≠ .pending := fun hp => by
        have := h n hn
        rw [hp] at this
        cases this
      simp [State.ownMark, hn, this]
  | alarm | alarmEnd | beacon => rfl
  | drop | receipt | tally => cases h

theorem markless_of_frame {s t : State} {r : OwnRef} (hf : QueueFrame s t) (h : markless s r) : markless t r := by
  cases r with
  | claim k =>
    exact forall_slotEntries_of_map_eq (g := BoardEntry.unmark) (fun e => e.key = k → e.state ≠ .claimPending)
      (fun _ => .rfl) hf.board h
  | take k =>
    exact forall_slotEntries_of_map_eq (g := BoardEntry.unmark) (fun e => e.key = k → e.state.holdsJob = false)
      (fun _ => .rfl) hf.board h
  | note slot =>
    intro n hn
    have hslot : (slotGet t.nts.outbox slot).map OutNote.unmark = (slotGet s.nts.outbox slot).map OutNote.unmark := by
      rw [← slotGet_map, ← slotGet_map]
      exact congrArg (slotGet · slot) hf.outbox
    rw [hn] at hslot
    obtain ⟨m, hm, hmn⟩ := Option.map_eq_some_iff.mp hslot.symm
    have hdead := h m hm
    have hst : n.unmark.state = m.state := by rw [← hmn]; simp [OutNote.unmark, hdead]
    by_contra hl
    rw [Bool.not_eq_false] at hl
    have hq : n.unmark.state = .queued := by simp [OutNote.unmark, hl]
    rw [← hst, hq] at hdead
    cases hdead
  | alarm | alarmEnd | beacon => trivial
  | drop | receipt | tally => cases h

/-- A queue operation that takes no entry of this frame in keeps the frame out. -/
theorem absent_of_frame {s t : State} {r : OwnRef} (hf : QueueFrame s t)
    (hq : ∀ x ∈ t.cau.queue, (∃ y ∈ s.cau.queue, y.owner = x.owner) ∨ x.owner ≠ .own r) (h : absent r s) : absent r t :=
  ⟨markless_of_frame hf h.1, fun x hx => by
    rcases hq x hx with ⟨y, hy, hyx⟩ | hne
    · rw [← hyx]
      exact h.2 y hy
    · exact hne⟩

theorem absent_of_subset {s t : State} {r : OwnRef} (hf : QueueFrame s t) (hq : ∀ x ∈ t.cau.queue, x ∈ s.cau.queue)
    (h : absent r s) : absent r t := absent_of_frame hf (fun x hx => .inl ⟨x, hq x hx, rfl⟩) h

section
variable {r : OwnRef} {s : State}

/-! ## The operations of the queue -/

theorem absent_of_cau {t : State} (hf : QueueFrame s t) (hc : t.cau = s.cau) (h : absent r s) : absent r t :=
  absent_of_subset hf (fun x hx => by rwa [hc] at hx) h

theorem absent_displace (e : QEntry) (h : absent r s) : absent r (s.displace e) :=
  absent_of_subset (displace_frame s e) (fun x hx => by
    rw [displace_cau] at hx
    exact List.mem_of_mem_erase hx) h

theorem absent_acceptOwn {o : Offered} (ho : o.ref ≠ r) (h : absent r s) : absent r (s.acceptOwn o) :=
  absent_of_frame (acceptOwn_frame s o) (fun x hx => by
    obtain ⟨b, m, u, heq⟩ := acceptOwn_eq s o
    have hqueue : (s.acceptOwn o).cau.queue = s.cau.queue ++ [acceptedEntry s o] := by rw [heq]
    rw [hqueue] at hx
    rcases List.mem_append.mp hx with hx | hx
    · exact .inl ⟨x, hx, rfl⟩
    · rw [List.mem_singleton.mp hx]
      exact .inr fun ha => ho (Owner.own.inj ha)) h

theorem absent_refuseOwn (o : Offered) (h : absent r s) : absent r (s.refuseOwn o) :=
  absent_of_cau (refuseOwn_frame s o) (ownerNotSent_writes _ _ _).1 h

theorem absent_placeOwn {o : Offered} (ho : o.ref ≠ r) (h : absent r s) : absent r (s.placeOwn o) := by
  unfold State.placeOwn
  split
  · exact absent_acceptOwn ho h
  · split
    · exact absent_acceptOwn ho (absent_displace _ h)
    · exact absent_refuseOwn o h

theorem absent_mergeOwn {o : Offered} (e : QEntry) (ho : o.ref ≠ r) (h : absent r s) : absent r (s.mergeOwn o e) :=
  absent_of_frame (mergeOwn_frame s o e) (fun x hx => by
    have hcau := (ownerAccepted_writes (s.setQueue (s.cau.queue.map fun x => if x = e then
      { e with frame := s.ownFrame o.body e.frame.seq, owner := .own o.ref } else x)) o.ref e.frame.seq).1
    have hx' : x ∈ s.cau.queue.map _ := (congrArg Cau.queue hcau) ▸ hx
    obtain ⟨y, hy, rfl⟩ := List.mem_map.mp hx'
    split
    · exact .inr fun ha => ho (Owner.own.inj ha)
    · exact .inl ⟨y, hy, rfl⟩) h

theorem absent_deferOwn (o : Offered) (g : Group) (h : absent r s) : absent r (s.deferOwn o g) := by
  have hq : (s.deferOwn o g).cau.queue = s.cau.queue := by
    unfold State.deferOwn
    dsimp only
    split <;> exact (setDeferred_fields s.cau g _).1
  exact absent_of_subset (deferOwn_frame s o g) (fun x hx => hq ▸ hx) h

theorem absent_offerOwnQ {o : Offered} (ho : o.ref ≠ r) (h : absent r s) : absent r (s.offerOwnQ o) := by
  unfold State.offerOwnQ
  split
  · exact h
  · split
    · exact absent_placeOwn ho h
    · split
      · exact absent_mergeOwn _ ho h
      · split
        · split
          · exact absent_deferOwn o _ h
          · exact absent_placeOwn ho h
        · exact absent_placeOwn ho h

theorem absent_offerRefQ {r' : OwnRef} (ho : r' ≠ r) (h : absent r s) : absent r (s.offerRefQ r') := by
  unfold State.offerRefQ
  split
  · exact absent_offerOwnQ ho h
  · exact h

/-- The frame itself is not offered again: it has no mark. -/
theorem absent_reofferQ (r' : OwnRef) (h : absent r s) : absent r (s.reofferQ r') := by
  unfold State.reofferQ
  split
  · next hm =>
    refine absent_offerOwnQ (fun he => ?_) h
    rw [show r' = r from he, ownMark_of_markless h.1] at hm
    cases hm
  · exact h

theorem absent_reofferAll {after : State → State} (ha : ∀ s, absent r s → absent r (after s)) (n : Nat)
    (l : List (Nat × OwnRef)) (h : absent r s) : absent r (reofferAll after n l s) := by
  induction n generalizing l s with
  | zero => exact h
  | succ n ih =>
    unfold reofferAll
    split
    · exact h
    · exact ih _ (ha _ (absent_reofferQ _ (absent_of_cau (nextDraw_frame s) rfl h)))

theorem absent_spaceThen {after : State → State} (ha : ∀ s, absent r s → absent r (after s)) (h : absent r s) :
    absent r (s.spaceThen after) := by
  unfold State.spaceThen
  split
  · exact absent_reofferAll ha _ _ h
  · exact h

theorem absent_drawBackoff (e : QEntry) (h : absent r s) : absent r (s.drawBackoff e) :=
  absent_of_subset (drawBackoff_frame s e) (fun _ hx => hx) h

theorem startTx_queue (e k : QEntry) : (s.startTx e k).cau.queue = s.cau.queue.erase e := by
  unfold State.startTx State.truncate
  dsimp only
  split <;> rfl

theorem absent_decideHead (n : Nat) (failed : Bool) (h : absent r s) : absent r (decideHead n failed s) := by
  induction n generalizing failed s with
  | zero => exact h
  | succ n ih =>
    unfold decideHead
    split
    · exact absent_of_subset (setCau_frame s _) (fun _ hx => hx) h
    · next e he =>
      split
      · split
        · exact absent_of_subset (startTx_frame s _ _) (fun x hx => by
            rw [startTx_queue] at hx
            exact List.mem_of_mem_erase hx) h
        · refine ih _ (absent_spaceThen (fun _ => id) ?_)
          exact absent_of_subset ((setQueue_frame s _).trans (relayNotSent_frame _ _))
            (fun x hx => List.mem_of_mem_erase hx) h
      · refine absent_drawBackoff e ?_
        split
        · exact absent_of_subset (setCau_frame s _) (fun _ hx => hx) h
        · exact h

theorem absent_kick (h : absent r s) : absent r s.kick := by
  unfold State.kick
  split
  · exact h
  · split
    · exact h
    · exact absent_decideHead _ _ h
    · split
      · exact absent_decideHead _ _ h
      · exact h

theorem absent_offer {r' : OwnRef} (ho : r' ≠ r) (h : absent r s) : absent r (s.offer r') := absent_kick (absent_offerRefQ ho h)

theorem absent_space (h : absent r s) : absent r s.space := absent_spaceThen (fun _ => absent_kick) h

theorem absent_removeOwn (r' : OwnRef) (h : absent r s) : absent r (s.removeOwn r') := by
  unfold State.removeOwn
  split
  · exact absent_space (absent_of_subset (setCau_frame s _) (fun x hx => (List.mem_filter.mp hx).1) h)
  · exact h

/-- A frame removed, of which no mark may stand, is out of the queue (R21). -/
theorem absent_removed (h : markless s r) : absent r (s.removeOwn r) := by
  unfold State.removeOwn
  split
  · refine absent_space ⟨markless_of_frame (setCau_frame s _) h, fun x hx => ?_⟩
    simpa using (List.mem_filter.mp hx).2
  · next hn =>
    refine ⟨h, fun x hx hxr => hn ?_⟩
    have : s.cau.holds r = true := List.any_eq_true.mpr ⟨x, hx, by simp [hxr]⟩
    simp [this]

theorem absent_removeClaims (ks : List JobKey) (h : absent r s) : absent r (s.removeClaims ks) := by
  induction ks generalizing s with
  | nil => exact h
  | cons k ks ih => exact ih (absent_removeOwn _ h)

/-! ## A recomputation of the availability -/

theorem toWatch_calm (e : BoardEntry) (w : Reason) : (e.toWatch w).key = e.key
    ∧ (e.state ≠ .claimPending → (e.toWatch w).state ≠ .claimPending)
    ∧ (e.state.holdsJob = false → (e.toWatch w).state.holdsJob = false) := by
  cases h : e.state <;> simp [BoardEntry.toWatch, h, OfferState.holdsJob]

theorem absent_mapBoard (w : Reason) (h : absent r s) : absent r (s.mapBoard (·.toWatch w)) := by
  refine ⟨?_, h.2⟩
  have hm := h.1
  cases r with
  | claim k =>
    intro e he hk
    obtain ⟨x, hx, rfl⟩ := mem_slotEntries_map.mp he
    obtain ⟨hkey, hc, -⟩ := toWatch_calm x w
    exact hc (hm x hx (hkey ▸ hk))
  | take k =>
    intro e he hk
    obtain ⟨x, hx, rfl⟩ := mem_slotEntries_map.mp he
    obtain ⟨hkey, -, hj⟩ := toWatch_calm x w
    exact hj (hm x hx (hkey ▸ hk))
  | note => exact hm
  | alarm | alarmEnd | beacon => trivial
  | drop | receipt | tally => cases hm

/-- What the frame's absence looks at stands: the records and the queue. -/
theorem absent_congr {t : State} (ho : t.ofb.slots = s.ofb.slots) (hn : t.nts.outbox = s.nts.outbox) (hc : t.cau = s.cau)
    (h : absent r s) : absent r t := by
  refine ⟨?_, hc ▸ h.2⟩
  have hm := h.1
  cases r with
  | claim | take => exact fun e he => hm e (ho ▸ he)
  | note => exact fun n hs => hm n (hn ▸ hs)
  | alarm | alarmEnd | beacon => trivial
  | drop | receipt | tally => cases hm

theorem absent_recompute (h : absent r s) : absent r s.recompute := by
  unfold State.recompute
  dsimp only
  split
  · exact h
  · refine absent_congr (s := (s.setFre _).boardAvail _) rfl rfl rfl ?_
    unfold State.boardAvail
    dsimp only
    split
    · exact absent_removeClaims _ (absent_mapBoard _ (absent_congr rfl rfl rfl h))
    · exact absent_congr rfl rfl rfl h

theorem absent_setFare (f : FareState) (h : absent r s) : absent r (s.setFare f) := by
  refine absent_recompute ?_
  rw [idleUpdate_eq]
  exact absent_congr rfl rfl rfl h

end

end Sys2Proof
end

section
/-! PROOFS. The claim of an offer: its claim points (O20), the driver's answer (O21), its close and take turn (O22), and the CLAIMs of
other stations (O24). -/

namespace Sys2Proof

open Sys2Proof.Machine

/-! ## Entries found by their key (R74) -/

theorem slotGet_of_mem {α : Type} {l : List (Option α)} {x : α} (h : x ∈ slotEntries l) : ∃ i, slotGet l i = some x := by
  obtain ⟨i, hi⟩ := List.mem_iff_getElem?.mp (mem_slotEntries.mp h)
  exact ⟨i, by simp [slotGet, hi]⟩

/-- Two occupied slots of a table with distinct keys hold different keys. -/
theorem slot_of_key {α κ : Type} {key : α → κ} {l : List (Option α)} (hl : slotsDistinct key l) {i j : Nat} {x y : α}
    (hx : slotGet l i = some x) (hy : slotGet l j = some y) (hk : key x = key y) : i = j := by
  induction l generalizing i j with
  | nil => simp [slotGet] at hx
  | cons a l ih =>
    have htail : slotsDistinct key l := hl.sublist (by cases a <;> simp [slotEntries])
    have hhead (z w : α) (m : Nat) (hz : a = some z) (hw : slotGet l m = some w) : key z ≠ key w := by
      subst hz
      exact (List.pairwise_cons.mp (show List.Pairwise _ (z :: slotEntries l) from hl)).1 w (slotGet_mem l m w hw)
    cases i with
    | zero =>
      cases j with
      | zero => rfl
      | succ j => exact absurd hk (hhead x y j (by simpa [slotGet] using hx) hy)
    | succ i =>
      cases j with
      | zero => exact absurd hk.symm (hhead y x i (by simpa [slotGet] using hy) hx)
      | succ j => exact congrArg _ (ih htail hx hy)

section
variable {s : State} {slot : Nat} {e e' : BoardEntry}

theorem entry_of_slot (hl : s.ofb.keyLaw) (h : slotGet s.ofb.slots slot = some e) : s.entry e.key = some (slot, e) := by
  cases hf : s.entry e.key with
  | none =>
    have := (slotFind_none _ _ _).mp hf e (slotGet_mem _ _ _ h)
    simp at this
  | some p =>
    obtain ⟨hp, hk⟩ := slotFind_zero _ _ _ _ hf
    obtain rfl : p.1 = slot := slot_of_key hl hp h (by simpa using hk)
    rw [hp] at h
    cases h
    rfl

theorem entry_put (hl : s.ofb.keyLaw) (h : slotGet s.ofb.slots slot = some e) (hk : e'.key = e.key) :
    (s.putEntry slot e').entry e.key = some (slot, e') := entry_putEntry (entry_of_slot hl h) hk

/-- After a write the entry written is the only one of its key. -/
theorem only_of_key (hl : s.ofb.keyLaw) (h : slotGet s.ofb.slots slot = some e) (hk : e'.key = e.key) :
    ∀ x ∈ slotEntries (s.putEntry slot e').ofb.slots, x.key = e.key → x = e' := by
  intro x hx hxk
  obtain ⟨j, hj⟩ := slotGet_of_mem hx
  have hput : slotGet (s.putEntry slot e').ofb.slots slot = some e' := slotGet_slotPut_self _ _ _ (slotGet_lt h)
  have hl' : slotsDistinct BoardEntry.key (s.putEntry slot e').ofb.slots := slotsDistinct_put_same h hk hl
  rw [slot_of_key hl' hj hput (hxk.trans hk.symm), hput] at hj
  exact (Option.some.inj hj).symm

theorem markless_claim (hl : s.ofb.keyLaw) (h : slotGet s.ofb.slots slot = some e) (hk : e'.key = e.key)
    (hs : e'.state ≠ .claimPending) : markless (s.putEntry slot e') (.claim e.key) := fun x hx hxk => by
  rw [only_of_key hl h hk x hx hxk]
  exact hs

theorem markless_take (hl : s.ofb.keyLaw) (h : slotGet s.ofb.slots slot = some e) (hk : e'.key = e.key)
    (hs : e'.state.holdsJob = false) : markless (s.putEntry slot e') (.take e.key) := fun x hx hxk => by
  rw [only_of_key hl h hk x hx hxk]
  exact hs

theorem markless_lost {st : OfferState} (hl : s.ofb.keyLaw) (h : slotGet s.ofb.slots slot = some e) (hk : e'.key = e.key)
    (hs : st ≠ .claimPending) : markless (s.loseEntry slot e' st) (.claim e.key) :=
  markless_claim (e' := e'.finish st s.now) hl h hk hs

theorem claimBody_put (hl : s.ofb.keyLaw) (h : slotGet s.ofb.slots slot = some e) (hk : e'.key = e.key) :
    (s.putEntry slot e').ownBody (.claim e.key) = some (.claim e.key (e'.score.getD 0) (some s.ownClass)) := by
  rw [State.ownBody, entry_put hl h hk, Option.map_some, State.claimBody, hk]
  rfl

theorem takeBody_put (hl : s.ofb.keyLaw) (h : slotGet s.ofb.slots slot = some e) (hk : e'.key = e.key) :
    (s.putEntry slot e').ownBody (.take e.key)
      = some (.take e.key (e'.score.getD 0) (e'.rank.getD 0) (e'.state == .taken)) := by
  rw [State.ownBody, entry_put hl h hk, Option.map_some, BoardEntry.takeBody, hk]

theorem dropBody_put (hl : s.ofb.keyLaw) (h : slotGet s.ofb.slots slot = some e) (hk : e'.key = e.key) :
    (s.putEntry slot e').ownBody (.drop e.key) = some (.drop e.key e'.dropReason) := by
  rw [State.ownBody, entry_put hl h hk, Option.map_some]

theorem claimMark_none (h : e.claimMark = none) : { e with claimMark := none } = e := by
  cases e
  cases h
  rfl

end

/-- An own frame without a group joins a queue with room. -/
theorem offer_room {s : State} {r : OwnRef} {b : Body} (h : s.room) (hb : s.ownBody r = some b) (hg : r.group = none) :
    (s.offer r).cau = { s.cau with queue := s.cau.queue ++ [s.ownEntry r b] } := by
  obtain ⟨hr, hc, hw⟩ := h
  obtain ⟨o, n, u, heq, -⟩ := offer_waits hr hb (unmatched_of_no_group _ hg) hc hw
  rw [heq]
  rfl

/-! ## Claim points (R90, R92) -/

section
variable {s : State} {slot : Nat} {e : BoardEntry}

theorem exec_claimPoint (h : slotGet s.ofb.slots slot = some e) : exec (.claimPoint slot) s
    = .next (if (e.state == OfferState.opened && due e.claimPoint s.now) = true then s.claim slot e else s) := by
  show Host.Outcome.next (match slotGet s.ofb.slots slot with
    | some e => if e.state == OfferState.opened && due e.claimPoint s.now then s.claim slot e else s
    | none => s) = _
  rw [h]

theorem exec_latestClaimPoint (h : slotGet s.ofb.slots slot = some e) (ht : e.latestTaken = false)
    (hp : e.latestPoint ≤ s.now) : exec (.latestClaimPoint slot) s = .next (s.latestPoint slot e) := by
  show Host.Outcome.next (match slotGet s.ofb.slots slot with
    | some e => if !e.latestTaken && e.latestPoint ≤ s.now then s.latestPoint slot e else s
    | none => s) = _
  simp [h, ht, hp]

/-- What a claim does: the entry waits for its CLAIM, which joins a queue with room (R90). -/
theorem claim_spec (hl : s.ofb.keyLaw) (h : slotGet s.ofb.slots slot = some e) (e' : BoardEntry) (hk : e'.key = e.key) :
    QueueFrame (s.withEntry slot { e' with state := .claimPending }) (s.claim slot e')
      ∧ (s.room → (s.claim slot e').cau = { s.cau with queue := s.cau.queue
        ++ [s.ownEntry (.claim e.key) (.claim e.key (e'.score.getD 0) (some s.ownClass))] }) := by
  have hclaim : s.claim slot e' = (s.putEntry slot { e' with state := .claimPending }).offer (.claim e.key) := by
    rw [← hk]
    rfl
  rw [hclaim]
  exact ⟨offer_frame _ _, fun hroom => offer_room (s := s.putEntry slot _) hroom (claimBody_put hl h hk) rfl⟩

theorem latestPoint_opened (hs : e.state = .opened) : s.latestPoint slot e
    = s.loseEntry slot { e with latestTaken := true }
      (if s.bidMode = .confirm ∧ e.acceptTime = none then .unanswered else .missed) := by
  unfold State.latestPoint
  simp only [hs]
  by_cases hc : s.bidMode = .confirm ∧ e.acceptTime = none
  · simp [hc]
  · rw [if_neg hc, if_neg (by simpa using hc)]

theorem latestPoint_pending (hs : e.state = .claimPending) (ha : s.cau.airs (.claim e.key) = false) :
    s.latestPoint slot e
      = (s.loseEntry slot { e with latestTaken := true, claimMark := none } .missed).removeOwn (.claim e.key) := by
  unfold State.latestPoint
  simp only [hs, ha, if_neg Bool.false_ne_true]

theorem latestPoint_stands (h : (e.state = .claimPending ∧ s.cau.airs (.claim e.key) = true)
    ∨ (e.state ≠ .opened ∧ e.state ≠ .claimPending)) : s.latestPoint slot e = s.putEntry slot { e with latestTaken := true } := by
  unfold State.latestPoint
  rcases h with ⟨hs, ha⟩ | ⟨ho, hc⟩
  · simp only [hs, ha, if_true]
  · dsimp only
    split
    · next hs => exact absurd hs hc
    · next hs => exact absurd hs ho
    · rfl

/-- Settles O20: each point acts on the entry by its state. -/
theorem claimPointsOfferOrEndTheClaim : Obligations.ClaimPointsOfferOrEndTheClaim := by
  refine ⟨fun s slot e h hl => ⟨fun p hs hp hle => ?_, fun hn => ?_⟩, fun s slot e h hl ht hle => ?_⟩
  · rw [exec_claimPoint h, if_pos (by rw [hs, hp, due_some hle]; rfl)]
    obtain ⟨hframe, hcau⟩ := claim_spec hl h e rfl
    exact ⟨_, rfl, hframe, hcau⟩
  · rw [exec_claimPoint h]
    rcases hn with hn | hn | ⟨p, hp, hlt⟩
    · rw [show (e.state == .opened) = false from beq_eq_false_iff_ne.mpr hn, Bool.false_and, if_neg Bool.false_ne_true]
    · rw [hn, show due none s.now = false from rfl, Bool.and_false, if_neg Bool.false_ne_true]
    · rw [hp, show due (some p) s.now = false from decide_eq_false (Nat.not_le.mpr hlt), Bool.and_false,
        if_neg Bool.false_ne_true]
  intro ended
  refine ⟨fun hs hm => ?_, fun hs ha => ?_, fun hcase => ?_⟩
  · rw [exec_latestClaimPoint h ht hle, latestPoint_opened hs]
    show Host.Outcome.next _ = .next ((s.withEntry slot _).raiseEvent _ _ _)
    rw [← hm]
    rfl
  · rw [exec_latestClaimPoint h ht hle, latestPoint_pending hs ha]
    have hgone : markless (s.loseEntry slot { e with latestTaken := true, claimMark := none } .missed) (.claim e.key) :=
      markless_lost hl h rfl nofun
    exact ⟨_, rfl, removeOwn_frame _ _, (absent_removed hgone).2⟩
  · rw [exec_latestClaimPoint h ht hle, latestPoint_stands hcase]
    rfl

/-! ## ACCEPT-OFFER and PASS-OFFER (R82, R83, R89, R90) -/

theorem accept_of {slot : Byte} (hb : slot.toNat < 16) (h : slotGet s.ofb.slots slot.toNat = some e) :
    actAcceptOffer slot.toNat s = if s.bidMode == .auto then refuse .state s
      else if e.state == .opened then
        if e.acceptTime.isSome then done s [] else done (s.acceptEntry slot.toNat e) []
      else if e.state == .unanswered then refuse .tooLate s
      else refuse .state s := by
  simp only [actAcceptOffer, if_neg (show ¬ 15 < slot.toNat by omega), h]

theorem pass_of {slot : Byte} (hb : slot.toNat < 16) (h : slotGet s.ofb.slots slot.toNat = some e) :
    actPassOffer slot.toNat s = if e.state == .opened || e.state == .claimPending then
      done ((s.putEntry slot.toNat e.pass).dropClaim e) [] else refuse .state s := by
  simp only [actPassOffer, if_neg (show ¬ 15 < slot.toNat by omega), h]

/-- Settles O21: by the bid mode and the state of the entry. -/
theorem driverAcceptsOrPassesAnOffer : Obligations.DriverAcceptsOrPassesAnOffer := by
  refine ⟨fun s slot e hr hb h hl => ?accept, fun s slot e hr hb h hl => ?pass⟩
  case accept =>
    intro accepted
    have hexec : exec (.acceptOffer slot) s
      = .next (s.hostCommand 0x32 [slot] .operating (actAcceptOffer slot.toNat)) := rfl
    have hact := accept_of hb h
    rw [hexec]
    refine ⟨fun hm => ?_, fun hm => ?_⟩
    · exact congrArg _ (operating_next (blind_acceptOffer _) hr (hact.trans (by rw [hm]; rfl)))
    · have hconfirm : (s.bidMode == .auto) = false := by rw [hm]; rfl
      rw [hconfirm, if_neg Bool.false_ne_true] at hact
      refine ⟨fun ho ha hle => ?_, fun ho ha hlt => ?_, fun ho ha => ?_, fun hu => ?_, fun ho hu => ?_⟩
      · refine congrArg _ (operating_next (blind_acceptOffer _) hr (hact.trans ?_))
        simp only [ho, ha, State.acceptEntry, if_neg (Nat.not_lt.mpr hle)]
        rfl
      · have hclaim : actAcceptOffer slot.toNat s = (s.claim slot.toNat accepted, [0]) := by
          rw [hact]
          simp only [ho, ha, State.acceptEntry, if_pos hlt]
          rfl
        obtain ⟨hframe, hcau⟩ := claim_spec hl h accepted rfl
        exact ⟨_, congrArg _ (operating_next (blind_acceptOffer _) hr hclaim), hframe.answering _ _ _, hcau⟩
      · refine congrArg _ (operating_next (blind_acceptOffer _) hr (hact.trans ?_))
        simp only [ho, Option.isSome_iff_ne_none.mpr ha]
        rfl
      · exact congrArg _ (operating_next (blind_acceptOffer _) hr (hact.trans (by simp only [hu]; rfl)))
      · refine congrArg _ (operating_next (blind_acceptOffer _) hr (hact.trans ?_))
        rw [beq_eq_false_iff_ne.mpr ho, beq_eq_false_iff_ne.mpr hu]
        rfl
  case pass =>
    intro passed
    have hexec : exec (.passOffer slot) s = .next (s.hostCommand 0x33 [slot] .operating (actPassOffer slot.toNat)) := rfl
    have hact := pass_of hb h
    rw [hexec]
    refine ⟨fun ho => ?_, fun hc => ?_, fun ho hc => ?_⟩
    · exact congrArg _ (operating_next (blind_passOffer _) hr (hact.trans (by simp only [State.dropClaim, ho]; rfl)))
    · have hpass : actPassOffer slot.toNat s = (passed.removeOwn (.claim e.key), [0]) := by
        rw [hact]
        simp only [State.dropClaim, hc]
        rfl
      have hgone : markless passed (.claim e.key) := markless_claim hl h rfl nofun
      exact ⟨_, congrArg _ (operating_next (blind_passOffer _) hr hpass), (removeOwn_frame _ _).answering _ _ _,
        (absent_removed hgone).2⟩
    · refine congrArg _ (operating_next (blind_passOffer _) hr (hact.trans ?_))
      rw [beq_eq_false_iff_ne.mpr ho, beq_eq_false_iff_ne.mpr hc]
      rfl

/-! ## CLAIMs heard (R93, R94) -/

theorem putEntry_marks (s : State) (slot : Nat) {x y : BoardEntry} (h : y.unmark = x.unmark) :
    QueueFrame (s.putEntry slot x) (s.putEntry slot y) := by
  refine { QueueFrame.refl (s.putEntry slot x) with board := ?_ }
  show (s.ofb.slots.set slot (some y)).map _ = (s.ofb.slots.set slot (some x)).map _
  simp only [List.map_set, Option.map_some, h]

theorem claimHeard_of {k : JobKey} {c : Claim} (h : s.entry k = some (slot, e)) (ht : e.closeTaken = false) :
    s.claimHeard k c
      = if (e.state == OfferState.opened || e.state == OfferState.claimPending)
          && outbidBy (s.ownClaim e) (placeClaim c e.claims) then
        (s.loseEntry slot { e with claims := placeClaim c e.claims, claimMark := none } .outbid).dropClaim e
      else s.putEntry slot { e with claims := placeClaim c e.claims } := by
  simp only [State.claimHeard, h, ht, if_neg Bool.false_ne_true]

theorem outbidBy_iff (s : State) (e : BoardEntry) (l : List Claim) : outbidBy (s.ownClaim e) l = true
    ↔ 3 ≤ (l.filter fun c => decide (c.score < e.score.getD 0 ∨ (c.score = e.score.getD 0 ∧ c.id < s.ownId))).length := by
  have : (fun c : Claim => c.better (s.ownClaim e))
      = fun c => decide (c.score < e.score.getD 0 ∨ (c.score = e.score.getD 0 ∧ c.id < s.ownId)) := by
    funext c
    rw [Bool.eq_iff_iff]
    simp only [Claim.better, State.ownClaim, Bool.or_eq_true, Bool.and_eq_true, beq_iff_eq]
    exact (or_congr decide_eq_true_iff (and_congr_right' decide_eq_true_iff)).trans decide_eq_true_iff.symm
  rw [outbidBy, this, decide_eq_true_iff]

/-- Settles O24: a CLAIM heard before the close is placed, and the entry is left to three better ones. -/
theorem claimHeardIsPlacedOrOutbids : Obligations.ClaimHeardIsPlacedOrOutbids := by
  intro s f t k score vclass hf hl
  have hd : s.deliver f t = s.claimHeard k ⟨f.origin, score⟩ := by simp only [State.deliver, hf]
  rw [hd]
  refine ⟨fun hn => by simp only [State.claimHeard, hn], fun slot e h => ?_⟩
  intro claims better
  have hbid : outbidBy (s.ownClaim e) claims = true ↔ 3 ≤ better := outbidBy_iff s e claims
  have hkey : e.key = k := entry_key h
  refine ⟨fun ht => by simp only [State.claimHeard, h, ht, if_true], fun ht hn => ?_, fun ht hs h3 => ?_⟩
  · rw [claimHeard_of h ht, if_neg]
    · rfl
    · simp only [Bool.and_eq_true, Bool.or_eq_true, beq_iff_eq]
      rintro ⟨hs, hb⟩
      have := hbid.mp hb
      rcases hn with ⟨ho, hc⟩ | hn
      · exact hs.elim ho hc
      · omega
  · have hpos : ((e.state == OfferState.opened || e.state == OfferState.claimPending)
        && outbidBy (s.ownClaim e) claims) = true := by
      rw [hbid.mpr h3, Bool.and_true]
      rcases hs with hs | hs <;> rw [hs] <;> rfl
    rw [claimHeard_of h ht, if_pos hpos]
    have hlost : QueueFrame ((s.withEntry slot { e with claims := claims, state := .outbid, termTime := some s.now }).raiseEvent
        .offerLost slot 8) (s.loseEntry slot { e with claims := claims, claimMark := none } .outbid) := by
      refine QueueFrame.raiseEvent (putEntry_marks s slot ?_) _ _ _
      rfl
    refine ⟨hlost.trans ?_, fun hc => ?_⟩
    · unfold State.dropClaim
      split
      · exact removeOwn_frame _ _
      · exact .refl _
    · have hgone : markless (s.loseEntry slot { e with claims := claims, claimMark := none } .outbid) (.claim e.key) :=
        markless_lost hl (entry_slot h) rfl nofun
      rw [State.dropClaim, if_pos (by rw [hc]; rfl), ← hkey]
      exact (absent_removed hgone).2

/-! ## Close and take turn (R95, R97) -/

theorem exec_close (h : slotGet s.ofb.slots slot = some e) (ht : e.closeTaken = false) (hc : e.close ≤ s.now) :
    exec (.close slot) s = .next (s.closeEntry slot e) := by
  show Host.Outcome.next (match slotGet s.ofb.slots slot with
    | some e => if !e.closeTaken && e.close ≤ s.now then s.closeEntry slot e else s
    | none => s) = _
  simp [h, ht, hc]

theorem exec_takeTurn (h : slotGet s.ofb.slots slot = some e) (hs : e.state = .ranked)
    (hc : e.close + e.rank.getD 0 * (3000 * ms) ≤ s.now) : exec (.takeTurn slot) s = .next (s.takeTurn slot e) := by
  show Host.Outcome.next (match slotGet s.ofb.slots slot with
    | some e => if e.state == OfferState.ranked && e.turnTime ≤ s.now then s.takeTurn slot e else s
    | none => s) = _
  simp [h, hs, show e.turnTime ≤ s.now from hc]

theorem closeEntry_claimed (hs : e.state = .claimed) : s.closeEntry slot e
    = match ownRank s.ownId e.claims with
      | some 0 => (s.putEntry slot { e with closeTaken := true, rank := some 0 }).takeTurn slot
          { e with closeTaken := true, rank := some 0 }
      | some 1 => s.putEntry slot { e with closeTaken := true, rank := some 1, state := .ranked }
      | some 2 => s.putEntry slot { e with closeTaken := true, rank := some 2, state := .ranked }
      | r => s.loseEntry slot { e with closeTaken := true, rank := r } .lost := by
  unfold State.closeEntry
  dsimp only
  rw [if_pos (by rw [hs]; rfl)]
  cases ownRank s.ownId e.claims with
  | none => rfl
  | some n => match n with
    | 0 | 1 | 2 | _ + 3 => rfl

theorem ownRank_absent {id : Nat} {l : List Claim} (h : ∀ c ∈ l, c.id ≠ id) : ownRank id l = none :=
  List.findIdx?_eq_none_iff.mpr fun c hc => beq_eq_false_iff_ne.mpr (h c hc)

theorem ownRank_split {id : Nat} {own : Claim} {before after : List Claim} (ho : own.id = id)
    (hb : ∀ c ∈ before, c.id ≠ id) : ownRank id (before ++ own :: after) = some before.length := by
  rw [ownRank, List.findIdx?_append, List.findIdx?_eq_none_iff.mpr fun c hc => beq_eq_false_iff_ne.mpr (hb c hc)]
  simp [List.findIdx?_cons, ho]

theorem putEntry_putEntry (s : State) (slot : Nat) (x y : BoardEntry) :
    (s.putEntry slot x).putEntry slot y = s.putEntry slot y := by
  simp only [State.putEntry, State.setOfb, slotPut, List.set_set]

theorem putEntry_self (h : slotGet s.ofb.slots slot = some e) : s.putEntry slot e = s := by
  have : s.ofb.slots.set slot (some e) = s.ofb.slots := by
    rw [slotGet, Option.join_eq_some_iff] at h
    obtain ⟨hlt, hget⟩ := List.getElem?_eq_some_iff.mp h
    rw [← hget, List.set_getElem_self]
  simp only [State.putEntry, State.setOfb, slotPut, this]

/-! ## The queue under a change of availability (R78) -/

/-- With no CLAIM waiting, the recomputation leaves the queue alone. -/
theorem recompute_cau_of_no_claims (h : ∀ x ∈ slotEntries s.ofb.slots, x.state ≠ .claimPending) :
    s.recompute.cau = s.cau := by
  have hnone : (slotEntries s.ofb.slots).filter (·.state == .claimPending) = [] :=
    List.filter_eq_nil_iff.mpr fun x hx => by simpa using h x hx
  unfold State.recompute State.boardAvail State.convertBoard State.pendingClaims
  dsimp only
  split
  · rfl
  · split
    · simp only [State.setOfb_ofb, State.setFre_ofb, hnone, List.map_nil]
      rfl
    · rfl

/-- While the board is not told of FREE, no entry competes, and the recomputation leaves the queue alone. -/
theorem recompute_cau_of_not_free (h : s.ofb.avail ≠ some .free) : s.recompute.cau = s.cau := by
  unfold State.recompute State.boardAvail
  dsimp only
  split
  · rfl
  · have : (s.ofb.avail == some .free) = false := beq_eq_false_iff_ne.mpr h
    simp only [State.setFre_ofb, this, Bool.false_and, if_neg Bool.false_ne_true]
    rfl

end

end Sys2Proof
end

section
/-! PROOFS. The job: won at the take turn (O22), released (O23), settled by a TAKE heard (O25), and cancelled (O26). -/

namespace Sys2Proof

open Sys2Proof.Machine

section
variable {s : State} {slot : Nat} {e e' : BoardEntry}

theorem fare_of_frame {t : State} (h : AvailFrame s t) : t.ret.fare = s.ret.fare := by rw [h.ret]

/-! ## The fare engine told of a job (R126) -/

theorem fareTaking_of_vacant (h : s.ret.fare = .vacant) : s.fareTaking = s.setFare .onCall := by
  rw [State.fareTaking, h]
  rfl

theorem fareReleased_of_onCall (h : s.ret.fare = .onCall) : s.fareReleased = s.setFare .vacant := by
  rw [State.fareReleased, h]
  rfl

theorem setFare_cau_of_no_claims (f : FareState) (h : ∀ x ∈ slotEntries s.ofb.slots, x.state ≠ .claimPending) :
    (s.setFare f).cau = s.cau := by
  rw [State.setFare, idleUpdate_eq, recompute_cau_of_no_claims]
  · rfl
  · exact h

theorem setFare_cau_of_not_free (f : FareState) (h : s.ofb.avail ≠ some .free) : (s.setFare f).cau = s.cau := by
  rw [State.setFare, idleUpdate_eq, recompute_cau_of_not_free]
  · rfl
  · exact h

/-! ## The take turn (R97) -/

/-- The turn of an entry as just written. -/
theorem takeTurn_forfeits (h : s.ofb.avail ≠ some .free) :
    (s.putEntry slot e').takeTurn slot e' = (s.withEntry slot { e' with
      state := .forfeit, termTime := some s.now }).raiseEvent .offerLost slot 11 := by
  have : ((s.putEntry slot e').ofb.avail == some .free) = false := beq_eq_false_iff_ne.mpr h
  rw [State.takeTurn, this, if_neg Bool.false_ne_true, State.loseEntry, putEntry_putEntry]
  rfl

theorem takeTurn_takes {k : JobKey} (h : s.ofb.avail = some .free) (hf : s.ret.fare = .vacant) (hk : e'.key = k) :
    (s.putEntry slot e').takeTurn slot e' = (((s.putEntry slot { e' with state := .taking }).offer
      (.take k)).setFare .onCall).raiseEvent .offerWon slot 0 := by
  subst hk
  have : ((s.putEntry slot e').ofb.avail == some .free) = true := beq_iff_eq.mpr h
  rw [State.takeTurn, this, if_pos rfl, putEntry_putEntry, fareTaking_of_vacant]
  exact (fare_of_frame (offer_frame _ _).toAvail).trans hf

theorem take_frame (r : OwnRef) (u : State) : AvailFrame
    (({ u with fre := { u.fre with idleSince := none } }.withRet { u.ret with fare := .onCall }).raiseEvent .offerWon slot 0)
    (((u.offer r).setFare .onCall).raiseEvent .offerWon slot 0) :=
  ((offer_frame u r).toAvail.setFare .onCall).raiseEvent _ _ _

theorem take_cau {k : JobKey} (hl : s.ofb.keyLaw) (h : slotGet s.ofb.slots slot = some e) (he : e.key = k) (hk : e'.key = k)
    (hroom : s.room) (hc : ∀ x ∈ slotEntries s.ofb.slots, x.state ≠ .claimPending) :
    (((s.putEntry slot { e' with state := .taking }).offer (.take k)).setFare .onCall).cau
      = { s.cau with queue := s.cau.queue
        ++ [s.ownEntry (.take k) (.take k (e'.score.getD 0) (e'.rank.getD 0) false)] } := by
  have hbody := takeBody_put (e' := { e' with state := .taking }) hl h (hk.trans he.symm)
  rw [he] at hbody
  rw [setFare_cau_of_no_claims]
  · exact offer_room (s := s.putEntry slot _) hroom hbody rfl
  · refine forall_slotEntries_of_map_eq (g := BoardEntry.unmark) (fun x => x.state ≠ .claimPending) (fun _ => .rfl)
      (offer_frame _ _).board fun x hx => ?_
    rcases mem_slotPut _ _ _ _ hx with rfl | hx
    · exact nofun
    · exact hc x hx

/-- Settles O22: the close ranks the entry, and its turn takes the job or forfeits it. -/
theorem closeRanksAndTakeTurnsWin : Obligations.CloseRanksAndTakeTurnsWin := by
  refine ⟨fun s slot e h ht hle => ⟨fun hs => ?_, fun hs hno => ?_, fun before own after hs hsplit ho hb => ?_⟩,
    fun s slot e e' c h hl hcase => ?_⟩
  · rw [exec_close h ht hle, State.closeEntry]
    dsimp only
    rw [if_neg (by simpa using hs)]
    rfl
  · rw [exec_close h ht hle, closeEntry_claimed hs, ownRank_absent hno]
    rfl
  · rw [exec_close h ht hle, closeEntry_claimed hs, hsplit, ownRank_split ho hb]
    refine ⟨fun hn => ?_, fun hn => ?_⟩
    · rcases hn with hn | hn <;> rw [hn] <;> rfl
    · obtain ⟨n, hn⟩ : ∃ n, before.length = n + 3 := ⟨before.length - 3, by omega⟩
      rw [hn]
      rfl
  · obtain ⟨hkey, hscore, hexec⟩ : e'.key = e.key ∧ e'.score = e.score ∧ exec c s = .next ((s.putEntry slot e').takeTurn slot e') := by
      rcases hcase with ⟨rfl, hs, hle, rfl⟩ | ⟨rfl, hs, ht, hle, rfl, own, after, hclaims, ho⟩
      · exact ⟨rfl, rfl, by rw [exec_takeTurn h hs hle, putEntry_self h]⟩
      · refine ⟨rfl, rfl, ?_⟩
        rw [exec_close h ht hle, closeEntry_claimed hs, hclaims]
        have := ownRank_split (before := []) (after := after) ho nofun
        rw [List.nil_append] at this
        rw [this]
        rfl
    rw [hexec]
    refine ⟨fun ha => by rw [takeTurn_forfeits ha], fun ha hf => ?_⟩
    rw [takeTurn_takes ha hf hkey, ← hscore]
    exact ⟨_, rfl, take_frame _ _, recompute_avail_held _, fun hroom hc => take_cau hl h rfl hkey hroom hc⟩

/-! ## Giving the job up (R84, R100) -/

/-- The entry `e` of the job written as `e'`: its TAKE leaves the queue, a DROP is offered from TAKEN, and the fare engine is told. -/
def giveUp (s : State) (slot : Nat) (e e' : BoardEntry) : State :=
  let u := (s.putEntry slot e').removeOwn (.take e.key)
  (if e.state == .taken then u.offer (.drop e.key) else u).fareReleased

theorem dropJob_giveUp (r : Reason) : s.dropJob slot e r = giveUp s slot e { (e.finish .dropped s.now) with
    reason := some r, takeMark := none, droppedFromTaking := e.state == .taking } := rfl

theorem settleTake_giveUp {x : Claim} (h : x.better (s.ownClaim e) = true) : s.settleTake slot e x
    = (giveUp s slot e { (e.finish .yielded s.now) with takeMark := none, takenBy := some x }).raiseEvent
      .jobYielded slot 0 := by
  rw [State.settleTake, if_pos h]
  rfl

theorem giveUp_queue_frame : QueueFrame (s.putEntry slot e') (if e.state == .taken then
    ((s.putEntry slot e').removeOwn (.take e.key)).offer (.drop e.key) else (s.putEntry slot e').removeOwn (.take e.key)) := by
  split
  · exact (removeOwn_frame _ _).trans (offer_frame _ _)
  · exact removeOwn_frame _ _

theorem giveUp_eq (hf : s.ret.fare = .onCall) : giveUp s slot e e' = (if e.state == .taken then
    ((s.putEntry slot e').removeOwn (.take e.key)).offer (.drop e.key)
      else (s.putEntry slot e').removeOwn (.take e.key)).setFare .vacant :=
  fareReleased_of_onCall ((fare_of_frame giveUp_queue_frame.toAvail).trans hf)

/-- The frame of the job given up, with any marks in the entry. -/
theorem giveUp_frame {x : BoardEntry} (hf : s.ret.fare = .onCall) (hx : e'.unmark = x.unmark) : AvailFrame
    ({ s.withEntry slot x with fre := { s.fre with idleSince := s.idleFrom .vacant s.fre.driver } }.withRet
      { s.ret with fare := .vacant }) (giveUp s slot e e') := by
  rw [giveUp_eq hf]
  exact ((putEntry_marks s slot hx).trans giveUp_queue_frame).toAvail.setFare .vacant

theorem giveUp_absent (hf : s.ret.fare = .onCall) (hl : s.ofb.keyLaw) (h : slotGet s.ofb.slots slot = some e)
    (hk : e'.key = e.key) (hs : e'.state.holdsJob = false) : ∀ x ∈ (giveUp s slot e e').cau.queue, x.owner ≠ .own (.take e.key) := by
  have hgone := absent_removed (markless_take hl h hk hs)
  rw [giveUp_eq hf]
  refine (absent_setFare _ ?_).2
  split
  · exact absent_offer (fun he => nomatch he) hgone
  · exact hgone

theorem removeOwn_of_none {r : OwnRef} (hh : s.cau.holds r = false) (hd : s.cau.defers r = false) : s.removeOwn r = s := by
  rw [State.removeOwn, hh, hd]
  rfl

theorem giveUp_queue (hf : s.ret.fare = .onCall) (hl : s.ofb.keyLaw) (h : slotGet s.ofb.slots slot = some e)
    (hk : e'.key = e.key) (hroom : s.room) (ha : s.ofb.avail ≠ some .free) (hh : s.cau.holds (.take e.key) = false)
    (hd : s.cau.defers (.take e.key) = false) :
    (e.state = .taking → (giveUp s slot e e').cau.queue = s.cau.queue)
      ∧ (e.state = .taken → (giveUp s slot e e').cau.queue
        = s.cau.queue ++ [s.ownEntry (.drop e.key) (.drop e.key e'.dropReason)]) := by
  have hrem : (s.putEntry slot e').removeOwn (.take e.key) = s.putEntry slot e' := removeOwn_of_none hh hd
  have havail := (giveUp_queue_frame (s := s) (slot := slot) (e := e) (e' := e')).boardAvail
  rw [giveUp_eq hf, setFare_cau_of_not_free _ (by rw [havail]; exact ha), hrem]
  refine ⟨fun hs => by rw [hs]; rfl, fun hs => ?_⟩
  rw [hs]
  exact congrArg Cau.queue (offer_room (s := s.putEntry slot e') hroom (dropBody_put hl h hk) rfl)

theorem release_of {reason : Byte} (hb : reason.toNat ≤ 1) (h : s.jobEntry = some (slot, e)) : actReleaseJob reason.toNat s
    = done (s.dropJob slot e (if reason = 0 then .noShow else .declined)) [] := by
  have hz : (reason.toNat == 0) = decide (reason = 0) := by
    rw [Bool.eq_iff_iff, beq_iff_eq, decide_eq_true_iff]
    exact ⟨fun h => BitVec.eq_of_toNat_eq h, fun h => by rw [h]; rfl⟩
  simp only [actReleaseJob, if_neg (show ¬ 1 < reason.toNat by omega), h, hz, decide_eq_true_iff]

/-- Settles O23: the job in hand is given up as every job is. -/
theorem releaseJobDropsTheJob : Obligations.ReleaseJobDropsTheJob := by
  intro s reason hr hb hl
  have hexec : exec (.releaseJob reason) s
    = .next (s.hostCommand 0x34 [reason] .operating (actReleaseJob reason.toNat)) := rfl
  rw [hexec]
  refine ⟨fun hn => congrArg _ (operating_next (blind_releaseJob _) hr ?_), fun slot e h hf => ?_⟩
  · simp only [actReleaseJob, if_neg (show ¬ 1 < reason.toNat by omega), hn]
    rfl
  · obtain ⟨hslot, -⟩ := slotFind_zero _ _ _ _ h
    refine ⟨_, congrArg _ (operating_next (blind_releaseJob _) hr (release_of hb h)), ?_, ?_, ?_, fun hroom ha hh hd => ?_⟩
    · refine AvailFrame.answering ?_ _ _ _
      rw [dropJob_giveUp]
      exact giveUp_frame hf (by rw [← Bool.beq_eq_decide_eq]; rfl)
    · rw [dropJob_giveUp, giveUp_eq hf]
      exact recompute_avail_held _
    · exact giveUp_absent hf hl hslot rfl rfl
    · obtain ⟨htaking, htaken⟩ := giveUp_queue (e' := { (e.finish .dropped s.now) with
        reason := some (if reason = 0 then .noShow else .declined), takeMark := none
        droppedFromTaking := e.state == .taking }) hf hl hslot rfl hroom ha hh hd
      refine ⟨htaking, fun hs => (htaken hs).trans ?_⟩
      by_cases h0 : reason = 0
      · simp only [h0, if_true]
        rfl
      · simp only [h0, if_false]
        rfl

/-! ## TAKEs heard (R99, R100) -/

theorem takeHeard_of {k : JobKey} {x : Claim} (h : s.entry k = some (slot, e)) : s.takeHeard k x
    = match e.state with
      | .taking => s.settleTake slot e x
      | .taken => s.settleTake slot e x
      | .opened => s.loseEntry slot { e with takenBy := some x } .lost
      | .claimPending => (s.loseEntry slot { e with takenBy := some x, claimMark := none } .lost).dropClaim e
      | .claimed => s.loseEntry slot { e with takenBy := some x } .lost
      | .ranked => s.loseEntry slot { e with takenBy := some x } .lost
      | .watch => s.putEntry slot ({ e with takenBy := some x }.finish .closed s.now)
      | .done => s.raiseEvent .takeConflict slot 0
      | _ => s.putEntry slot { e with takenBy := some x } := by
  cases hs : e.state <;> simp only [State.takeHeard, h, hs]

theorem beats_own_iff (s : State) (e : BoardEntry) (origin score : Nat) : (⟨origin, score⟩ : Claim).better (s.ownClaim e) = true
    ↔ score < e.score.getD 0 ∨ (score = e.score.getD 0 ∧ origin < s.ownId) := by
  simp only [Claim.better, State.ownClaim, Bool.or_eq_true, Bool.and_eq_true, beq_iff_eq]
  exact or_congr decide_eq_true_iff (and_congr_right' decide_eq_true_iff)

theorem takeHeard_settles {k : JobKey} {x : Claim} (h : s.entry k = some (slot, e)) (hs : e.state = .taking ∨ e.state = .taken) :
    s.takeHeard k x = s.settleTake slot e x := by
  rw [takeHeard_of h]
  rcases hs with hs | hs <;> rw [hs]

/-- Settles O25: a TAKE heard ends the entry by its state; the one that holds the job compares the records. -/
theorem takeHeardEndsOrSettlesTheJob : Obligations.TakeHeardEndsOrSettlesTheJob := by
  refine ⟨fun s f t k score rank rep slot e hf hl h => ?_, fun s f t k score rank rep slot e hf hl h hs => ?_⟩
  · have hd : s.deliver f t = s.takeHeard k ⟨f.origin, score⟩ := by simp only [State.deliver, hf]
    obtain rfl : e.key = k := entry_key h
    rw [hd]
    intro lost
    refine ⟨fun hs hm => ?_, fun hs => ?_, fun hs => by rw [takeHeard_of h, hs]; rfl, fun hs => by rw [takeHeard_of h, hs],
      fun hs hne => ?_⟩
    · show _ = (s.withEntry slot _).raiseEvent _ _ _
      rw [takeHeard_of h, ← hm]
      rcases hs with hs | hs | hs <;> rw [hs] <;> rfl
    · have hpending : s.takeHeard e.key ⟨f.origin, score⟩ = lost.removeOwn (.claim e.key) := by
        rw [takeHeard_of h]
        simp only [State.dropClaim, hs]
        rfl
      have hgone : markless lost (.claim e.key) := markless_lost hl (entry_slot h) (e' := { e with
        takenBy := some ⟨f.origin, score⟩, claimMark := none }) (st := .lost) rfl nofun
      rw [hpending]
      exact ⟨removeOwn_frame _ _, (absent_removed hgone).2⟩
    · rw [takeHeard_of h]
      cases hst : e.state <;> first | rfl | exact absurd hst hne | (rw [hst] at hs; cases hs)
  · have hd : s.deliver f t = s.settleTake slot e ⟨f.origin, score⟩ := by
      simp only [State.deliver, hf, takeHeard_settles h hs]
    obtain rfl : e.key = k := entry_key h
    have hslot := entry_slot h
    intro better
    have hb := beats_own_iff s e f.origin score
    rw [hd]
    refine ⟨fun hbet hfare hr => ?_, fun hbet hrest => ?_, fun hbet hst hrep => ?_⟩
    · rw [settleTake_giveUp (hb.mpr hbet)]
      refine ⟨AvailFrame.raiseEvent (giveUp_frame hfare ?_) _ _ _, giveUp_absent hfare hl hslot rfl rfl,
        fun hroom ha hh hd => ?_⟩
      · rfl
      obtain ⟨htaking, htaken⟩ := giveUp_queue (e' := { (e.finish .yielded s.now) with
        takeMark := none, takenBy := some ⟨f.origin, score⟩ }) hfare hl hslot rfl hroom ha hh hd
      have hreason : ({ (e.finish .yielded s.now) with
        takeMark := none, takenBy := some ⟨f.origin, score⟩ } : BoardEntry).dropReason = 2 := by
        show (match e.reason with | some .noShow => 0 | some .declined => 1 | some .emergency => 3 | _ => 2) = 2
        rw [hr]
      rw [hreason] at htaken
      exact ⟨htaking, htaken⟩
    · rw [State.settleTake, if_neg fun hn => hbet (hb.mp hn), if_neg]
      rcases hrest with hr | hr <;> simp [hr]
    · have hoffer : s.settleTake slot e ⟨f.origin, score⟩
          = (s.putEntry slot { e with repeatUsed := true }).offer (.take e.key) := by
        rw [State.settleTake, if_neg fun hn => hbet (hb.mp hn), if_pos]
        simp [hst, hrep]
      have hbody := takeBody_put (e' := { e with repeatUsed := true }) hl hslot rfl
      dsimp only at hbody
      rw [show (e.state == .taken) = true from beq_iff_eq.mpr hst] at hbody
      rw [hoffer]
      exact ⟨offer_frame _ _, fun hroom => offer_room (s := s.putEntry slot _) hroom hbody rfl⟩

/-! ## CANCEL and DROP heard (R101, R102, R126, R132, R152) -/

theorem cancelReason_eq (n : Nat) : cancelReason n = if n = 0 then .customer else if n = 1 then .reOffered else .other := by
  match n with
  | 0 | 1 | _ + 2 => rfl

theorem withdraw_eq (k : JobKey) : InNote.withdraw k = fun n : InNote => if n.key = some k ∧ n.state ≠ .deleted then
    { n with state := .deleted, delReason := some .jobWithdrawn } else n := by
  funext n
  unfold InNote.withdraw
  by_cases h : n.key = some k ∧ n.state ≠ .deleted
  · rw [if_pos h, if_pos (by simpa using h)]
  · rw [if_neg h, if_neg (by simpa using h)]

theorem withdraw_unmark (k : JobKey) (n : InNote) : (n.withdraw k).unmark = n.unmark.withdraw k := by
  unfold InNote.withdraw
  rw [apply_ite InNote.unmark]
  rfl

theorem noteWithdrawn_inbox {t : State} (k : JobKey)
    (h : t.nts.inbox.map (·.map InNote.unmark) = s.nts.inbox.map (·.map InNote.unmark)) :
    (t.noteWithdrawn k).nts.inbox.map (·.map InNote.unmark) = (s.noteWithdrawn k).nts.inbox.map (·.map InNote.unmark) := by
  have hmap (l : List (Option InNote)) : (l.map (·.map (·.withdraw k))).map (·.map InNote.unmark)
      = (l.map (·.map InNote.unmark)).map (·.map (·.withdraw k)) := by
    simp only [List.map_map, Function.comp_def, Option.map_map, withdraw_unmark]
  exact (hmap _).trans ((congrArg _ h).trans (hmap _).symm)

theorem noteWithdrawn_frame {t : State} (k : JobKey) (h : QueueFrame s t) : QueueFrame (s.noteWithdrawn k) (t.noteWithdrawn k) :=
  { h with inbox := noteWithdrawn_inbox k h.inbox }

theorem noteWithdrawn_avail {t : State} (k : JobKey) (h : AvailFrame s t) : AvailFrame (s.noteWithdrawn k) (t.noteWithdrawn k) :=
  { h with inbox := noteWithdrawn_inbox k h.inbox }

theorem cancelHeard_live {k : JobKey} {r : Reason} (h : s.entry k = some (slot, e)) (hs : e.state.live = true) :
    s.cancelHeard k r = s.withdraw slot e r := by
  simp only [State.cancelHeard, h, hs, if_true]

theorem cancelHeard_done {k : JobKey} {r : Reason} (h : s.entry k = some (slot, e)) (hs : e.state = .done) :
    s.cancelHeard k r = (s.raiseEvent .jobCancelled slot 1).lateCancel k := by
  simp only [State.cancelHeard, h, hs]
  rfl

/-- The entry as a CANCEL leaves it (R101). -/
def withdrawn (e : BoardEntry) (r : Reason) (now : Nat) : BoardEntry :=
  { (e.finish .withdrawn now) with reason := some r, claimMark := none, takeMark := none }

theorem withdraw_idle {r : Reason} (hj : e.state.holdsJob = false) (hc : e.state ≠ .claimPending) :
    s.withdraw slot e r = (s.putEntry slot (withdrawn e r s.now)).noteWithdrawn e.key := by
  have : (e.state == .claimPending) = false := beq_eq_false_iff_ne.mpr hc
  simp only [State.withdraw, State.dropClaim, hj, this, if_neg Bool.false_ne_true]
  rfl

theorem withdraw_pending {r : Reason} (hs : e.state = .claimPending) : s.withdraw slot e r
    = ((s.putEntry slot (withdrawn e r s.now)).removeOwn (.claim e.key)).noteWithdrawn e.key := by
  simp only [State.withdraw, State.dropClaim, hs]
  rfl

theorem withdraw_job {r : Reason} (hs : e.state = .taking ∨ e.state = .taken) (hf : s.ret.fare = .onCall) :
    s.withdraw slot e r = ((((s.putEntry slot (withdrawn e r s.now)).removeOwn (.take e.key)).setFare .vacant).raiseEvent
      .jobCancelled slot 0).noteWithdrawn e.key := by
  have hjob : e.state.holdsJob = true := by rcases hs with hs | hs <;> rw [hs] <;> rfl
  have hclaim : (e.state == .claimPending) = false := by rcases hs with hs | hs <;> rw [hs] <;> rfl
  simp only [State.withdraw, State.dropClaim, hjob, hclaim, if_neg Bool.false_ne_true, if_true]
  rw [fareReleased_of_onCall]
  · rfl
  · exact (fare_of_frame (removeOwn_frame _ _).toAvail).trans hf

theorem lateCancel_trip {k : JobKey} {t : Trip} (h : s.ret.trip = some t) (hk : t.jobKey = some k) :
    s.lateCancel k = s.setTrip { t with flags := { t.flags with lateCancel := true } } := by
  simp only [State.lateCancel, h, hk, beq_self_eq_true, if_true]

theorem lateCancel_log {k : JobKey} (h : ∀ t, s.ret.trip = some t → t.jobKey ≠ some k) : s.lateCancel k = s.lateLog k := by
  unfold State.lateCancel
  split
  · next t ht => rw [if_neg (by simpa using h t ht)]
  · rfl

theorem markLate_split {k : JobKey} {r : TripRecord} {before after : List TripRecord} (hr : r.jobKey = some k)
    (hb : ∀ x ∈ before, x.jobKey ≠ some k) : markLate k (before ++ r :: after)
      = before ++ { r with flags := { r.flags with lateCancel := true } } :: after := by
  induction before with
  | nil => simp [markLate, hr]
  | cons x l ih =>
    have hx : (x.jobKey == some k) = false := beq_eq_false_iff_ne.mpr (hb x List.mem_cons_self)
    rw [List.cons_append, markLate, hx, if_neg Bool.false_ne_true, ih fun y hy => hb y (List.mem_cons_of_mem _ hy)]
    rfl

/-- Settles O26: a CANCEL acts by the state of the entry, a DROP on every entry alike. -/
theorem cancelWithdrawsAndDropClearsTakenBy : Obligations.CancelWithdrawsAndDropClearsTakenBy := by
  intro s f t k slot e hl h
  refine ⟨fun reason hf ho => ?_, fun reason hf => ?_⟩
  · intro r u
    have hreason : cancelReason reason = r := cancelReason_eq reason
    have hd : s.deliver f t = s.cancelHeard k r := by
      simp only [State.deliver, hf, ho, hreason]
    rw [hd]
    obtain rfl : e.key = k := entry_key h
    have hslot := entry_slot h
    have hu : (s.putEntry slot (withdrawn e r s.now)).noteWithdrawn e.key = u := by
      rw [State.noteWithdrawn, withdraw_eq]
      rfl
    refine ⟨fun hs => ?_, fun hs => ?_, fun hs hfare => ?_, fun hs trip ht hk => ?_, fun hs ht before rec after hlog hk hb => ?_,
      fun hs ht hno => ?_, fun hs hne => ?_⟩
    · rw [← hu]
      rcases hs with hs | hs | hs | hs <;>
        exact (cancelHeard_live h (by rw [hs]; rfl)).trans (withdraw_idle (by rw [hs]; rfl) (by rw [hs]; exact nofun))
    · rw [cancelHeard_live h (by rw [hs]; rfl), withdraw_pending hs, ← hu]
      have hgone := absent_removed (markless_claim (e' := withdrawn e r s.now) hl hslot rfl nofun)
      exact ⟨noteWithdrawn_frame _ (removeOwn_frame _ _), hgone.2⟩
    · rw [cancelHeard_live h (by rcases hs with hs | hs <;> rw [hs] <;> rfl), withdraw_job hs hfare, ← hu]
      have hgone := absent_removed (markless_take (e' := withdrawn e r s.now) hl hslot rfl rfl)
      exact ⟨noteWithdrawn_avail _ (((removeOwn_frame _ _).toAvail.setFare .vacant).raiseEvent _ _ _),
        (absent_setFare .vacant hgone).2⟩
    · rw [cancelHeard_done h hs, lateCancel_trip (s := s.raiseEvent .jobCancelled slot 1) ht hk]
      rfl
    · have hany : s.ret.tripLog.any (fun r => r.jobKey == some e.key) = true :=
        List.any_eq_true.mpr ⟨rec, by rw [hlog]; simp, by simp [hk]⟩
      rw [cancelHeard_done h hs, lateCancel_log (s := s.raiseEvent .jobCancelled slot 1) ht, State.lateLog, State.raiseEvent_ret, if_pos hany, hlog,
        markLate_split hk hb]
      rfl
    · have hany : ¬ s.ret.tripLog.any (fun r => r.jobKey == some e.key) = true := fun hany => by
        obtain ⟨x, hx, hxk⟩ := List.any_eq_true.mp hany
        exact hno x hx (by simpa using hxk)
      rw [cancelHeard_done h hs, lateCancel_log (s := s.raiseEvent .jobCancelled slot 1) ht, State.lateLog, State.raiseEvent_ret, if_neg hany]
    · have : (e.state == .done) = false := beq_eq_false_iff_ne.mpr hne
      simp only [State.cancelHeard, h, hs, this, if_neg Bool.false_ne_true]
  · have hd : s.deliver f t = s.dropHeard k := by simp only [State.deliver, hf]
    rw [hd, State.dropHeard, State.modEntry, h]
    rfl

end

end Sys2Proof
end

section
/-! PROOFS. What feeds availability: the driver's status and the shift (O28), and the own position (O16). -/

namespace Sys2Proof

open Sys2Proof.Machine

/-- The outcome of an operating command in RUN, from that of its act. -/
theorem operating_exec {s u : State} {c : Instr} {code : Byte} {params result : List Byte} {act : Act} {collecting : Bool}
    (hx : exec c s = .next (s.hostCommand code params .operating act)) (hp : (!params.isEmpty) = collecting) (hb : blind act)
    (h : s.ready .run) (ha : act s = (u, result)) : exec c s = .next (u.answering s collecting result) := by
  rw [hx, operating_next hb h ha, hp]

section
variable {s t : State}

/-! ## The board when the cab stops being FREE (R78) -/

theorem convertBoard_watch {slot : Nat} {e : BoardEntry} (r : Reason) (h : slotGet s.ofb.slots slot = some e)
    (hs : e.state = .opened ∨ e.state = .claimPending) :
    ∃ e', slotGet (s.convertBoard r).ofb.slots slot = some e'
      ∧ e'.unmark = { e.unmark with state := .watch, reason := some r } := by
  have hboard := congrArg (slotGet · slot) (removeClaims_frame (s.mapBoard (·.toWatch r)) s.pendingClaims).board
  simp only [slotGet_map] at hboard
  have hmap : slotGet (s.mapBoard (·.toWatch r)).ofb.slots slot = some (e.toWatch r) := by
    show slotGet (s.ofb.slots.map (·.map (·.toWatch r))) slot = _
    rw [slotGet_map, h]
    rfl
  rw [hmap] at hboard
  obtain ⟨e', he', hu⟩ := Option.map_eq_some_iff.mp hboard
  refine ⟨e', he', hu.trans ?_⟩
  rcases hs with hs | hs <;> simp [BoardEntry.toWatch, BoardEntry.unmark, hs]

/-- The offers of a FREE cab go to WATCH when the recomputation finds another availability (R78). -/
theorem recompute_watch {slot : Nat} {e : BoardEntry} {a : Avail} (ha : s.availNow = a) (hne : a ≠ .free)
    (hf : s.fre.avail = some .free) (ho : s.ofb.avail = some .free) (h : slotGet s.ofb.slots slot = some e)
    (hs : e.state = .opened ∨ e.state = .claimPending) :
    ∃ e', slotGet s.recompute.ofb.slots slot = some e'
      ∧ e'.unmark = { e.unmark with state := .watch, reason := some (watchReason a s.ppu.stale) } := by
  have hrec : s.recompute = ((s.setFre { s.fre with avail := some a }).boardAvail a).ppuAvail a := by
    unfold State.recompute
    rw [ha, hf]
    exact if_neg fun h => hne (by simpa using (beq_iff_eq.mp h).symm)
  have hboard : (s.setFre { s.fre with avail := some a }).boardAvail a = (((s.setFre { s.fre with avail := some a }).setOfb
      { s.ofb with avail := some a }).convertBoard (watchReason a s.ppu.stale)) := by
    unfold State.boardAvail
    refine if_pos ?_
    rw [Bool.and_eq_true, beq_iff_eq, bne_iff_ne]
    exact ⟨ho, hne⟩
  rw [hrec, hboard]
  exact convertBoard_watch (s := (s.setFre _).setOfb _) _ h hs

/-- A queue operation leaves the availability held as fresh as it was. -/
theorem avail_of_frame (h : QueueFrame s t) (hs : s.fre.avail = some s.availNow) : t.fre.avail = some t.availNow := by
  have hnow : t.availNow = s.availNow := by
    unfold State.availNow
    rw [h.ret, h.ppu, h.fre]
  rw [hnow, h.fre]
  exact hs

/-! ## The TALLY built (R139) -/

theorem setTally_frame {x y : Option TallyInHand} (h : y.map (·.body) = x.map (·.body)) :
    QueueFrame (s.setTtl { s.ttl with tally := x }) (s.setTtl { s.ttl with tally := y }) :=
  { QueueFrame.refl (s.setTtl { s.ttl with tally := x }) with tally := h }

/-- The tally in hand carries the totals of the moment, wherever it stands. -/
theorem buildTally_frame (s : State) :
    QueueFrame (s.setTtl { s.ttl with tally := some ⟨s.tallyBody, none, .offered⟩ }) s.buildTally := by
  unfold State.buildTally State.offerTally
  dsimp only
  split
  · exact offer_frame _ _
  · split
    · exact QueueFrame.trans (setTally_frame (by rfl)) (offer_frame _ _)
    · exact setTally_frame (by rfl)

/-- The recomputed state and the tally after it, in one frame. -/
theorem tallyIfHome_frame {b : TallyBody} (h : AvailFrame s t) (hb : t.tallyBody = b) : AvailFrame
    (s.setTtl { s.ttl with tally := if 1 ≤ t.homeBase ∧ t.homeBase ≤ 31 then some ⟨b, none, .offered⟩ else s.ttl.tally })
    t.tallyIfHome := by
  unfold State.tallyIfHome
  by_cases hh : 1 ≤ t.homeBase ∧ t.homeBase ≤ 31
  · rw [if_pos hh, if_pos (by simpa [isBase] using hh), ← hb]
    exact AvailFrame.trans (t := t.setTtl { t.ttl with tally := some ⟨t.tallyBody, none, .offered⟩ }) { h with tally := rfl }
      (buildTally_frame t).toAvail
  · rw [if_neg hh, if_neg (by simpa [isBase] using hh)]
    exact h

/-! ## Driver status (R88, R108) -/

theorem ofCode_none {n : Nat} (h : 3 ≤ n) : DriverStatus.ofCode n = none := by
  obtain ⟨m, rfl⟩ : ∃ m, n = m + 3 := ⟨n - 3, by omega⟩
  rfl

theorem setDriver_frame (s : State) (d : DriverStatus) : AvailFrame
    { s with fre := { s.fre with driver := d, idleSince := s.idleFrom s.ret.fare d } } (s.setDriver d) := by
  unfold State.setDriver
  rw [idleUpdate_eq]
  exact recompute_frame _

theorem setDriver_watch {slot : Nat} {e : BoardEntry} {d : DriverStatus} (hd : d ≠ .available) (ha : s.ret.alarm = .quiet)
    (hf : s.ret.fare = .vacant) (hst : s.ppu.stale = false) (ho : s.ret.shiftOpen = true) (hfre : s.fre.avail = some .free)
    (hofb : s.ofb.avail = some .free) (h : slotGet s.ofb.slots slot = some e)
    (hs : e.state = .opened ∨ e.state = .claimPending) :
    ∃ e', slotGet (s.setDriver d).ofb.slots slot = some e'
      ∧ e'.unmark = { e.unmark with state := .watch, reason := some .busy } := by
  have hnow : ∃ a, availability s.ret.alarm s.ret.fare s.ppu.stale s.ret.shiftOpen d = a ∧ a ≠ .free
      ∧ watchReason a s.ppu.stale = .busy := by
    rw [ha, hf, hst, ho]
    cases d
    · exact absurd rfl hd
    · exact ⟨_, rfl, nofun, rfl⟩
    · exact ⟨_, rfl, nofun, rfl⟩
  obtain ⟨a, hav, hne, hreason⟩ := hnow
  unfold State.setDriver
  rw [idleUpdate_eq, ← hreason]
  exact recompute_watch hav hne hfre hofb h hs

theorem tallyIfHome_avail (h : s.fre.avail = some s.availNow) : s.tallyIfHome.fre.avail = some s.tallyIfHome.availNow := by
  unfold State.tallyIfHome
  split
  · exact avail_of_frame (s := s.setTtl _) (buildTally_frame s) h
  · exact h

/-- Settles O28: every change of the inputs is followed by a recomputation. -/
theorem driverStatusAndShiftFeedAvailability : Obligations.DriverStatusAndShiftFeedAvailability := by
  refine ⟨fun s status hr => ⟨fun h3 => ?_, fun d hd => ?_⟩,
    fun s => ⟨fun hr => ⟨fun hbar => ?_, fun hf ho ht => ?_, fun hbar => ?_, fun st hst hf ho => ?_⟩, fun tick ht hle => ?_⟩⟩
  · exact operating_exec rfl rfl (blind_setDriver _) hr (by
      rw [actSetDriver, ofCode_none h3]
      rfl)
  · have hact : actSetDriver status.toNat s
        = if d == .available && !s.ret.shiftOpen then refuse .state s else done (s.setDriver d) [] := by
      rcases hd with ⟨rfl, rfl⟩ | ⟨rfl, rfl⟩ | ⟨rfl, rfl⟩ <;> rfl
    refine ⟨fun ha ho => operating_exec rfl rfl (blind_setDriver _) hr (hact.trans ?_), fun hopen => ?_⟩
    · rw [ha, ho]
      rfl
    · have hset : actSetDriver status.toNat s = (s.setDriver d, [0]) := by
        rw [hact, if_neg]
        · rfl
        · rcases hopen with hne | ho
          · simp [hne]
          · simp [ho]
      exact ⟨_, operating_exec rfl rfl (blind_setDriver _) hr hset, (setDriver_frame s d).answering _ _ _,
        recompute_avail_held _, fun hne hal hf hst ho hfre hofb slot e h hs => setDriver_watch hne hal hf hst ho hfre hofb h hs⟩
  · refine operating_exec rfl rfl blind_startShift hr ?_
    have : (s.ret.fare != .vacant || s.ret.shiftOpen || s.shiftEndTally) = true := by
      rcases hbar with hf | ho | ⟨x, hx, he⟩
      · simp [hf]
      · simp [ho]
      · simp [State.shiftEndTally, hx, he]
    rw [actStartShift, if_pos this]
    rfl
  · have hno : s.shiftEndTally = false := by
      unfold State.shiftEndTally
      cases hx : s.ttl.tally with
      | none => rfl
      | some x => exact ht x hx
    have hact : actStartShift s = (s.openShift, [0]) := by
      rw [actStartShift, hf, ho, hno]
      rfl
    exact ⟨_, operating_exec rfl rfl blind_startShift hr hact,
      (recompute_frame _).answering _ _ _, recompute_avail_held _⟩
  · refine operating_exec rfl rfl blind_endShift hr ?_
    have : (s.ret.fare != .vacant || !s.ret.shiftOpen) = true := by
      rcases hbar with hf | ho
      · simp [hf]
      · simp [ho]
    rw [actEndShift, if_pos this]
    rfl
  · intro tally
    have hact : actEndShift s = (s.closeShift, [0]) := by
      rw [actEndShift, hf, ho]
      rfl
    refine ⟨_, operating_exec rfl rfl blind_endShift hr hact,
      AvailFrame.answering ?_ _ _ _, tallyIfHome_avail (recompute_avail_held _)⟩
    have hframe := recompute_frame ((s.setRet { s.ret with shiftOpen := false }).setTtl { s.ttl with shiftTickAt := none })
    have hhome : ((s.setRet { s.ret with shiftOpen := false }).setTtl { s.ttl with shiftTickAt := none }).recompute.homeBase
        = st.home := homeBase_of (by rw [hframe.cpt]; exact hst)
    have htally : ((s.setRet { s.ret with shiftOpen := false }).setTtl { s.ttl with shiftTickAt := none }).recompute.tallyBody
        = tally := by
      rw [State.tallyBody, hhome, hframe.ret]
      rfl
    have hall := tallyIfHome_frame hframe htally
    rw [hhome] at hall
    exact hall
  · show Host.Outcome.next (if due s.ttl.shiftTickAt s.now then s.shiftSecond else s) = _
    rw [ht, due_some hle, if_pos rfl, State.shiftSecond, ht]
    rfl

end

end Sys2Proof
end

section
/-! PROOFS. The trip: hired (O29), stopped and resumed (O30), settled (O31), and charged by seconds and pulses (O33). -/

namespace Sys2Proof

open Sys2Proof.Machine

section
variable {s : State} {x y : Trip}

/-! ## The surcharge of the zone (R118) -/

theorem surchargeTest_none (h : s.zoneSurcharge = none) : s.surchargeTest = s := by
  unfold State.surchargeTest
  rw [h]
  split
  · next hz => cases hz
  · rfl

theorem surchargeTest_some {i : Nat} (hx : s.ret.trip = some x) (h : s.zoneSurcharge = some i) : s.surchargeTest
    = if x.hasApplied i then s else s.setPriced (x.apply i (s.surchargeAmount i)) := by
  unfold State.surchargeTest
  rw [h, hx]

/-- The index of the current zone's surcharge, 0 for none, decides the test (R118). -/
theorem zoneSurcharge_index (s : State) {index : Nat} (h : (match slotGet s.ppu.zones s.ppu.zone with
    | some z => if z.surcharge ≤ 3 then z.surcharge else 0
    | none => 0) = index) : s.zoneSurcharge = if index = 0 then none else some index := by
  subst h
  unfold State.zoneSurcharge
  cases slotGet s.ppu.zones s.ppu.zone with
  | none => rfl
  | some z =>
    dsimp only
    by_cases h0 : z.surcharge = 0
    · simp [h0]
    · by_cases h3 : z.surcharge ≤ 3
      · simp [h0, h3, Nat.one_le_iff_ne_zero.mpr h0]
      · simp [h3]

/-! ## HIRE (R103, R112, R116, R117) -/

theorem hire_barred {tariff : Nat} (h1 : 1 ≤ tariff) (h8 : tariff ≤ 8) (h : s.hireBarred = true) :
    actHire tariff s = refuse .state s := by
  have hr : (decide (tariff < 1) || decide (8 < tariff)) = false := by simp; omega
  simp only [actHire, hr, h, if_neg Bool.false_ne_true, if_true]

theorem hire_without {tariff : Nat} (h1 : 1 ≤ tariff) (h8 : tariff ≤ 8) (h : s.hireBarred = false)
    (hn : s.tariffSlot tariff = none ∨ s.ret.k = none) : actHire tariff s = refuse .range s := by
  have hr : (decide (tariff < 1) || decide (8 < tariff)) = false := by simp; omega
  unfold actHire
  rw [hr, h, if_neg Bool.false_ne_true, if_neg Bool.false_ne_true]
  split
  · next ht hk => rcases hn with hn | hn <;> simp_all
  · rfl

theorem hire_starts {tariff k : Nat} {tr : Tariff} (h1 : 1 ≤ tariff) (h8 : tariff ≤ 8) (h : s.hireBarred = false)
    (ht : s.tariffSlot tariff = some tr) (hk : s.ret.k = some k) :
    actHire tariff s = (s.startTrip (newTrip tariff tr k s.ret.shiftTime), [0]) := by
  have hr : (decide (tariff < 1) || decide (8 < tariff)) = false := by simp; omega
  simp only [actHire, hr, h, if_neg Bool.false_ne_true, ht, hk]
  rfl

/-- A trip just started, as HIRE and the zone make it (R116 to R118). -/
def startedTrip (tariff : Nat) (tr : Tariff) (k time index amount : Nat) (key : Option JobKey) : Trip :=
  { newTrip tariff tr k time with
    applied := if index = 0 then 0 else BitVec.ofNat 3 (2 ^ (index - 1))
    surchSum := if index = 0 then 0 else amount
    jobKey := key }

/-- A HIRED state with this trip and the idle timer stopped. -/
def hiredWith (v : State) (x : Trip) : State :=
  { v with fre := { v.fre with idleSince := none } }.withRet { v.ret with fare := .hired, trip := some x }

theorem hired_idleUpdate (v : State) (x : Trip) :
    (v.setRet { v.ret with fare := .hired, trip := some x }).idleUpdate = hiredWith v x := idleUpdate_eq _

theorem surcharge_le {l : List Nat} (h : ∀ a ∈ l, a ≤ 65535) (i : Nat) : l.getD i 0 ≤ 65535 := by
  rw [List.getD_eq_getElem?_getD]
  cases hg : l[i]? with
  | none => simp
  | some a => exact h a (List.mem_of_getElem? hg)

/-- The zone's surcharge in a trip just started: far below the limit of the total. -/
theorem hired_surcharge (v : State) {tariff k time index : Nat} {tr : Tariff} (key : Option JobKey)
    (hfall : tr.flagFall ≤ 65535) (hsur : ∀ a ∈ v.ret.surcharges, a ≤ 65535)
    (hi : v.zoneSurcharge = if index = 0 then none else some index) :
    (hiredWith v { newTrip tariff tr k time with jobKey := key }).surchargeTest
      = hiredWith v (startedTrip tariff tr k time index (v.ret.surcharges.getD (index - 1) 0) key) := by
  by_cases h0 : index = 0
  · subst h0
    exact surchargeTest_none hi
  · rw [if_neg h0] at hi
    have hamount := surcharge_le hsur (index - 1)
    have hnew : ({ newTrip tariff tr k time with jobKey := key } : Trip).hasApplied index = false := BitVec.getLsbD_zero
    have happly : ({ newTrip tariff tr k time with jobKey := key } : Trip).apply index (v.ret.surcharges.getD (index - 1) 0)
        = startedTrip tariff tr k time index (v.ret.surcharges.getD (index - 1) 0) key := by
      have hor (b : BitVec 3) : 0 ||| b = b := BitVec.zero_or
      simp only [startedTrip, if_neg h0, Trip.apply, newTrip, hor, Nat.zero_add]
    have hraw : (startedTrip tariff tr k time index (v.ret.surcharges.getD (index - 1) 0) key).rawTotal
        = tr.flagFall + v.ret.surcharges.getD (index - 1) 0 := by
      simp [startedTrip, newTrip, Trip.rawTotal, Trip.meter, h0]
    rw [surchargeTest_some (s := hiredWith v _) rfl hi, hnew, if_neg Bool.false_ne_true]
    rw [show (hiredWith v { newTrip tariff tr k time with jobKey := key }).surchargeAmount index
      = v.ret.surcharges.getD (index - 1) 0 from rfl, happly, setPriced_below (.inl (by rw [hraw]; omega))]
    rfl

theorem startTrip_vacant (t : Trip) (hf : s.ret.fare = .vacant) :
    s.startTrip t = ((hiredWith s t).surchargeTest.startSecond).recompute := by
  rw [← hired_idleUpdate]
  unfold State.startTrip
  dsimp only
  rw [hf]
  rfl

theorem startTrip_onCall {slot : Nat} {e : BoardEntry} (t : Trip) (hf : s.ret.fare = .onCall) (hj : s.jobEntry = some (slot, e)) :
    s.startTrip t = ((hiredWith (s.withEntry slot { e with state := .done, termTime := some s.now, takeMark := none })
      { t with jobKey := some e.key }).surchargeTest.startSecond).recompute := by
  have hboard : (s.setRet { s.ret with fare := .hired, trip := some t }).hireBoard
      = ((s.setRet { s.ret with fare := .hired, trip := some t }).putEntry slot
        { (e.finish .done s.now) with takeMark := none }, some e.key) := by
    unfold State.hireBoard
    rw [show (s.setRet { s.ret with fare := .hired, trip := some t }).jobEntry = some (slot, e) from hj]
    rfl
  rw [← hired_idleUpdate]
  unfold State.startTrip State.hireNotice
  dsimp only
  rw [hf, hboard]
  rfl

/-- Settles O29: a HIRE passes its bars, finds its figures, and starts the trip. -/
theorem hireStartsATrip : Obligations.HireStartsATrip := by
  intro s tariff hr h1 h8
  refine ⟨fun hbar => operating_exec rfl rfl (blind_hire _) hr (hire_barred h1 h8 ?_), fun hfare hal ho => ?_⟩
  · rcases hbar with h | h | h | h | h <;> simp [State.hireBarred, h]
  · have hopen : s.hireBarred = false := by
      rcases hfare with h | h <;> simp [State.hireBarred, h, hal, ho]
    refine ⟨fun hn => operating_exec rfl rfl (blind_hire _) hr (hire_without h1 h8 hopen hn), fun tr k ht hk hfall hsur => ?_⟩
    intro dp index started
    have hact := hire_starts h1 h8 hopen ht hk
    have hi := zoneSurcharge_index s (index := index) rfl
    refine ⟨fun hf => ?_, fun slot e hf hj => ?_⟩
    · rw [startTrip_vacant _ hf, show (hiredWith s (newTrip tariff.toNat tr k s.ret.shiftTime)).surchargeTest = _ from
        hired_surcharge s none hfall hsur hi] at hact
      exact ⟨_, operating_exec rfl rfl (blind_hire _) hr hact, (recompute_frame _).answering _ _ _, recompute_avail_held _⟩
    · rw [startTrip_onCall _ hf hj, hired_surcharge (s.withEntry slot _) (some e.key) hfall hsur hi] at hact
      exact ⟨_, operating_exec rfl rfl (blind_hire _) hr hact, (recompute_frame _).answering _ _ _, recompute_avail_held _⟩

/-! ## STOP (R120, R121, R123) -/

theorem setEarned_below (h : y.units = x.units ∨ y.rawTotal < 999999 ∨ y.flags.fareLimit = true) :
    s.setEarned x y = s.setTrip y := by
  unfold State.setEarned
  split
  · rfl
  · next hne => exact setPriced_below (h.resolve_left hne)

theorem setEarned_limit (hu : y.units ≠ x.units) (h : 999999 ≤ y.rawTotal) (hf : y.flags.fareLimit = false) :
    s.setEarned x y = (s.setTrip { y with flags := { y.flags with fareLimit := true } }).raiseEvent .fareLimit 0 0 := by
  rw [State.setEarned, if_neg hu, setPriced_limit h hf]

theorem partSecond_of {tick : Nat} (h : s.fre.secondAt = some tick) :
    s.partSecond = if tick ≤ s.now + 999 * ms then 1 else 0 := by
  simp only [State.partSecond, h]

/-- The trip stopped: its frame, and the trip held. -/
theorem stopTrip_spec {u : State} (hy : u.ret.trip = some y) :
    AvailFrame ({ u with fre := { u.fre with secondAt := none, idleSince := none } }.withRet { u.ret with
      fare := .total, trip := some { y with stopTime := some u.ret.shiftTime } }) u.stopTrip
      ∧ u.stopTrip.tripTotal = min 999999 y.rawTotal := by
  have hmod : u.stopSecond.modTrip (fun t => { t with stopTime := some u.ret.shiftTime })
      = u.stopSecond.setRet { u.ret with trip := some { y with stopTime := some u.ret.shiftTime } } := by
    rw [State.modTrip, show u.stopSecond.ret = u.ret from rfl, hy]
    rfl
  have hframe : AvailFrame ({ u with fre := { u.fre with secondAt := none, idleSince := none } }.withRet { u.ret with
      fare := .total, trip := some { y with stopTime := some u.ret.shiftTime } }) u.stopTrip := by
    rw [State.stopTrip, hmod]
    exact AvailFrame.setFare (s := u.stopSecond.setRet { u.ret with
      trip := some { y with stopTime := some u.ret.shiftTime } }) (.refl _) .total
  refine ⟨hframe, ?_⟩
  rw [State.tripTotal, hframe.ret]
  rfl

theorem stop_hired (hf : s.ret.fare = .hired) (hx : s.ret.trip = some x) : actStop s
    = done (s.setEarned x (x.settlePart s.partSecond)).stopTrip
      (put32 (s.setEarned x (x.settlePart s.partSecond)).stopTrip.tripTotal) := by
  simp only [actStop, hf, hx]

theorem stop_held (hf : s.ret.fare = .held) (hx : s.ret.trip = some x) : actStop s
    = done (s.setTrip (x.addHeld s.partSecond)).stopTrip (put32 (s.setTrip (x.addHeld s.partSecond)).stopTrip.tripTotal) := by
  simp only [actStop, hf, hx]

/-- The outcome of a STOP at the state with the trip settled. -/
theorem stop_exec {u : State} (hr : s.ready .run) (hact : actStop s = done u.stopTrip (put32 u.stopTrip.tripTotal))
    (hy : u.ret.trip = some y) : ∃ t, exec .stop s = .next t
      ∧ AvailFrame (({ u with fre := { u.fre with secondAt := none, idleSince := none } }.withRet { u.ret with
        fare := .total, trip := some { y with stopTime := some u.ret.shiftTime } }).answering s false
          (0 :: put32 (min 999999 y.rawTotal))) t
      ∧ t.fre.avail = some t.availNow := by
  obtain ⟨hframe, htotal⟩ := stopTrip_spec hy
  rw [htotal] at hact
  exact ⟨_, operating_exec rfl rfl blind_stop hr hact, hframe.answering _ _ _, recompute_avail_held _⟩

/-! ## RESUME (R118, R124) -/

/-- The state of a RESUME before its surcharge test. -/
def resumedWith (s : State) (x : Trip) : State :=
  { s with fre := { s.fre with secondAt := some (s.now + 1000 * ms) } }.withRet { s.ret with
    fare := if s.ret.alarm = AlarmState.alerting then FareState.held else .hired
    trip := some { x with bucket := 0 } }

theorem resumeTrip_eq (hx : s.ret.trip = some x) : s.resumeTrip = ((resumedWith s x).surchargeTest).recompute := by
  unfold State.resumeTrip
  rw [hx]
  by_cases h : s.ret.alarm = .alerting
  · simp only [h, resumedWith]
    rfl
  · simp only [beq_eq_false_iff_ne.mpr h, resumedWith, if_neg h]
    rfl

theorem resume_exec {u : State} (hr : s.ready .run) (hf : s.ret.fare = .total) (hx : s.ret.trip = some x)
    (hu : (resumedWith s x).surchargeTest = u) : ∃ t, exec .resume s = .next t ∧ AvailFrame (u.answering s false [0]) t
      ∧ t.fre.avail = some t.availNow := by
  have hact : actResume s = (u.recompute, [0]) := by
    rw [actResume, hf, resumeTrip_eq hx, hu]
    rfl
  exact ⟨_, operating_exec rfl rfl blind_resume hr hact, (recompute_frame _).answering _ _ _, recompute_avail_held _⟩

/-- Settles O30: both act on the trip and end in a recomputation. -/
theorem stopFreezesAndResumeContinues : Obligations.StopFreezesAndResumeContinues := by
  refine ⟨fun s x tick hr hx htick => ?_, fun s x hr hf hx => ?_⟩
  · intro part stopped
    have hpart : s.partSecond = part := partSecond_of htick
    refine ⟨fun hf => ?_, fun hf => ?_⟩
    · intro credit units y raw
      have hy : x.settlePart s.partSecond = y := by
        rw [hpart]
        rfl
      have hact := stop_hired hf hx
      rw [hy] at hact
      refine ⟨fun h => ?_, fun hu hraw hfl => ?_⟩
      · rw [setEarned_below (y := y) h] at hact
        have h := stop_exec hr hact rfl
        exact h
      · rw [setEarned_limit (y := y) hu hraw hfl] at hact
        have h := stop_exec hr hact rfl
        exact h
    · have hact := stop_held hf hx
      rw [hpart] at hact
      have h := stop_exec hr hact rfl
      exact h
  · intro fare resumed
    refine ⟨fun hz => resume_exec hr hf hx (u := resumedWith s x) (surchargeTest_none hz), fun i hz => ⟨fun ha => ?_, fun ha => ?_⟩⟩
    · exact resume_exec hr hf hx (u := resumedWith s x)
        ((surchargeTest_some (s := resumedWith s x) (x := { x with bucket := 0 }) rfl hz).trans (if_pos ha))
    · intro y raw
      have htest := (surchargeTest_some (s := resumedWith s x) (x := { x with bucket := 0 }) rfl hz).trans
        (if_neg (by rw [show Trip.hasApplied { x with bucket := 0 } i = false from ha]; exact Bool.false_ne_true))
      refine ⟨fun h => ?_, fun hraw hfl => ?_⟩
      · have h := resume_exec hr hf hx (htest.trans (setPriced_below h))
        exact h
      · have h := resume_exec hr hf hx (htest.trans (setPriced_limit hraw hfl))
        exact h

/-! ## SETTLE (R125, R130 to R136) -/

theorem settle_of {payment number : Nat} (hp : payment ≤ 2) (hf : s.ret.fare = .total) (hx : s.ret.trip = some x)
    (hn : nextTrip s.ret.tripCounter = number) :
    actSettle payment s = (s.settleTrip (x.record number payment), 0 :: put16 number) := by
  simp only [actSettle, if_neg (show ¬ 2 < payment by omega), hf, hx, hn]
  rfl

theorem addTrip_shift (t : ShiftTotals) (r : TripRecord) : t.addTrip r = { t with
    trips := min cap32 (t.trips + 1)
    fare := min cap32 (t.fare + r.total)
    extras := min cap32 (t.extras + r.extras)
    surcharges := min cap32 (t.surcharges + r.surcharges)
    cash := if r.payment = 0 then min cap32 (t.cash + r.total) else t.cash
    card := if r.payment = 1 then min cap32 (t.card + r.total) else t.card
    account := if r.payment = 2 then min cap32 (t.account + r.total) else t.account
    hiredDist := min cap32 (t.hiredDist + r.dist)
    hiredS := min cap32 (t.hiredS + r.hiredS) } := by
  simp only [ShiftTotals.addTrip, beq_iff_eq]
  rfl

/-- The trip settled: booked, with a TALLY for a home base, and the cab VACANT (R125, R136). -/
theorem settleTrip_frame {r : TripRecord} {b : TallyBody} {st : Station} (hst : s.cpt.config = some st)
    (hb : (s.bookTrip r).tallyBody = b) :
    AvailFrame ({ s with
        fre := { s.fre with idleSince := s.idleFrom .vacant s.fre.driver }
        ttl := if 1 ≤ st.home ∧ st.home ≤ 31 then { s.ttl with tally := some ⟨b, none, .offered⟩ } else s.ttl
      }.withRet { (s.bookTrip r).ret with fare := .vacant, trip := none }) (s.settleTrip r) := by
  have htally := tallyIfHome_frame (AvailFrame.refl (s.bookTrip r)) hb
  have hhome : (s.bookTrip r).homeBase = st.home := homeBase_of hst
  rw [hhome] at htally
  have hstored := htally.withStore (r := { (s.bookTrip r).ret with trip := none })
    (f := s.fre) (f' := (s.bookTrip r).tallyIfHome.fre) (r' := { (s.bookTrip r).tallyIfHome.ret with trip := none })
    (congrArg (fun q : Retained => { q with trip := none }) htally.ret) htally.fre
  have hall := AvailFrame.setFare hstored .vacant
  by_cases hh : 1 ≤ st.home ∧ st.home ≤ 31
  · simp only [if_pos hh] at hall ⊢
    exact hall
  · simp only [if_neg hh] at hall ⊢
    exact hall

/-- Settles O31: the record is booked, and the fare state follows. -/
theorem settleBooksTheTrip : Obligations.SettleBooksTheTrip := by
  intro s payment x st hr hst hf hx hp meter total number paid shift life rec_ tally
  have hact := settle_of (number := number) hp hf hx rfl
  have hrec : x.record number payment.toNat = rec_ := rfl
  rw [hrec] at hact
  have hshift : s.ret.shift.addTrip rec_ = shift := addTrip_shift _ _
  have hbook : s.bookTrip rec_ = s.setRet { s.ret with
      tripCounter := number, tripLog := (rec_ :: s.ret.tripLog).take 16, shift := shift, life := life } := by
    rw [State.bookTrip, hshift]
    rfl
  have hb : (s.bookTrip rec_).tallyBody = tally := by
    rw [hbook, State.tallyBody, homeBase_of (s := s.setRet _) hst]
    rfl
  have hframe := settleTrip_frame hst hb
  rw [hbook] at hframe
  exact ⟨_, operating_exec rfl rfl (blind_settle _) hr hact, hframe.answering _ _ _, recompute_avail_held _⟩

/-! ## Seconds and pulses (R115, R116, R119 to R121, R134) -/

theorem exec_secondTick {tick : Nat} (h : s.fre.secondAt = some tick) (hle : tick ≤ s.now) :
    exec .secondTick s = .next s.secondTick := by
  show Host.Outcome.next (if due s.fre.secondAt s.now then s.secondTick else s) = _
  rw [h, due_some hle, if_pos rfl]

/-- The state with the next second started, before the trip is charged. -/
def nextSecond (s : State) (tick : Nat) : State := { s with fre := { s.fre with secondAt := some (tick + 1000 * ms) } }

theorem secondTick_idle {tick : Nat} (h : s.fre.secondAt = some tick)
    (hn : (s.ret.fare ≠ .hired ∧ s.ret.fare ≠ .held) ∨ s.ret.trip = none) : s.secondTick = nextSecond s tick := by
  unfold State.secondTick
  dsimp only
  rw [h]
  split
  · next hf hx => rcases hn with ⟨hh, -⟩ | hn <;> simp_all
  · next hf hx => rcases hn with ⟨-, hh⟩ | hn <;> simp_all
  · rfl

theorem secondTick_hired {tick : Nat} (h : s.fre.secondAt = some tick) (hf : s.ret.fare = .hired) (hx : s.ret.trip = some x) :
    s.secondTick = (nextSecond s tick).setEarned x x.tickHired := by
  simp only [State.secondTick, h, State.setFre_ret, hf, hx]
  rfl

theorem secondTick_held {tick : Nat} (h : s.fre.secondAt = some tick) (hf : s.ret.fare = .held) (hx : s.ret.trip = some x) :
    s.secondTick = (nextSecond s tick).setTrip (x.addHeld 1) := by
  simp only [State.secondTick, h, State.setFre_ret, hf, hx]
  rfl

/-- A pulse counted into the totals, before the trip (R115, R134). -/
def counted (s : State) (k : Nat) : State :=
  (s.setRet { s.ret with
    totalDist := satAdd cap32 s.ret.totalDist (countPulse k s.ret.totalRem).1
    totalRem := (countPulse k s.ret.totalRem).2 }).metres (countPulse k s.ret.totalRem).1

theorem exec_pulse {k : Nat} (hp : s.powered = true) (hk : s.ret.k = some k) :
    exec .pulse s = .next ((counted s k).tripPulse k) := by
  show Host.Outcome.next (if s.powered then s.pulse else s) = _
  rw [hp, if_pos rfl]
  unfold State.pulse
  split
  · next hn => rw [hk] at hn; cases hn
  · next m hm =>
    rw [hk] at hm
    cases hm
    rfl

theorem tripPulse_idle {k : Nat} (hn : (s.ret.fare ≠ .hired ∧ s.ret.fare ≠ .held) ∨ s.ret.trip = none) :
    s.tripPulse k = s := by
  unfold State.tripPulse
  split
  · next hf hx => rcases hn with ⟨hh, -⟩ | hn <;> simp_all
  · next hf hx => rcases hn with ⟨-, hh⟩ | hn <;> simp_all
  · rfl

theorem tripPulse_hired {k : Nat} (hf : s.ret.fare = .hired) (hx : s.ret.trip = some x) :
    s.tripPulse k = s.setTrip (x.pulse k true) := by
  simp only [State.tripPulse, hf, hx]

theorem tripPulse_held {k : Nat} (hf : s.ret.fare = .held) (hx : s.ret.trip = some x) :
    s.tripPulse k = s.setTrip (x.pulse k false) := by
  simp only [State.tripPulse, hf, hx]

/-- Settles O33: by the fare state, at each tick and each pulse. -/
theorem secondsAndPulsesAreCharged : Obligations.SecondsAndPulsesAreCharged := by
  refine ⟨fun s => ⟨fun tick htick hle => ?_, fun hn => ?_⟩, fun s => ⟨fun hn => ?_, fun k hp hk => ?_⟩⟩
  · intro fre
    rw [exec_secondTick htick hle]
    refine ⟨fun hn => by rw [secondTick_idle htick hn]; rfl, fun x hx => ⟨fun hf => ?_, fun hf => ?_⟩⟩
    · intro credit units y raw
      rw [secondTick_hired htick hf hx]
      have hy : x.tickHired = y := rfl
      rw [hy]
      refine ⟨fun h => ?_, fun hu hraw hfl => ?_⟩
      · rw [setEarned_below (y := y) h]
        rfl
      · rw [setEarned_limit (y := y) hu hraw hfl]
        rfl
    · rw [secondTick_held htick hf hx]
      rfl
  · show Host.Outcome.next (if due s.fre.secondAt s.now then s.secondTick else s) = _
    have : due s.fre.secondAt s.now = false := by
      rcases hn with hn | ⟨tick, hn, hlt⟩
      · rw [hn]
        rfl
      · rw [hn]
        exact decide_eq_false (Nat.not_le.mpr hlt)
    rw [this, if_neg Bool.false_ne_true]
  · show Host.Outcome.next (if s.powered then s.pulse else s) = _
    rcases hn with hn | hn
    · rw [hn, if_neg Bool.false_ne_true]
    · simp only [State.pulse, hn, ite_self]
  · intro metres ret
    rw [exec_pulse hp hk, show counted s k = s.withRet ret from rfl]
    refine ⟨fun hn => ?_, fun x hx => ?_⟩
    · rw [tripPulse_idle (s := s.withRet ret) hn]
    · intro y
      refine ⟨fun hf => ?_, fun hf hb => ?_, fun hf hb => ?_⟩
      · rw [tripPulse_held (s := s.withRet ret) hf hx]
        rfl
      · have hpulse : x.pulse k true = { y with bucket := x.bucket + 1 } := by
          simp only [Trip.pulse, if_true, if_pos hb]
          rfl
        rw [tripPulse_hired (s := s.withRet ret) hf hx, hpulse]
        rfl
      · have hpulse : x.pulse k true = { y with flags := { x.flags with overspeed := true } } := by
          simp only [Trip.pulse, if_true, if_neg (Nat.not_lt.mpr hb)]
          rfl
        rw [tripPulse_hired (s := s.withRet ret) hf hx, hpulse]
        rfl

end

end Sys2Proof
end

section
/-! PROOFS. The own position (O16). -/

namespace Sys2Proof

open Sys2Proof.Machine

section
variable {s t : State} {x : Trip}

theorem recompute_avail_now (s : State) : s.recompute.fre.avail = some s.availNow := by
  have h := recompute_frame s
  rw [recompute_avail_held]
  unfold State.availNow
  rw [h.ret, h.ppu, h.fre]

/-! ## The fix notice (R53, R110, R118) -/

theorem fixNotice_plain {z : Bool} (h : z = false ∨ (s.ret.fare ≠ .hired ∧ s.ret.fare ≠ .held)) : s.fixNotice z = s.recompute := by
  have hret : s.recompute.ret.fare = s.ret.fare := fare_of_frame (recompute_frame s)
  have : (z && (s.recompute.ret.fare == .hired || s.recompute.ret.fare == .held)) = false := by
    rw [hret]
    rcases h with h | ⟨h1, h2⟩
    · simp [h]
    · simp [h1, h2]
  rw [State.fixNotice, this, if_neg Bool.false_ne_true]

theorem fixNotice_moved (h : s.ret.fare = .hired ∨ s.ret.fare = .held) : s.fixNotice true = s.recompute.surchargeTest := by
  have hret : s.recompute.ret.fare = s.ret.fare := fare_of_frame (recompute_frame s)
  rw [State.fixNotice, hret, if_pos]
  rcases h with h | h <;> rw [h] <;> rfl

theorem zoneSurcharge_of_frame (h : AvailFrame s t) : t.zoneSurcharge = s.zoneSurcharge := by
  unfold State.zoneSurcharge
  rw [h.ppu]

/-! ## SET-POSITION (R50, R51) -/

/-- The fix record of a valid fix (R50). -/
def fixed (s : State) (p : Point) : State := { s with ppu := { s.ppu with
  position := some p, fix := true, fixTime := some s.now, stale := false, zone := zoneOf s.ppu.zones p } }

theorem validFix_quiet {p : Point} (hs : s.ppu.stale = false) (hz : zoneOf s.ppu.zones p = s.ppu.zone) :
    s.validFix p = fixed s p := by
  unfold State.validFix
  dsimp only
  rw [hs, hz, if_neg]
  · rw [fixed, hz]
    rfl
  · simp

theorem validFix_notice {p : Point} (h : s.ppu.stale = true ∨ zoneOf s.ppu.zones p ≠ s.ppu.zone) :
    s.validFix p = (fixed s p).fixNotice (zoneOf s.ppu.zones p != s.ppu.zone) := by
  unfold State.validFix
  dsimp only
  rw [if_pos]
  · rfl
  · rcases h with h | h <;> simp [h]

theorem position_of_frame {p : Point} (h : AvailFrame (fixed s p) t) :
    t.positionResult = [byte (min (zoneOf s.ppu.zones p) 255), 1] := by
  unfold State.positionResult
  rw [h.ppu]
  rfl

/-- The availability after a valid fix is that of a cab whose position is not stale. -/
theorem fixed_avail {p : Point} (h : QueueFrame (fixed s p).recompute t) : t.fre.avail
    = some (availability s.ret.alarm s.ret.fare false s.ret.shiftOpen s.fre.driver) := by
  rw [h.fre, recompute_avail_now]
  rfl

theorem actSetPosition_valid {p : Point} (h : AvailFrame (fixed s p) (s.validFix p)) :
    actSetPosition p 1 s = (s.validFix p, [0, byte (min (zoneOf s.ppu.zones p) 255), 1]) :=
  congrArg (fun l => (s.validFix p, 0 :: l)) (position_of_frame h)

theorem setPosition_valid {east north : BitVec 16} (hr : s.ready .run)
    (h : AvailFrame (fixed s ⟨east.toNat, north.toNat⟩) (s.validFix ⟨east.toNat, north.toNat⟩)) :
    exec (.setPosition east north 1) s = .next ((s.validFix ⟨east.toNat, north.toNat⟩).answering s true
      [0, byte (min (zoneOf s.ppu.zones ⟨east.toNat, north.toNat⟩) 255), 1]) :=
  operating_exec rfl rfl (blind_setPosition _ _) hr (actSetPosition_valid h)

/-! ## The surcharge of a zone entered during a trip (R118, R121) -/

theorem surchargeTest_same (h : s.zoneSurcharge = none ∨ ∃ i, s.zoneSurcharge = some i ∧ x.hasApplied i = true)
    (hx : s.ret.trip = some x) : s.surchargeTest = s := by
  rcases h with h | ⟨i, h, ha⟩
  · exact surchargeTest_none h
  · rw [surchargeTest_some hx h, ha, if_pos rfl]

theorem trip_of_frame (h : AvailFrame s t) (hx : s.ret.trip = some x) : t.ret.trip = some x := by
  rw [h.ret]
  exact hx

/-- A trip written on top of a recomputed state. -/
theorem setTrip_frame (h : AvailFrame s t) (y : Trip) :
    AvailFrame (s.withRet { s.ret with trip := some y }) (t.setTrip y) :=
  h.withStore (f := s.fre) (f' := t.fre) (by rw [h.ret]) h.fre

theorem withRet_self (hx : s.ret.trip = some x) (hc : s.check = storeCheck s.ret) :
    s.withRet { s.ret with trip := some x } = s := by
  unfold State.withRet
  rw [← hx, ← hc]

theorem zones_none {l : List (Option Zone)} (h : l.length = 64) : slotGet l 255 = none := by
  cases hz : slotGet l 255 with
  | none => rfl
  | some z => exact absurd (slotGet_lt hz) (by omega)

/-! ## A stale position (R52) -/

/-- The record of a position turned stale. -/
def staled (s : State) : State := { s with ppu := { s.ppu with fix := false, zone := 255, stale := true } }

/-- In no zone there is no surcharge. -/
theorem turnStale_eq (h : s.ppu.zones.length = 64) : s.turnStale = (staled s).recompute := by
  have hnone : (staled s).recompute.surchargeTest = (staled s).recompute := by
    refine surchargeTest_none ((zoneSurcharge_of_frame (recompute_frame (staled s))).trans ?_)
    rw [State.zoneSurcharge, show slotGet (staled s).ppu.zones (staled s).ppu.zone = none from zones_none h]
  show (staled s).fixNotice (s.ppu.zone != 255) = _
  unfold State.fixNotice
  dsimp only
  rw [hnone]
  exact ite_self _

/-- The availability and the frame of a trip moved into another zone, from what the surcharge test made of the recomputed state. -/
theorem setPosition_moved {east north : BitVec 16} {v : State} {r : Retained} (hr : s.ready .run)
    (hz : zoneOf s.ppu.zones ⟨east.toNat, north.toNat⟩ ≠ s.ppu.zone) (hf : s.ret.fare = .hired ∨ s.ret.fare = .held)
    (ht : (fixed s ⟨east.toNat, north.toNat⟩).recompute.surchargeTest = t) (hv : AvailFrame (v.withRet r) t)
    (hppu : t.ppu = (fixed s ⟨east.toNat, north.toNat⟩).recompute.ppu)
    (hfre : t.fre = (fixed s ⟨east.toNat, north.toNat⟩).recompute.fre) :
    ∃ t, exec (.setPosition east north 1) s = .next t
      ∧ AvailFrame ((v.withRet r).answering s true [0, byte (min (zoneOf s.ppu.zones ⟨east.toNat, north.toNat⟩) 255), 1]) t
      ∧ t.fre.avail = some (availability s.ret.alarm s.ret.fare false s.ret.shiftOpen s.fre.driver) := by
  have hvalid : s.validFix ⟨east.toNat, north.toNat⟩ = t := by
    rw [validFix_notice (.inr hz), show (zoneOf s.ppu.zones ⟨east.toNat, north.toNat⟩ != s.ppu.zone) = true by simpa using hz,
      fixNotice_moved (s := fixed s _) hf, ht]
  refine ⟨_, operating_exec rfl rfl (blind_setPosition _ _) hr (?_ : _ = (t, _)), hv.answering _ _ _, ?_⟩
  · have hpos : t.positionResult = _ :=
      (congrArg (fun p : Ppu => put8 p.zone ++ put8 p.fix.toNat) hppu).trans (position_of_frame (recompute_frame (fixed s _)))
    rw [← hpos, ← hvalid]
    rfl
  · show t.fre.avail = _
    rw [hfre, recompute_avail_now]
    rfl

end

/-- Settles O16: the fix notice is a recomputation and, for a running trip in a new zone, the surcharge test on top of it. -/
theorem positionIsSetAndTurnsStale : Obligations.PositionIsSetAndTurnsStale := by
  refine ⟨fun s east north fix hr => ?_, fun s t hfix hstale => ⟨fun hle hlen => ?_, fun hlt => ?_⟩⟩
  · intro p z u
    have hrec : AvailFrame u (fixed s p).recompute := recompute_frame (fixed s p)
    refine ⟨fun h1 hs hz => ?_, fun h1 hq hn => ?_, fun h1 hz hf x hx => ?_, fun h0 => ?_, fun h0 h1 => ?_⟩
    · subst h1
      have hq := validFix_quiet (p := p) hs hz
      rw [setPosition_valid hr (by rw [hq]; exact AvailFrame.refl _), hq]
      rfl
    · subst h1
      have hq : s.validFix p = (fixed s p).recompute := by
        rw [validFix_notice (hn.imp id id), fixNotice_plain]
        exact hq.imp (fun h => by simpa using h) id
      have hx := setPosition_valid hr (hq ▸ hrec)
      exact ⟨_, hx, hq ▸ hrec.answering _ _ _, by
        show (s.validFix p).fre.avail = _
        rw [hq, recompute_avail_now]
        rfl⟩
    · subst h1
      intro moved index y raw
      have htrip : (fixed s p).recompute.ret.trip = some x := trip_of_frame hrec hx
      have hsur : (fixed s p).recompute.zoneSurcharge = if index = 0 then none else some index :=
        (zoneSurcharge_of_frame hrec).trans (zoneSurcharge_index (fixed s p) rfl)
      have hamount : (fixed s p).recompute.surchargeAmount index = s.ret.surcharges.getD (index - 1) 0 := by
        unfold State.surchargeAmount
        rw [hrec.ret]
      refine ⟨fun hc hi => ?_, fun hi ha => ⟨fun hl => ?_, fun hl hlf => ?_⟩⟩
      · have hsame : (fixed s p).recompute.surchargeTest = (fixed s p).recompute := by
          refine surchargeTest_same ?_ htrip
          rw [hsur]
          by_cases h0 : index = 0
          · exact .inl (if_pos h0)
          · exact .inr ⟨index, if_neg h0, hi.resolve_left h0⟩
        refine setPosition_moved (v := u) hr hz hf hsame ?_ rfl rfl
        rw [withRet_self (s := u) hx hc]
        exact hrec
      · refine setPosition_moved (v := u) hr hz hf (?_ : _ = (fixed s p).recompute.setTrip y) (setTrip_frame hrec y) rfl rfl
        rw [surchargeTest_some htrip (hsur.trans (if_neg hi)), if_neg (by rw [Trip.hasApplied, ha]; exact Bool.false_ne_true),
          hamount]
        exact setPriced_below hl
      · refine setPosition_moved (v := u.raiseEvent .fareLimit 0 0) hr hz hf
          (?_ : _ = ((fixed s p).recompute.setTrip { y with flags := { y.flags with fareLimit := true } }).raiseEvent .fareLimit 0 0)
          ((setTrip_frame hrec _).raiseEvent .fareLimit 0 0) rfl rfl
        rw [surchargeTest_some htrip (hsur.trans (if_neg hi)), if_neg (by rw [Trip.hasApplied, ha]; exact Bool.false_ne_true),
          hamount]
        exact setPriced_limit hl hlf
    · subst h0
      exact operating_exec rfl rfl (blind_setPosition _ _) hr rfl
    · refine operating_exec rfl rfl (blind_setPosition _ _) hr ?_
      have n0 : (fix.toNat == 0) = false := beq_eq_false_iff_ne.mpr fun h => h0 (BitVec.eq_of_toNat_eq h)
      have n1 : (fix.toNat == 1) = false := beq_eq_false_iff_ne.mpr fun h => h1 (BitVec.eq_of_toNat_eq h)
      rw [actSetPosition, n0, n1]
      rfl
  · have hexp : s.fixExpired = true := by
      rw [State.fixExpired, hstale, hfix]
      exact due_some hle
    have hturn := turnStale_eq hlen
    have hx : exec .fixStale s = .next s.turnStale := by
      show execFixStale s = _
      rw [execFixStale, hexp, if_pos rfl]
    refine ⟨_, hx, ?_, ?_, fun ha hf hfre hofb slot e he hs => ?_⟩
    · rw [hturn]
      exact recompute_frame _
    · rw [hturn, recompute_avail_now]
      rfl
    · rw [hturn]
      refine recompute_watch (s := staled s) (a := .noFix) ?_ nofun hfre hofb he hs
      show availability s.ret.alarm s.ret.fare true s.ret.shiftOpen s.fre.driver = .noFix
      rw [ha, hf]
      rfl
  · have hexp : s.fixExpired = false := by
      rw [State.fixExpired, hfix]
      have : due (some (t + fixLife)) s.now = false := decide_eq_false (Nat.not_le.mpr hlt)
      rw [Option.map_some, this, Bool.and_false]
    show execFixStale s = _
    rw [execFixStale, hexp, if_neg Bool.false_ne_true]

end Sys2Proof
end

section
/-! PROOFS. Driver notes: read, deleted, cleared and answered (O36), posted and retried (O34), heard and stored (O35). -/

namespace Sys2Proof

open Sys2Proof.Machine

section
variable {s : State} {slot : Nat}

/-! ## MARK-READ, DELETE-NOTE and CLEAR-OUTBOX (R150, R151, R160) -/

theorem markRead_record {r : InNote} (hlt : slot < 12) (h : slotGet s.nts.inbox slot = some r) : actMarkRead slot s
    = if r.state = .unread then done (s.markNote slot r) [] else if r.state = .read then done s [] else refuse .state s := by
  unfold actMarkRead
  rw [if_neg (by omega), h]
  cases hs : r.state <;> simp only [hs] <;> rfl

theorem markNote_silent {r : InNote} (h : r.toAll = true ∨ r.wanted = false) :
    s.markNote slot r = s.putIn slot { r with state := .read } := by
  rw [State.markNote, if_neg]
  rcases h with h | h <;> simp [h]

theorem markNote_receipt {r : InNote} (h1 : r.toAll = false) (h2 : r.wanted = true) :
    s.markNote slot r = (s.putIn slot { r with state := .read }).offer (.receipt .read r.origin r.id) := by
  rw [State.markNote, if_pos (by rw [h1, h2]; rfl)]
  rfl

theorem deleteNote_record {r : InNote} (hlt : slot < 12) (h : slotGet s.nts.inbox slot = some r) : actDeleteNote slot s
    = if r.state = .deleted then done s []
      else done (s.putIn slot { r with state := .deleted, delReason := some .host }) [] := by
  unfold actDeleteNote
  rw [if_neg (by omega), h]
  cases hs : r.state <;> simp only [hs] <;> rfl

theorem slotEntries_length_le {α : Type} (l : List (Option α)) : (slotEntries l).length ≤ l.length :=
  List.length_filterMap_le _ _

/-! ## A RECEIPT heard (R159) -/

/-- The state and the event a receipt of each kind brings. -/
def receiptOutcome : ReceiptKind → OutState × EventKind
  | .stored => (.delivered, .noteDelivered)
  | .read => (.read, .noteRead)
  | .refusedFull => (.refused, .noteRefused)

theorem receiptOutcome_event (k : ReceiptKind) : (receiptOutcome k).1.event = (receiptOutcome k).2 := by
  cases k <;> rfl

theorem onReceipt_live {st : OutState} (h : st.live = true) (k : ReceiptKind) : st.onReceipt k = some (receiptOutcome k).1 := by
  cases st with
  | pending | queued | await => cases k <;> rfl
  | sent | delivered | read | refused | failed => cases h

theorem onReceipt_late {st : OutState} {k : ReceiptKind}
    (h : (st = .delivered ∧ k = .read) ∨ (st = .refused ∧ k ≠ .refusedFull) ∨ st = .failed) :
    st.live = false ∧ st.onReceipt k = some (receiptOutcome k).1 := by
  rcases h with ⟨rfl, rfl⟩ | ⟨rfl, hk⟩ | rfl
  · exact ⟨rfl, rfl⟩
  · cases k with
    | stored | read => exact ⟨rfl, rfl⟩
    | refusedFull => exact absurd rfl hk
  · cases k <;> exact ⟨rfl, rfl⟩

theorem onReceipt_none {st : OutState} {k : ReceiptKind}
    (h : (st = .delivered ∧ k ≠ .read) ∨ (st = .refused ∧ k = .refusedFull) ∨ st = .read ∨ st = .sent) :
    st.onReceipt k = none := by
  rcases h with ⟨rfl, hk⟩ | ⟨rfl, rfl⟩ | rfl | rfl
  · cases k with
    | stored | refusedFull => rfl
    | read => exact absurd rfl hk
  · rfl
  · cases k <;> rfl
  · cases k <;> rfl

theorem receiptHeard_of {origin id : Nat} {r : OutNote} {k : ReceiptKind}
    (h : slotFind (fun r : OutNote => r.id == id && r.dest == origin) s.nts.outbox 0 = some (slot, r)) :
    (r.state.onReceipt k = none → s.receiptHeard origin s.ownId id k = s)
    ∧ ∀ st, r.state.onReceipt k = some st → s.receiptHeard origin s.ownId id k
      = (if r.state.live then (s.putOut slot (r.answered st s.now)).removeOwn (.note slot)
          else s.putOut slot (r.answered st s.now)).raiseEvent st.event slot 0 := by
  unfold State.receiptHeard
  rw [if_pos (beq_self_eq_true _), h]
  dsimp only
  exact ⟨fun hn => by rw [hn], fun st hst => by rw [hst]⟩

/-- A record whose note is answered stands in no live state, so no mark brings the NOTE back. -/
theorem markless_answered {r : OutNote} (h : slotGet s.nts.outbox slot = some r) {r' : OutNote} (hl : r'.state.live = false) :
    markless (s.putOut slot r') (.note slot) := by
  intro n hn
  have hput : slotGet (slotPut s.nts.outbox slot r') slot = some r' := slotGet_slotPut_self _ _ _ (slotGet_lt h)
  rw [show slotGet (s.putOut slot r').nts.outbox slot = some r' from hput] at hn
  rw [← Option.some.inj hn]
  exact hl

end

/-- Settles O36: a RECEIPT is judged by the state of the record it reaches. -/
theorem notesAreReadDeletedClearedAndAnswered : Obligations.NotesAreReadDeletedClearedAndAnswered := by
  refine ⟨fun s hr => ⟨fun slot r hlt h => ?_, fun hlen => ?_⟩, fun s f t id slot r kind hf h => ?_⟩
  · intro put
    have hread := markRead_record hlt h
    have hdel := deleteNote_record hlt h
    refine ⟨fun hs hq => operating_exec rfl rfl (blind_markRead _) hr ?_, fun hs h1 h2 => ?_,
      fun hs => operating_exec rfl rfl (blind_markRead _) hr ?_, fun hs => operating_exec rfl rfl (blind_markRead _) hr ?_,
      fun hs => operating_exec rfl rfl (blind_deleteNote _) hr ?_, fun hs => operating_exec rfl rfl (blind_deleteNote _) hr ?_⟩
    · rw [hread, if_pos hs, markNote_silent hq]
      rfl
    · refine ⟨_, operating_exec rfl rfl (blind_markRead _) hr (hread.trans (if_pos hs)), ?_, fun hroom => ?_⟩
      · rw [markNote_receipt h1 h2]
        exact (offer_frame _ _).answering _ _ _
      · rw [markNote_receipt h1 h2]
        exact offer_room (s := s.putIn slot.toNat { r with state := .read }) hroom rfl rfl
    · rw [hread, hs]
      rfl
    · rw [hread, hs]
      rfl
    · rw [hdel, if_neg hs]
      rfl
    · rw [hdel, if_pos hs]
      rfl
  · intro freed
    have hfreed : freed ≤ 4 := by
      have h1 := List.length_filter_le (fun r : OutNote => !r.state.live) (slotEntries s.nts.outbox)
      have h2 := slotEntries_length_le s.nts.outbox
      omega
    refine operating_exec rfl rfl (blind_clearOutbox) hr ?_
    show (_, 0 :: [byte (min freed 0xFF)]) = _
    rw [Nat.min_eq_left (by omega)]
    rfl
  · intro put outcome
    have hout : outcome = receiptOutcome := by
      funext k
      cases k <;> rfl
    have hdel : s.deliver f t = s.receiptHeard f.origin s.ownId id kind := by
      unfold State.deliver
      rw [hf]
    obtain ⟨hnone, hsome⟩ := receiptHeard_of (k := kind) h
    have hslot := (slotFind_zero _ _ _ _ h).1
    rw [hdel, hout]
    refine ⟨fun hl => ?_, fun hlate => ?_, fun hn => hnone (onReceipt_none hn)⟩
    · have hans : r.answered (receiptOutcome kind).1 s.now = { r with
          state := (receiptOutcome kind).1, mark := none, retryAt := none, termTime := some s.now } := by
        rw [OutNote.answered, if_pos hl]
      rw [hsome _ (onReceipt_live hl kind), if_pos hl, hans, receiptOutcome_event]
      refine ⟨(removeOwn_frame _ _).raiseEvent _ _ _, (absent_removed (markless_answered hslot ?_)).2⟩
      cases kind <;> rfl
    · obtain ⟨hl, hst⟩ := onReceipt_late hlate
      have hans : r.answered (receiptOutcome kind).1 s.now = { r with state := (receiptOutcome kind).1 } := by
        rw [OutNote.answered, hl]
        rfl
      rw [hsome _ hst, if_neg (by rw [hl]; exact Bool.false_ne_true), hans, receiptOutcome_event]
      rfl

end Sys2Proof
end

section
/-! PROOFS. Driver notes posted and retried (O34). -/

namespace Sys2Proof

open Sys2Proof.Machine

/-! ## The bytes of a POST-NOTE (R156) -/

theorem word_value (w : BitVec 16) : (w.extractLsb' 8 8).toNat * 256 + (w.extractLsb' 0 8).toNat = w.toNat := at16_word w

theorem byte_of_lt {n : Nat} (h : n < 256) : (byte n).toNat = n := by
  simp only [byte, BitVec.toNat_ofNat]
  omega

section
variable {dest base job : BitVec 16} {flags : Byte} {text pad : List Byte}

/-- A POST-NOTE as the host sends it (R156, section 11.5). -/
def postBytes (dest base job : BitVec 16) (flags : Byte) (text pad : List Byte) : List Byte :=
  wordBytes dest ++ [flags] ++ wordBytes base ++ wordBytes job ++ [byte text.length] ++ text ++ pad

theorem postBytes_length : (postBytes dest base job flags text pad).length = 8 + text.length + pad.length := by
  simp only [postBytes, List.length_append, wordBytes_length, List.length_singleton]

theorem postBytes_eq : postBytes dest base job flags text pad
    = dest.extractLsb' 8 8 :: dest.extractLsb' 0 8 :: flags :: base.extractLsb' 8 8 :: base.extractLsb' 0 8
      :: job.extractLsb' 8 8 :: job.extractLsb' 0 8 :: byte text.length :: (text ++ pad) := by
  simp only [postBytes, wordBytes, List.cons_append, List.nil_append]

theorem postedOf_bytes (h : text.length ≤ 40) : postedOf (postBytes dest base job flags text pad)
    = ⟨dest.toNat, flags.toNat, base.toNat, job.toNat, text.length, text⟩ := by
  have hn : (byte text.length).toNat = text.length := byte_of_lt (by omega)
  rw [postBytes_eq]
  show Posted.mk ((dest.extractLsb' 8 8).toNat * 256 + (dest.extractLsb' 0 8).toNat) flags.toNat
    ((base.extractLsb' 8 8).toNat * 256 + (base.extractLsb' 0 8).toNat)
    ((job.extractLsb' 8 8).toNat * 256 + (job.extractLsb' 0 8).toNat) (byte text.length).toNat
    ((text ++ pad).take (byte text.length).toNat) = _
  rw [word_value, word_value, word_value, hn, List.take_left]

theorem postOk_bytes {s : State} (h1 : 1 ≤ text.length) (h40 : text.length ≤ 40) (hp : pad.length = text.length % 2)
    (ht : ∀ c ∈ text, 0x20 ≤ c.toNat ∧ c.toNat ≤ 0x7E) (hd1 : 1 ≤ dest.toNat) (hd : dest.toNat ≤ 4095)
    (hown : dest.toNat ≠ s.ownId) (hf : flags.toNat < 8)
    (hb : flags.getLsbD 2 = true → 1 ≤ base.toNat ∧ base.toNat ≤ 31) :
    s.postOk ⟨dest.toNat, flags.toNat, base.toNat, job.toNat, text.length, text⟩
      (postBytes dest base job flags text pad).length = true := by
  have hlen : (postBytes dest base job flags text pad).length = 8 + 2 * textWords text.length := by
    rw [postBytes_length, hp, textWords]
    omega
  have href : (!flags.toNat.testBit 2 || isBase base.toNat) = true := by
    cases h2 : flags.toNat.testBit 2 with
    | false => rfl
    | true => simpa [isBase] using hb h2
  have htext : text.all printable = true := List.all_eq_true.mpr fun c hc => by simpa [printable] using ht c hc
  simp only [State.postOk, Posted.hasRef, hlen, href, htext, beq_self_eq_true, decide_eq_true h1, decide_eq_true h40,
    decide_eq_true hd1, decide_eq_true hd, decide_eq_true hf, bne_iff_ne.mpr hown, Bool.and_true]

end

/-! ## POST-NOTE and the retry time (R155, R156, R158) -/

section
variable {s : State} {slot : Nat}

theorem outboxSlot_full (h : lowestFree s.nts.outbox = none) (hn : noSlot s.nts.outbox fun r => r.state.live = false) :
    s.outboxSlot = none := by
  rw [State.outboxSlot, h, pickLeast_noSlot s s.nts.outbox (fun r => !r.state.live) (·.termTime.getD 0)
    (by simpa only [Bool.not_eq_true'] using hn)]
  rfl

theorem outboxSlot_of (h : lowestFree s.nts.outbox = some slot ∨ (lowestFree s.nts.outbox = none
    ∧ firstSlot s.nts.outbox (fun r => r.state.live = false) (·.termTime.getD 0) slot)) :
    s.outboxSlot = some slot ∧ slot < s.nts.outbox.length := by
  rcases h with h | ⟨h, hf⟩
  · exact ⟨by rw [State.outboxSlot, h]; rfl, (lowestFree_spec _ _ h).1⟩
  · obtain ⟨x, hx, -⟩ := id hf
    refine ⟨?_, slotGet_lt hx⟩
    rw [State.outboxSlot, h, pickLeast_firstSlot s s.nts.outbox (fun r => !r.state.live) (·.termTime.getD 0) slot
      (by simpa only [Bool.not_eq_true'] using hf)]
    rfl

theorem noteBody_put {r : OutNote} (h : slot < s.nts.outbox.length) : (s.putOut slot r).ownBody (.note slot) = some r.body :=
  congrArg (Option.map fun n : OutNote => n.body) (slotGet_slotPut_self s.nts.outbox slot r h)

theorem postNote_full {b : List Byte} (hok : s.postOk (postedOf b) b.length = true) (h : s.outboxSlot = none) :
    actPostNote b s = refuse .full s := by
  simp only [actPostNote, hok, h, Bool.not_true, if_neg Bool.false_ne_true]

theorem postNote_placed {b : List Byte} (hok : s.postOk (postedOf b) b.length = true) (h : s.outboxSlot = some slot) :
    actPostNote b s = (s.postNote slot (postedOf b), [0, byte (min slot 255), byte (min s.ret.noteId 255)]) := by
  simp only [actPostNote, hok, h, Bool.not_true, if_neg Bool.false_ne_true]
  rfl

/-- The note written, its id taken, and not yet offered. -/
def written (s : State) (slot : Nat) (p : Posted) : State :=
  (s.nextDraw.setRet { s.ret with noteId := next8 s.ret.noteId }).putOut slot (p.record s.ret.noteId)

theorem postNote_frame (p : Posted) : QueueFrame ({ s with nts := { s.nts with
    outbox := s.nts.outbox.set slot (some (p.record s.ret.noteId)) } }.withRet { s.ret with noteId := (s.ret.noteId + 1) % 256 })
    (s.postNote slot p) :=
  { offer_frame (written s slot p) (.note slot) with }

theorem exec_noteRetry {r : OutNote} {time : Nat} (h : slotGet s.nts.outbox slot = some r) (hs : r.state = .await)
    (ht : r.retryAt = some time) (hle : time ≤ s.now) : exec (.noteRetry slot) s = .next (s.retryNote slot r) := by
  show execNoteRetry slot s = _
  unfold execNoteRetry
  rw [h]
  dsimp only
  rw [hs, ht, due_some hle]
  rfl

end

/-- Settles O34: a NOTE has no group, so a queue with room takes it as it is. -/
theorem postedNotesAreSentUntilAnswered : Obligations.PostedNotesAreSentUntilAnswered := by
  refine ⟨fun s dest base job flags text pad hr h1 h40 hp ht hd1 hd hown hf hb => ?_, fun s slot time r h hs htime hle => ?_⟩
  · intro bytes key past
    have hposted : postedOf bytes = _ := postedOf_bytes (pad := pad) h40
    have hok : s.postOk (postedOf bytes) bytes.length = true := by
      rw [hposted]
      exact postOk_bytes h1 h40 hp ht hd1 hd hown hf hb
    refine ⟨fun hfull hno => operating_exec rfl rfl (blind_postNote _) hr (postNote_full hok (outboxSlot_full hfull hno)),
      fun slot hslot => ?_⟩
    obtain ⟨hs, hlt⟩ := outboxSlot_of hslot
    refine ⟨_, operating_exec rfl rfl (blind_postNote _) hr (postNote_placed hok hs), ?_, fun hroom => ?_⟩
    · rw [hposted]
      exact (postNote_frame (s := s) (slot := slot)
        ⟨dest.toNat, flags.toNat, base.toNat, job.toNat, text.length, text⟩).answering s true _
    · rw [hposted]
      exact offer_room (s := written s slot _) hroom (noteBody_put hlt) rfl
  · have hx := exec_noteRetry h hs htime hle
    refine ⟨fun h4 => ⟨_, hx, ?_, fun hroom => ?_⟩, fun h4 => ?_⟩
    · rw [State.retryNote, if_pos h4]
      exact offer_frame _ _
    · rw [State.retryNote, if_pos h4]
      exact offer_room (s := s.putOut slot _) hroom (noteBody_put (slotGet_lt h)) rfl
    · rw [hx, State.retryNote, if_neg (by omega)]
      rfl

end Sys2Proof
end

section
/-! PROOFS. Driver notes heard: stored once, or refused (O35). -/

namespace Sys2Proof

open Sys2Proof.Machine

section
variable {s : State} {slot : Nat}

/-! ## The slot of a new note (R147) -/

/-- A record that may be displaced: the property holds and no receipt mark keeps it. -/
def unheld (p : InNote → Prop) (r : InNote) : Prop := r.storedMark = none ∧ r.readMark = none ∧ p r

theorem unheld_iff {p : InNote → Prop} {q : InNote → Bool} (hq : ∀ r, q r = true ↔ p r) (r : InNote) :
    (q r && !r.held) = true ↔ unheld p r := by
  cases h1 : r.storedMark <;> cases h2 : r.readMark <;> simp [unheld, InNote.held, h1, h2, hq]

theorem oldestNote_of {p : InNote → Prop} {q : InNote → Bool} (hq : ∀ r, q r = true ↔ p r)
    (h : firstSlot s.nts.inbox (unheld p) (·.arrival) slot) : s.oldestNote q = some slot :=
  pickLeast_firstSlot s s.nts.inbox (fun r => q r && !r.held) (·.arrival) slot
    (by simpa only [unheld_iff hq] using h)

theorem oldestNote_none {p : InNote → Prop} {q : InNote → Bool} (hq : ∀ r, q r = true ↔ p r)
    (h : noSlot s.nts.inbox (unheld p)) : s.oldestNote q = none :=
  pickLeast_noSlot s s.nts.inbox (fun r => q r && !r.held) (·.arrival) (by simpa only [unheld_iff hq] using h)

theorem isDeleted_iff (r : InNote) : (r.state == .deleted) = true ↔ r.state = .deleted := beq_iff_eq
theorem isRead_iff (r : InNote) : (r.state == .read) = true ↔ r.state = .read := beq_iff_eq
theorem isPlain_iff (r : InNote) : (r.state == .read && !r.urgent) = true ↔ r.state = .read ∧ r.urgent = false := by simp

theorem inboxSlot_of (h : lowestFree s.nts.inbox = some slot ∨ (lowestFree s.nts.inbox = none
    ∧ (firstSlot s.nts.inbox (unheld fun r => r.state = .deleted) (·.arrival) slot
      ∨ (noSlot s.nts.inbox (unheld fun r => r.state = .deleted)
        ∧ (firstSlot s.nts.inbox (unheld fun r => r.state = .read ∧ r.urgent = false) (·.arrival) slot
          ∨ (noSlot s.nts.inbox (unheld fun r => r.state = .read ∧ r.urgent = false)
            ∧ firstSlot s.nts.inbox (unheld fun r => r.state = .read) (·.arrival) slot)))))) :
    s.inboxSlot = some slot := by
  unfold State.inboxSlot
  rcases h with h | ⟨h, hd | ⟨hd, hp | ⟨hp, hr⟩⟩⟩
  · rw [h]
    rfl
  · rw [h, oldestNote_of isDeleted_iff hd]
    rfl
  · rw [h, oldestNote_none isDeleted_iff hd, oldestNote_of isPlain_iff hp]
    rfl
  · rw [h, oldestNote_none isDeleted_iff hd, oldestNote_none isPlain_iff hp, oldestNote_of isRead_iff hr]
    rfl

theorem inboxSlot_none
    (h : ∀ x ∈ s.nts.inbox, ∃ r, x = some r ∧ (r.state = .unread ∨ r.storedMark ≠ none ∨ r.readMark ≠ none)) :
    s.inboxSlot = none := by
  have hfree : lowestFree s.nts.inbox = none := List.findIdx?_eq_none_iff.mpr fun x hx => by
    obtain ⟨r, rfl, -⟩ := h x hx
    rfl
  have hno {p : InNote → Prop} (hp : ∀ r, p r → r.state ≠ .unread) : noSlot s.nts.inbox (unheld p) := fun i r hr hu => by
    obtain ⟨hst, hrd, hpr⟩ := hu
    have hmem : some r ∈ s.nts.inbox := List.mem_of_getElem? (Option.join_eq_some_iff.mp hr)
    obtain ⟨x, hx, hc⟩ := h _ hmem
    obtain rfl := Option.some.inj hx
    rcases hc with hc | hc | hc
    · exact hp r hpr hc
    · exact hc hst
    · exact hc hrd
  unfold State.inboxSlot
  rw [hfree, oldestNote_none isDeleted_iff (hno fun r hr => by rw [hr]; nofun),
    oldestNote_none isPlain_iff (hno fun r hr => by rw [hr.1]; nofun),
    oldestNote_none isRead_iff (hno fun r hr => by rw [hr]; nofun)]
  rfl

/-! ## A NOTE delivered (R146, R148, R149) -/

theorem deliver_note {f : Frame} {n : NoteBody} {t : Nat} (h : f.body = .note n) : s.deliver f t = s.noteHeard n f.origin t := by
  unfold State.deliver
  rw [h]

theorem noteHeard_other {n : NoteBody} {origin t : Nat} (h1 : n.dest ≠ s.ownId) (h2 : n.dest ≠ 4095) :
    s.noteHeard n origin t = s := by
  rw [State.noteHeard, if_neg (by simp [h1, h2])]

theorem noteHeard_known {n : NoteBody} {origin t : Nat} {r : InNote} (hd : n.dest = s.ownId ∨ n.dest = 4095)
    (h : s.inNote origin n.id = some (slot, r)) : s.noteHeard n origin t
      = if n.dest == s.ownId && n.wanted && r.storedMark.isNone then s.offer (.receipt .stored origin n.id) else s := by
  unfold State.noteHeard
  rw [if_pos (by simpa using hd), h]
  rfl

theorem noteHeard_new {n : NoteBody} {origin t : Nat} (hd : n.dest = s.ownId ∨ n.dest = 4095)
    (h : s.inNote origin n.id = none) : s.noteHeard n origin t = s.storeNote n origin t := by
  unfold State.noteHeard
  rw [if_pos (by simpa using hd), h]

theorem storeNote_full {n : NoteBody} {origin t : Nat} (h : s.inboxSlot = none) : s.storeNote n origin t
    = if n.dest == s.ownId && n.wanted then s.offer (.receipt .refusedFull origin n.id) else s := by
  unfold State.storeNote
  rw [h]
  rfl

/-- The note written into its slot. -/
def stored (s : State) (slot origin t : Nat) (n : NoteBody) : State := s.nextDraw.putIn slot (n.toRecord origin s.ownId t)

theorem storeNote_placed {n : NoteBody} {origin t : Nat} (h : s.inboxSlot = some slot) : s.storeNote n origin t
    = (if n.dest == s.ownId && n.wanted then (stored s slot origin t n).offer (.receipt .stored origin n.id)
        else stored s slot origin t n).raiseEvent (if n.urgent then .noteUrgent else .noteArrived) slot 0 := by
  unfold State.storeNote
  rw [h]
  rfl

theorem toRecord_eq (n : NoteBody) (origin own t : Nat) : n.toRecord origin own t = {
    origin := origin, toAll := decide (n.dest ≠ own), id := n.id, urgent := n.urgent, wanted := n.wanted
    key := n.ref.filter fun k => decide (1 ≤ k.base ∧ k.base ≤ 31)
    arrival := t, text := n.text, state := .unread, delReason := none, storedMark := none, readMark := none } := by
  have h1 : (n.dest != own) = decide (n.dest ≠ own) := by
    rw [decide_not]
    rfl
  have h2 : n.jobKey = n.ref.filter fun k => decide (1 ≤ k.base ∧ k.base ≤ 31) := by
    simp only [NoteBody.jobKey, isBase, Bool.decide_and]
  rw [NoteBody.toRecord, h1, h2]

/-! ## The refusal list (R149) -/

theorem refused_accepted {r : OwnRef} {b : Body} (hroom : s.room) (hb : s.ownBody r = some b) (hg : r.group = none) :
    s.offer r = s.acceptOwn ⟨r, b, none, none⟩ := by
  obtain ⟨hr, hc, hw⟩ := hroom
  obtain ⟨o, n, u, heq⟩ := acceptOwn_eq s ⟨r, b, none, none⟩
  rw [offer_accepts hr hb (unmatched_of_no_group _ hg) hc]
  refine kick_of_waits ?_
  rw [heq]
  exact hw

theorem offer_refused {r : OwnRef} {b : Body} (hr : s.cpt.part = .run) (hb : s.ownBody r = some b) (hg : r.group = none)
    (hc : 8 ≤ s.cau.count) (hw : s.cau.waits) (hv : victim r.cls true s.cau.queue = none) :
    s.offer r = s.refuseOwn ⟨r, b, none, none⟩ := by
  obtain ⟨o, n, u, ha⟩ := refuseOwn_eq s ⟨r, b, none, none⟩
  rw [offer_places hr hb (unmatched_of_no_group _ hg), (victim_cases hc).2 hv]
  refine kick_of_waits ?_
  rw [ha]
  exact hw

theorem victim_none {cls : Nat} {own : Bool} {q : List QEntry} (hcls : 0 < cls) (h : ∀ x ∈ q, x.cls ≤ cls) :
    victim cls own q = none := by
  cases hv : victim cls own q with
  | none => rfl
  | some e =>
    rcases (victim_spec cls own q).1 e hv with ⟨hlt, -⟩ | ⟨h0, -⟩
    · exact absurd (h e (victim_mem hv)) (by omega)
    · omega

theorem keepRefusal_cases (s : State) (dest id : Nat) (m : Mark) :
    ((∃ p ∈ s.nts.refusals, p.dest = dest ∧ p.id = id) → s.keepRefusal dest id m = s)
    ∧ ((¬ ∃ p ∈ s.nts.refusals, p.dest = dest ∧ p.id = id) →
      (s.nts.refusals.length < 4 → s.keepRefusal dest id m
        = s.setNts { s.nts with refusals := s.nts.refusals ++ [⟨dest, id, m⟩] })
      ∧ (4 ≤ s.nts.refusals.length → s.keepRefusal dest id m
        = s.setNts { s.nts with refusalsLost := inc16 s.nts.refusalsLost })) := by
  have hany : (s.nts.refusals.any fun p => p.dest == dest && p.id == id) = true
      ↔ ∃ p ∈ s.nts.refusals, p.dest = dest ∧ p.id = id := by simp
  refine ⟨fun h => if_pos (hany.mpr h), fun h => ⟨fun hl => ?_, fun hl => ?_⟩⟩
  · rw [State.keepRefusal, if_neg (mt hany.mp h), if_pos hl]
  · rw [State.keepRefusal, if_neg (mt hany.mp h), if_neg (by omega)]

theorem answer_iff {n : NoteBody} : (n.dest == s.ownId && n.wanted) = true ↔ n.dest = s.ownId ∧ n.wanted = true := by simp

end

/-- Settles O35: the receipt is offered over the inbox as the note left it. -/
theorem notesHeardAreStoredOnceOrRefused : Obligations.NotesHeardAreStoredOnceOrRefused := by
  refine ⟨fun s f n t hf => ?_, fun s f n t hf hd hin hall => ?_⟩
  · intro answer
    refine ⟨fun h1 h2 => by rw [deliver_note hf, noteHeard_other h1 h2],
      fun hd => ⟨fun slot r hin => ⟨fun hq => ?_, fun ha hm => ?_⟩, fun slot hin => ?_⟩⟩
    · rw [deliver_note hf, noteHeard_known hd hin, if_neg]
      rintro hc
      rw [Bool.and_eq_true, answer_iff, Option.isNone_iff_eq_none] at hc
      exact hq.elim (· hc.1) (· hc.2)
    · rw [deliver_note hf, noteHeard_known hd hin, if_pos (by rw [answer_iff.mpr ha, hm]; rfl)]
      exact ⟨offer_frame _ _, fun hroom => offer_room hroom rfl rfl⟩
    · intro free deleted read plain hslot u
      have hplaced : s.deliver f t = _ := (deliver_note hf).trans ((noteHeard_new hd hin).trans (storeNote_placed (inboxSlot_of hslot)))
      have hu : (stored s slot f.origin t n).raiseEvent (if n.urgent then .noteUrgent else .noteArrived) slot 0 = u := by
        rw [stored, toRecord_eq]
        rfl
      rw [hplaced]
      refine ⟨fun ha => ?_, fun ha => ⟨?_, fun hroom => ?_⟩⟩
      · rw [if_neg (mt answer_iff.mp ha), hu]
      · rw [if_pos (answer_iff.mpr ha), ← hu]
        exact (offer_frame _ _).raiseEvent _ _ _
      · rw [if_pos (answer_iff.mpr ha)]
        exact offer_room (s := stored s slot f.origin t n) hroom rfl rfl
  · have hfull : s.deliver f t = _ := (deliver_note hf).trans ((noteHeard_new hd hin).trans (storeNote_full (inboxSlot_none hall)))
    refine ⟨fun hn => ?_, fun h1 h2 => ?_⟩
    · rw [hfull, if_neg]
      rintro hc
      obtain ⟨h1, h2⟩ := answer_iff.mp hc
      exact hn.elim (· h1) (fun h => by rw [h] at h2; cases h2)
    · rw [if_pos (answer_iff.mpr ⟨h1, h2⟩)] at hfull
      rw [hfull]
      refine ⟨offer_frame _ _, fun hroom => ⟨offer_room hroom rfl rfl, ?_⟩, fun hr hc hw hq => ?_⟩
      · rw [refused_accepted hroom rfl rfl]
        show { s.nts with refusals := s.nts.refusals.filter fun p => !(p.dest == f.origin && p.id == n.id) } = _
        simp only [Bool.decide_and]
        rfl
      · intro returned listed
        have hv : victim 3 true s.cau.queue = none := victim_none (by omega) hq
        rw [offer_refused (r := .receipt .refusedFull f.origin n.id) hr rfl rfl hc hw hv]
        obtain ⟨hl, hn⟩ := keepRefusal_cases s.countRefused f.origin n.id ⟨s.now, none⟩
        exact ⟨hl, fun hnl => (hn hnl).1, fun hnl => (hn hnl).2⟩

end Sys2Proof
end

section
/-! PROOFS. The alarms of other stations (O41), and the hidden switch (O39). -/

namespace Sys2Proof

open Sys2Proof.Machine

section
variable {s : State} {slot : Nat} {f : Frame} {t serial count : Nat} {fix duress : Bool} {pos : Point} {a : AlarmEntry}

/-! ## The slot of a new entry (R176) -/

theorem oldestAlarm_of {st : HeardState} {time : AlarmEntry → Nat}
    (h : firstSlot s.emu.table (fun a => a.state = st) time slot) : s.oldestAlarm st time = some slot :=
  pickLeast_firstSlot s s.emu.table (fun a => a.state == st) time slot (by simpa only [beq_iff_eq] using h)

theorem oldestAlarm_none {st : HeardState} {time : AlarmEntry → Nat}
    (h : noSlot s.emu.table fun a => a.state = st) : s.oldestAlarm st time = none :=
  pickLeast_noSlot s s.emu.table (fun a => a.state == st) time (by simpa only [beq_iff_eq] using h)

theorem alarmSlot_of (h : lowestFree s.emu.table = some slot ∨ (lowestFree s.emu.table = none
    ∧ (firstSlot s.emu.table (fun a => a.state = .ended) (·.endedTime.getD 0) slot
      ∨ (noSlot s.emu.table (fun a => a.state = .ended) ∧ (firstSlot s.emu.table (fun a => a.state = .silent) (·.lastHeard) slot
        ∨ (noSlot s.emu.table (fun a => a.state = .silent)
          ∧ firstSlot s.emu.table (fun a => a.state = .active) (·.lastHeard) slot)))))) : s.alarmSlot = some slot := by
  unfold State.alarmSlot
  rcases h with h | ⟨h, he | ⟨he, hs | ⟨hs, ha⟩⟩⟩
  · rw [h]
    rfl
  · rw [h, oldestAlarm_of he]
    rfl
  · rw [h, oldestAlarm_none he, oldestAlarm_of hs]
    rfl
  · rw [h, oldestAlarm_none he, oldestAlarm_none hs, oldestAlarm_of ha]
    rfl

/-! ## ALARM and ALARM-END delivered (R174, R175, R177) -/

theorem hop_eq (f : Frame) : f.hop = if f.sender = f.origin then 0 else 1 := by
  simp only [Frame.hop, beq_iff_eq]

theorem deliver_alarm (h : f.body = .alarm serial count fix duress pos) :
    s.deliver f t = s.alarmHeard f t serial count fix duress pos := by
  unfold State.deliver
  rw [h]

theorem deliver_alarmEnd (h : f.body = .alarmEnd serial pos) : s.deliver f t = s.alarmEndHeard f t serial pos := by
  unfold State.deliver
  rw [h]

theorem alarmHeard_new (h : s.alarmOf f.origin = none) (hs : s.alarmSlot = some slot) :
    s.alarmHeard f t serial count fix duress pos
      = (s.nextDraw.putAlarm slot (newAlarm f t serial count fix duress pos)).raiseEvent .alarmHeard f.origin 0 := by
  simp only [State.alarmHeard, h, hs]

theorem alarmHeard_restarted (h : s.alarmOf f.origin = some (slot, a)) (hn : a.serial ≠ serial) :
    s.alarmHeard f t serial count fix duress pos
      = (s.putAlarm slot (newAlarm f t serial count fix duress pos)).raiseEvent .alarmHeard f.origin 0 := by
  simp only [State.alarmHeard, h, bne_iff_ne.mpr hn, if_true]

theorem alarmHeard_ended (h : s.alarmOf f.origin = some (slot, a)) (hn : a.serial = serial) (hs : a.state = .ended) :
    s.alarmHeard f t serial count fix duress pos = s := by
  simp only [State.alarmHeard, h, bne_eq_false_iff_eq.mpr hn, if_neg Bool.false_ne_true, hs, beq_self_eq_true, if_true]

theorem alarmHeard_repeated (h : s.alarmOf f.origin = some (slot, a)) (hn : a.serial = serial) (hs : a.state ≠ .ended) :
    s.alarmHeard f t serial count fix duress pos
      = if duress = true ∧ a.duress = false then
          (s.putAlarm slot (a.repeated f t count fix duress pos)).raiseEvent .alarmHeard f.origin 0
        else s.putAlarm slot (a.repeated f t count fix duress pos) := by
  have hd : (duress && !a.duress) = true ↔ duress = true ∧ a.duress = false := by simp
  simp only [State.alarmHeard, h, bne_eq_false_iff_eq.mpr hn, if_neg Bool.false_ne_true, beq_eq_false_iff_ne.mpr hs, hd]

theorem alarmEndHeard_unknown (h : s.alarmOf f.origin = none) : s.alarmEndHeard f t serial pos = s := by
  simp only [State.alarmEndHeard, h]

theorem alarmEndHeard_known (h : s.alarmOf f.origin = some (slot, a)) : s.alarmEndHeard f t serial pos
    = if a.serial = serial ∧ a.state ≠ .ended then (s.putAlarm slot { a with
        state := .ended, endedTime := some t, lastHeard := t, hop := f.hop
        position := some ⟨pos, (a.position.map (·.valid)).getD false⟩ }).raiseEvent .alarmEnded f.origin 0 else s := by
  have hc : (a.serial == serial && a.state != .ended) = true ↔ a.serial = serial ∧ a.state ≠ .ended := by simp
  simp only [State.alarmEndHeard, h, hc]

theorem newAlarm_eq : newAlarm f t serial count fix duress pos = {
    origin := f.origin, serial := serial, firstHeard := t, lastHeard := t, endedTime := none
    position := some ⟨pos, fix⟩, duress := duress, hop := if f.sender = f.origin then 0 else 1, repeats := 1
    lastCount := count, state := .active } := by
  rw [newAlarm, hop_eq]

theorem repeated_eq : a.repeated f t count fix duress pos = { a with
    lastHeard := t, position := some ⟨pos, fix⟩, duress := a.duress || duress
    hop := if f.sender = f.origin then 0 else 1
    repeats := min 255 (a.repeats + 1), lastCount := count, state := .active } := by
  rw [AlarmEntry.repeated, hop_eq]
  rfl

end

/-- Settles O41: by the entry the table holds of the frame's origin. -/
theorem alarmTableFollowsTheFrames : Obligations.AlarmTableFollowsTheFrames := by
  intro s f t serial pos
  refine ⟨fun count fix duress hf => ?_, fun hf => ⟨fun hn => ?_, fun slot a h => ⟨fun hq => ?_, fun hserial hs => ?_⟩⟩⟩
  · refine ⟨fun slot hn hslot => ?_, fun slot a h => ⟨fun hserial => ?_, fun hserial hs => ?_, fun hserial hs => ?_⟩⟩
    · rw [deliver_alarm hf, alarmHeard_new hn (alarmSlot_of hslot), newAlarm_eq]
      rfl
    · rw [deliver_alarm hf, alarmHeard_restarted h hserial, newAlarm_eq]
      rfl
    · rw [deliver_alarm hf, alarmHeard_ended h hserial hs]
    · rw [deliver_alarm hf, alarmHeard_repeated h hserial hs, repeated_eq]
      rfl
  · rw [deliver_alarmEnd hf, alarmEndHeard_unknown hn]
  · rw [deliver_alarmEnd hf, alarmEndHeard_known h, if_neg]
    exact fun hc => hq.elim (· hc.1) hc.2
  · rw [deliver_alarmEnd hf, alarmEndHeard_known h, if_pos ⟨hserial, hs⟩, hop_eq]
    rfl

section
variable {s t : State} {low : Bool} {c : Instr}

/-! ## A change of the own alarm state (R127, R163) -/

theorem availNow_of_frame (h : AvailFrame s t) : t.availNow = s.availNow := by
  unfold State.availNow
  rw [h.ret, h.ppu, h.fre]

theorem withEmu_frame (h : AvailFrame s t) (x : Emu) : AvailFrame { s with emu := x } { t with emu := x } :=
  { h with emu := rfl }

/-- The flash as its request leaves it (R163). -/
def flashNext (s : State) : Option Flash :=
  if s.flashWanted then (if s.emu.flash.isSome then s.emu.flash else some ⟨true, s.now + 500 * ms⟩) else none

theorem flashUpdate_frame (h : AvailFrame s t) :
    AvailFrame { s with emu := { s.emu with flash := flashNext s } } t.flashUpdate := by
  have hw : t.flashWanted = s.flashWanted := by
    unfold State.flashWanted
    rw [h.ret, h.cpt]
  rw [flashUpdate_eq]
  refine { h with emu := ?_ }
  dsimp only
  rw [hw, h.emu, h.now]
  rfl

theorem alarmChanged_frame (h : s.alarmFare = t) :
    AvailFrame { t with emu := { t.emu with flash := flashNext t } } s.alarmChanged := by
  subst h
  exact flashUpdate_frame (recompute_frame _)

theorem alarmChanged_avail (h : s.alarmFare = t) : s.alarmChanged.fre.avail = some t.availNow := by
  subst h
  unfold State.alarmChanged
  rw [flashUpdate_eq]
  exact recompute_avail_now _

theorem flashNext_none (h : s.flashWanted = false) : flashNext s = none := by
  rw [flashNext, h, if_neg Bool.false_ne_true]

theorem availNow_alarm (h : s.ret.alarm ≠ .quiet) : s.availNow = .alarm := by
  unfold State.availNow availability
  rw [if_pos (by simpa using h)]

/-! ## The hidden switch (R164, R165) -/

theorem exec_panic (hc : c = .panicLevelChange low ∨ (c = .panicPress ∧ low = true) ∨ (c = .panicRelease ∧ low = false))
    (hp : s.pins.panicLow = low) : exec c s = .next (if s.filterDue then s.panicLevel low else s) := by
  subst hp
  rcases hc with rfl | ⟨rfl, h⟩ | ⟨rfl, h⟩
  · show execPanicLevelChange s.pins.panicLow s = _
    rw [execPanicLevelChange, bne_self_eq_false, if_neg Bool.false_ne_true]
  · show execPanicPress s = _
    rw [execPanicPress, h, Bool.and_true]
  · show execPanicRelease s = _
    rw [execPanicRelease, h, Bool.not_false, Bool.and_true]

theorem exec_panic_apart (hc : (c = .panicPress ∧ low = true) ∨ (c = .panicRelease ∧ low = false))
    (hp : s.pins.panicLow ≠ low) : exec c s = .next s := by
  rcases hc with ⟨rfl, rfl⟩ | ⟨rfl, rfl⟩
  · show execPanicPress s = _
    rw [execPanicPress, Bool.eq_false_iff.mpr hp, Bool.and_false, if_neg Bool.false_ne_true]
  · show execPanicRelease s = _
    rw [execPanicRelease, Bool.not_eq_false _ |>.mp hp, Bool.not_true, Bool.and_false, if_neg Bool.false_ne_true]

theorem filterDue_iff : s.filterDue = true ↔ s.powered = true ∧ ∃ time, s.emu.filterAt = some time ∧ time ≤ s.now := by
  unfold State.filterDue due
  cases s.emu.filterAt <;> simp

theorem panicLevel_arms (hw : s.emu.panicLow = false) (ha : s.ret.alarm = .quiet) : s.panicLevel true
    = ((s.setEmu { s.emu with panicLow := true, filterAt := none, holdAt := some (s.now + panicHold) }).setAlarm .arming
        s.ret.covert).alarmChanged := by
  unfold State.panicLevel
  rw [hw, if_pos]
  · rfl
  · show (s.ret.alarm == .quiet) = true
    rw [ha]
    rfl

theorem panicLevel_disarms (hw : s.emu.panicLow = true) (ha : s.ret.alarm = .arming) : s.panicLevel false
    = ((s.setEmu { s.emu with panicLow := false, filterAt := none, holdAt := none }).setAlarm .quiet
        s.ret.covert).alarmChanged := by
  unfold State.panicLevel
  rw [hw, if_neg (by simp), if_pos]
  · rfl
  · show (s.ret.alarm == .arming) = true
    rw [ha]
    rfl

theorem panicLevel_moves (h1 : low = true → s.emu.panicLow = true ∨ s.ret.alarm ≠ .quiet)
    (h2 : low = false → s.emu.panicLow = false ∨ s.ret.alarm ≠ .arming) :
    s.panicLevel low = { s with emu := { s.emu with panicLow := low, filterAt := none } } := by
  unfold State.panicLevel
  rw [if_neg, if_neg]
  · rfl
  · rintro hc
    simp only [Bool.and_eq_true, Bool.not_eq_true', beq_iff_eq] at hc
    obtain ⟨⟨hl, hw⟩, ha⟩ := hc
    exact (h2 hl).elim (fun h => by rw [h] at hw; cases hw) (· ha)
  · rintro hc
    simp only [Bool.and_eq_true, Bool.not_eq_true', beq_iff_eq] at hc
    obtain ⟨⟨hl, hw⟩, ha⟩ := hc
    exact (h1 hl).elim (fun h => by rw [h] at hw; cases hw) (· ha)

end

/-- Settles O39: the counted level is the pin's, and only a press in QUIET or a release in ARMING changes the alarm. -/
theorem hiddenSwitchArmsAndDisarms : Obligations.HiddenSwitchArmsAndDisarms := by
  intro s c low hc held emu
  refine ⟨fun hp hheld => ⟨fun hl hw ha => ?_, fun hl hw ha => ?_, fun h1 h2 => ?_⟩, fun hp hn => ?_, fun hp hne => ?_,
    fun hp hce => ?_⟩
  · subst hl
    have hx : exec c s = .next (s.panicLevel true) := by rw [exec_panic hc hp, if_pos (filterDue_iff.mpr hheld)]
    rw [panicLevel_arms hw ha] at hx
    refine ⟨_, hx, (alarmChanged_avail rfl).trans (congrArg some (availNow_alarm nofun)), ?_⟩
    have hf := alarmChanged_frame (s := (s.setEmu { s.emu with
      panicLow := true, filterAt := none, holdAt := some (s.now + panicHold) }).setAlarm .arming s.ret.covert) rfl
    rw [flashNext_none rfl] at hf
    exact hf
  · subst hl
    have hx : exec c s = .next (s.panicLevel false) := by rw [exec_panic hc hp, if_pos (filterDue_iff.mpr hheld)]
    rw [panicLevel_disarms hw ha] at hx
    have hf := alarmChanged_frame (s := (s.setEmu { s.emu with
      panicLow := false, filterAt := none, holdAt := none }).setAlarm .quiet s.ret.covert) rfl
    refine ⟨_, hx, (alarmChanged_avail rfl).trans (congrArg some (availNow_of_frame hf).symm), ?_⟩
    rw [flashNext_none rfl] at hf
    exact hf
  · rw [exec_panic hc hp, if_pos (filterDue_iff.mpr hheld), panicLevel_moves h1 h2]
  · rw [exec_panic hc hp, if_neg (mt filterDue_iff.mp hn)]
  · exact exec_panic_apart (hc.resolve_left hne) hp
  · subst hce
    show execPanicLevelChange low s = _
    rw [execPanicLevelChange, if_pos (by simpa using Ne.symm hp)]
    simp only [State.panicPin, Bool.and_eq_true, bne_iff_ne]
    rfl

end Sys2Proof
end

section
/-! PROOFS. The end of an own transmission (O12). -/

namespace Sys2Proof

open Sys2Proof.Machine

section
variable {s t u : State} {r : OwnRef}

/-! ## What the queue's operations leave of W, the idle reference and the air (R22, R24, R27) -/

/-- W and the idle reference stand, and an entry new on the air was keyed now. -/
structure Steady (s t : State) : Prop where
  now : t.now = s.now
  w : t.cau.w = s.cau.w
  idleRef : t.cau.idleRef = s.cau.idleRef
  onAir : ∀ b, t.cau.onAir = some b → s.cau.onAir = some b ∨ b.start = s.now

theorem Steady.refl (s : State) : Steady s s := ⟨rfl, rfl, rfl, fun _ h => .inl h⟩

theorem Steady.trans (h : Steady s t) (k : Steady t u) : Steady s u where
  now := k.now.trans h.now
  w := k.w.trans h.w
  idleRef := k.idleRef.trans h.idleRef
  onAir b hb := (k.onAir b hb).elim (h.onAir b) (fun hn => .inr (hn.trans h.now))

/-- An operation that leaves the air, W and the idle reference as they are. -/
theorem steady_of_cau (hf : QueueFrame s t) (hw : t.cau.w = s.cau.w) (hi : t.cau.idleRef = s.cau.idleRef)
    (ha : t.cau.onAir = s.cau.onAir) : Steady s t := ⟨hf.now, hw, hi, fun _ hb => .inl (ha ▸ hb)⟩

theorem steady_of_queue (hf : QueueFrame s t) {q : List QEntry} (h : t.cau = { s.cau with queue := q }) : Steady s t :=
  steady_of_cau hf (by rw [h]) (by rw [h]) (by rw [h])

theorem acceptOwn_steady (s : State) (o : Offered) : Steady s (s.acceptOwn o) :=
  steady_of_queue (acceptOwn_frame s o) (acceptOwn_cau s o)

theorem displace_steady (s : State) (e : QEntry) : Steady s (s.displace e) :=
  steady_of_queue (displace_frame s e) (displace_cau s e)

theorem placeOwn_steady (s : State) (o : Offered) : Steady s (s.placeOwn o) := by
  unfold State.placeOwn
  split
  · exact acceptOwn_steady s o
  · split
    · exact (displace_steady s _).trans (acceptOwn_steady _ o)
    · exact steady_of_queue (refuseOwn_frame s o) (q := s.cau.queue) (ownerNotSent_writes _ _ _).1

theorem setDeferred_rest (c : Cau) (g : Group) (o : Option Offered) :
    (c.setDeferred g o).w = c.w ∧ (c.setDeferred g o).idleRef = c.idleRef ∧ (c.setDeferred g o).onAir = c.onAir := by
  cases g <;> exact ⟨rfl, rfl, rfl⟩

theorem deferOwn_steady (s : State) (o : Offered) (g : Group) : Steady s (s.deferOwn o g) := by
  have hc : (s.deferOwn o g).cau = s.cau.setDeferred g (some o) ∨ ∃ x, (s.deferOwn o g).cau = s.cau.setDeferred g x := by
    unfold State.deferOwn
    dsimp only
    split <;> exact .inr ⟨_, rfl⟩
  obtain ⟨x, hx⟩ : ∃ x, (s.deferOwn o g).cau = s.cau.setDeferred g x := hc.elim (fun h => ⟨_, h⟩) id
  obtain ⟨hw, hi, ha⟩ := setDeferred_rest s.cau g x
  rw [← hx] at hw hi ha
  exact steady_of_cau (deferOwn_frame s o g) hw hi ha

theorem offerOwnQ_steady (s : State) (o : Offered) : Steady s (s.offerOwnQ o) := by
  unfold State.offerOwnQ
  split
  · exact .refl s
  · split
    · exact placeOwn_steady s o
    · split
      · next e _ => exact steady_of_queue (mergeOwn_frame s o e) (ownerAccepted_writes _ _ _).1
      · split
        · split
          · exact deferOwn_steady s o _
          · exact placeOwn_steady s o
        · exact placeOwn_steady s o

theorem offerRefQ_steady (s : State) (r : OwnRef) : Steady s (s.offerRefQ r) := by
  unfold State.offerRefQ
  split
  · exact offerOwnQ_steady s _
  · exact .refl s

theorem reofferQ_steady (s : State) (r : OwnRef) : Steady s (s.reofferQ r) := by
  unfold State.reofferQ
  split
  · exact offerOwnQ_steady s _
  · exact .refl s

theorem reofferAll_steady (n : Nat) (l : List (Nat × OwnRef)) (s : State) : Steady s (reofferAll id n l s) := by
  induction n generalizing l s with
  | zero => exact .refl s
  | succ n ih =>
    unfold reofferAll
    split
    · exact .refl s
    · have hdraw : Steady s s.nextDraw := steady_of_cau (nextDraw_frame s) rfl rfl rfl
      exact hdraw.trans ((reofferQ_steady _ _).trans (ih _ _))

theorem spaceThen_steady (s : State) : Steady s (s.spaceThen id) := by
  unfold State.spaceThen
  split
  · exact reofferAll_steady _ _ s
  · exact .refl s

theorem drawBackoff_steady (s : State) (e : QEntry) : Steady s (s.drawBackoff e) :=
  steady_of_cau (drawBackoff_frame s e) rfl rfl rfl

theorem startTx_steady (s : State) (a b : QEntry) : Steady s (s.startTx a b) := by
  have hc : s.truncate.cau = s.cau := by
    unfold State.truncate
    split <;> rfl
  have hn : s.truncate.now = s.now := (truncate_frame s).now
  have hw : s.truncate.cau.w = s.cau.w := by rw [hc]
  have hi : s.truncate.cau.idleRef = s.cau.idleRef := by rw [hc]
  refine ⟨(startTx_frame s a b).now, hw, hi, fun x hx => .inr ?_⟩
  rw [← Option.some.inj hx]
  exact hn

theorem decideHead_steady (n : Nat) (s : State) : Steady s (decideHead n false s) := by
  induction n generalizing s with
  | zero => exact .refl s
  | succ n ih =>
    unfold decideHead
    split
    · exact steady_of_cau (setCau_frame s _) rfl rfl rfl
    · next e _ =>
      split
      · split
        · exact startTx_steady s _ _
        · have hq : Steady s ((s.setQueue (s.cau.queue.erase e)).relayNotSent e.frame.key) :=
            steady_of_queue ((setQueue_frame s _).trans (relayNotSent_frame _ _)) rfl
          exact (hq.trans (spaceThen_steady _)).trans (ih _)
      · exact drawBackoff_steady s e

theorem decide_steady (s : State) : Steady s (s.decide false) := decideHead_steady _ s

theorem kick_steady (s : State) : Steady s s.kick := by
  unfold State.kick
  split
  · exact .refl s
  · split
    · exact .refl s
    · exact decide_steady s
    · split
      · exact decide_steady s
      · exact .refl s

theorem offer_steady (s : State) (r : OwnRef) : Steady s (s.offer r) := (offerRefQ_steady s r).trans (kick_steady _)

/-! ## The steps of R27 -/

/-- The air is free again and the receiver may hunt (R27, R31). -/
def silenced (s : State) : State := (s.setCau { s.cau with onAir := none }).resumeHunt

/-- The deferred frames are offered in the order of their groups (R27). -/
def offeredDeferred (s : State) : State := ((s.offerDeferred .class0).offerDeferred .tally).offerDeferred .beacon

/-- W is 4, and the idle reference is set when CD is inactive (R22, R24, R27). -/
def channelReset (s : State) : State :=
  s.setCau { s.cau with w := 4, idleRef := if s.pins.cd then s.cau.idleRef else some s.now }

/-- What follows "sent" (R27). -/
def concluded (s : State) (e : QEntry) : State := (((channelReset (offeredDeferred s)).spaceThen id).decide false).sentFollowUp e

theorem endTx_eq (s : State) (a : OnAir) : s.endTx a = concluded ((silenced s).sentNotice a.entry) a.entry := rfl

theorem exec_transmissionEnd {a : OnAir} (ha : s.cau.onAir = some a) (hle : a.stop ≤ s.now) :
    exec .transmissionEnd s = .next (concluded ((silenced s).sentNotice a.entry) a.entry) := by
  show execTransmissionEnd s = _
  unfold execTransmissionEnd
  rw [ha]
  dsimp only
  rw [if_pos hle, endTx_eq]

theorem silenced_frame (s : State) : QueueFrame s (silenced s) :=
  (setCau_frame s _).trans (setRru_frame _ _ rfl rfl rfl (.refl _) rfl)

theorem offeredDeferred_frame (s : State) : QueueFrame s (offeredDeferred s) :=
  ((offerDeferred_frame s _).trans (offerDeferred_frame _ _)).trans (offerDeferred_frame _ _)

theorem sentFollowUp_frame (s : State) (e : QEntry) : QueueFrame s (s.sentFollowUp e) := by
  unfold State.sentFollowUp
  split
  · split
    · exact offer_frame _ _
    · exact QueueFrame.refl s
  · exact QueueFrame.refl s

theorem sentFollowUp_steady (s : State) (e : QEntry) : Steady s (s.sentFollowUp e) := by
  unfold State.sentFollowUp
  split
  · split
    · exact offer_steady _ _
    · exact .refl s
  · exact .refl s

theorem offerDeferred_steady (s : State) (g : Group) : Steady s (s.offerDeferred g) := by
  unfold State.offerDeferred
  split
  · obtain ⟨hw, hi, ha⟩ := setDeferred_rest s.cau g none
    exact (steady_of_cau (setCau_frame s _) hw hi ha).trans (offerOwnQ_steady _ _)
  · exact .refl s

theorem offeredDeferred_steady (s : State) : Steady s (offeredDeferred s) :=
  ((offerDeferred_steady s _).trans (offerDeferred_steady _ _)).trans (offerDeferred_steady _ _)

theorem concluded_frame (s : State) (e : QEntry) : QueueFrame s (concluded s e) :=
  ((offeredDeferred_frame s).trans (setCau_frame _ _)).trans
    ((spaceThen_frame id QueueFrame.refl _).trans ((decide_frame _ false).trans (sentFollowUp_frame _ e)))

/-- W is 4, the idle reference is that of the moment, and what is on air was keyed now. -/
theorem concluded_channel (e : QEntry) (ha : s.cau.onAir = none) : (concluded s e).cau.w = 4
    ∧ (concluded s e).cau.idleRef = (if s.pins.cd then s.cau.idleRef else some s.now)
    ∧ ∀ b, (concluded s e).cau.onAir = some b → b.start = s.now := by
  have hd := offeredDeferred_steady s
  have hs : Steady (channelReset (offeredDeferred s)) (concluded s e) :=
    (spaceThen_steady _).trans ((decide_steady _).trans (sentFollowUp_steady _ e))
  have hpins := (offeredDeferred_frame s).pins
  refine ⟨hs.w, ?_, fun b hb => ?_⟩
  · rw [hs.idleRef]
    show (if (offeredDeferred s).pins.cd then (offeredDeferred s).cau.idleRef else some (offeredDeferred s).now) = _
    rw [hpins, hd.idleRef, hd.now]
  · have hnow : (channelReset (offeredDeferred s)).now = s.now := hd.now
    rcases hs.onAir b hb with hb | hb
    · rcases hd.onAir b hb with hb | hb
      · rw [ha] at hb
        cases hb
      · exact hb
    · exact hb.trans hnow

/-- The transmission ends with the owner told, and everything after that is the queue's. -/
theorem transmissionEnd_after {a : OnAir} {v : State} (ha : s.cau.onAir = some a) (hle : a.stop ≤ s.now)
    (hv : (silenced s).sentNotice a.entry = v) (hf : QueueFrame u v) (hc : v.cau = (silenced s).cau) (hp : v.pins = s.pins)
    (hn : v.now = s.now) : ∃ t, exec .transmissionEnd s = .next t ∧ QueueFrame u t ∧ t.cau.w = 4
      ∧ t.cau.idleRef = (if s.pins.cd then s.cau.idleRef else some s.now)
      ∧ ∀ b, t.cau.onAir = some b → b.start = s.now := by
  have hair : v.cau.onAir = none := by rw [hc]; rfl
  have hidle : v.cau.idleRef = s.cau.idleRef := by rw [hc]; rfl
  obtain ⟨h1, h2, h3⟩ := concluded_channel a.entry hair
  rw [hp, hidle, hn] at h2
  rw [hn] at h3
  exact ⟨_, (exec_transmissionEnd ha hle).trans (congrArg _ (congrArg (concluded · a.entry) hv)),
    hf.trans (concluded_frame v _), h1, h2, h3⟩

/-! ## A board changed by the key (R73, R91, R98) -/

theorem slots_ext {α : Type} {l l' : List (Option α)} (hn : l.length = l'.length) (h : ∀ i, slotGet l i = slotGet l' i) :
    l = l' := by
  refine List.ext_getElem hn fun i h1 h2 => ?_
  have := h i
  simpa [slotGet, List.getElem?_eq_getElem h1, List.getElem?_eq_getElem h2] using this

theorem slotGet_bind {α : Type} (g : α → Option α) (l : List (Option α)) (i : Nat) :
    slotGet (l.map (·.bind g)) i = (slotGet l i).bind g := by
  simp only [slotGet, List.getElem?_map]
  cases l[i]? <;> rfl

theorem slotGet_set {α : Type} {l : List (Option α)} {i : Nat} (x : Option α) (h : i < l.length) (j : Nat) :
    slotGet (l.set i x) j = if i = j then x else slotGet l j := by
  simp only [slotGet, List.getElem?_set, h, if_true]
  split <;> rfl

/-- A change of the entry of a key, in the slot where it stands, is a change of the board by the key. -/
theorem slots_set_key {k : JobKey} {slot : Nat} {e : BoardEntry} (hl : s.ofb.keyLaw) (h : s.entry k = some (slot, e))
    (g : BoardEntry → Option BoardEntry) : s.ofb.slots.set slot (g e)
      = s.ofb.slots.map (·.bind fun x => if x.key = k then g x else some x) := by
  have hslot := entry_slot h
  have hkey : e.key = k := by simpa using (slotFind_zero _ _ _ _ h).2
  refine slots_ext (by simp) fun i => ?_
  rw [slotGet_bind, slotGet_set _ (slotGet_lt hslot)]
  by_cases hi : slot = i
  · subst hi
    rw [if_pos rfl, hslot, Option.bind_some, if_pos hkey]
  · rw [if_neg hi]
    cases hx : slotGet s.ofb.slots i with
    | none => rfl
    | some x =>
      rw [Option.bind_some, if_neg fun hxk => hi (slot_of_key hl hslot hx (hkey.trans hxk.symm))]

theorem slots_same_key {k : JobKey} (h : s.entry k = none) (g : BoardEntry → Option BoardEntry) :
    s.ofb.slots = s.ofb.slots.map (·.bind fun x => if x.key = k then g x else some x) := by
  refine slots_ext (by simp) fun i => ?_
  rw [slotGet_bind]
  cases hx : slotGet s.ofb.slots i with
  | none => rfl
  | some x =>
    have := (slotFind_none _ _ _).mp h x (slotGet_mem _ _ _ hx)
    rw [Option.bind_some, if_neg (by simpa using this)]

theorem modEntry_map {k : JobKey} {f g : BoardEntry → BoardEntry} (hl : s.ofb.keyLaw)
    (hg : ∀ e, g e = if e.key = k then f e else e) :
    s.modEntry k f = s.setOfb { s.ofb with slots := s.ofb.slots.map (·.map g) } := by
  have hmap : s.ofb.slots.map (·.bind fun x => if x.key = k then some (f x) else some x) = s.ofb.slots.map (·.map g) := by
    refine List.map_congr_left fun x _ => ?_
    cases x with
    | none => rfl
    | some x =>
      rw [Option.bind_some, Option.map_some, hg]
      split <;> rfl
  cases h : s.entry k with
  | none =>
    rw [modEntry_of_none h, ← hmap, ← slots_same_key h]
    rfl
  | some p =>
    have := slots_set_key hl (show s.entry k = some (p.1, p.2) from h) fun x => some (f x)
    simp only [State.modEntry, h]
    rw [State.putEntry, ← hmap, ← this]
    rfl

theorem dropSent_map {k : JobKey} (hl : s.ofb.keyLaw) : s.dropSent k = s.setOfb { s.ofb with
    slots := s.ofb.slots.map (·.filter fun e => !decide (e.key = k ∧ e.retentionPassed = true)) } := by
  have hmap : s.ofb.slots.map (·.bind fun x => if x.key = k then (if x.retentionPassed then none else some x) else some x)
      = s.ofb.slots.map (·.filter fun e => !decide (e.key = k ∧ e.retentionPassed = true)) := by
    refine List.map_congr_left fun x _ => ?_
    cases x with
    | none => rfl
    | some x =>
      by_cases hk : x.key = k <;> cases hr : x.retentionPassed <;> simp [hk, hr, Option.filter]
  cases h : s.entry k with
  | none =>
    simp only [State.dropSent, h]
    rw [← hmap, ← slots_same_key h]
    rfl
  | some p =>
    have hset := slots_set_key hl (show s.entry k = some (p.1, p.2) from h) fun x => if x.retentionPassed then none else some x
    simp only [State.dropSent, h]
    rw [← hmap, ← hset]
    split
    · rfl
    · exact (putEntry_self (entry_slot (show s.entry k = some (p.1, p.2) from h))).symm

/-! ## What each owner makes of "sent" -/

section
variable {e : QEntry}

theorem sentNotice_relay (h : e.owner = .relay) : s.sentNotice e = s.relaySent e.frame.key := by
  unfold State.sentNotice
  rw [h]

theorem sentNotice_claim {k : JobKey} (h : e.owner = .own (.claim k)) : s.sentNotice e = s.claimSent k := by
  unfold State.sentNotice
  rw [h]

theorem sentNotice_take {k : JobKey} (h : e.owner = .own (.take k)) : s.sentNotice e = s.takeSent k := by
  unfold State.sentNotice
  rw [h]

theorem sentNotice_drop {k : JobKey} (h : e.owner = .own (.drop k)) : s.sentNotice e = s.dropSent k := by
  unfold State.sentNotice
  rw [h]

theorem sentNotice_note {slot : Nat} (h : e.owner = .own (.note slot)) :
    s.sentNotice e = s.modOut slot (·.sent s.now) := by
  unfold State.sentNotice
  rw [h]

theorem sentNotice_tally (h : e.owner = .own .tally) : s.sentNotice e = s.tallySent := by
  unfold State.sentNotice
  rw [h]

theorem sentNotice_alarm (h : e.owner = .own .alarm) : s.sentNotice e = s.alarmSent := by
  unfold State.sentNotice
  rw [h]

theorem sentNotice_alarmEnd (h : e.owner = .own .alarmEnd) : s.sentNotice e = s.alarmEndSent := by
  unfold State.sentNotice
  rw [h]

theorem sentNotice_silent (h : e.owner = .own .beacon ∨ ∃ kind dest id, e.owner = .own (.receipt kind dest id)) :
    s.sentNotice e = s := by
  unfold State.sentNotice
  rcases h with h | ⟨kind, dest, id, h⟩ <;> rw [h]

end

theorem sent_queued {now : Nat} {n : OutNote} (h : n.state = .queued) : n.sent now
    = if n.dest = 4095 ∨ n.wanted = false then { n with made := n.made + 1, state := .sent, termTime := some now }
      else { n with made := n.made + 1, state := .await, retryAt := some (now + 8000 * ms) } := by
  unfold OutNote.sent
  rw [if_pos (by rw [h]; rfl)]
  simp only [Bool.or_eq_true, beq_iff_eq, Bool.not_eq_true']
  rfl

/-- A change of the board by "sent", on the state as it was. -/
theorem board_after {f : Ofb} : QueueFrame { s with ofb := f } ((silenced s).setOfb f) := { silenced_frame s with
  board := rfl, boardFull := rfl, boardAvail := rfl }

theorem alarmSent_first (h1 : s.emu.firstSent = true) (h2 : s.ret.alarm = .alerting) : s.alarmSent
    = (s.setEmu { s.emu with firstSent := false }).raiseEvent .alarmSent s.ret.serial 0 := by
  unfold State.alarmSent
  rw [h1, h2]
  refine (if_pos (show (true && AlarmState.alerting != AlarmState.ending) = true from rfl)).trans ?_
  exact if_pos (show (s.ret.alarm == .alerting) = true by rw [h2]; rfl)

theorem alarmSent_again (h : s.emu.firstSent = false) : s.alarmSent = s := by
  unfold State.alarmSent
  rw [h]
  rfl

end

section
variable {s : State} {o : Offered} {g : Group}

/-! ## A deferred frame offered at the end (R17, R27) -/

theorem offerDeferred_none (h : s.cau.deferred g = none) : s.offerDeferred g = s := by
  simp only [State.offerDeferred, h]

/-- The deferred frame accepted as a new entry. -/
def undeferred (s : State) (g : Group) (o : Offered) : State := (s.setCau (s.cau.setDeferred g none)).acceptOwn o

theorem offerDeferred_accepts (hr : s.cpt.part = .run) (h : s.cau.deferred g = some o) (ha : s.cau.onAir = none)
    (hq : s.cau.queue = []) : s.offerDeferred g = undeferred s g o := by
  obtain ⟨hq', -, -⟩ := setDeferred_fields s.cau g none
  obtain ⟨-, -, ha'⟩ := setDeferred_rest s.cau g none
  have hair := ha'.trans ha
  have hqueue := hq'.trans hq
  simp only [State.offerDeferred, h]
  rw [offerOwnQ_places (s := s.setCau (s.cau.setDeferred g none)) hr
      (unmatched_of_empty (s := s.setCau (s.cau.setDeferred g none)) _ hair hqueue),
    placeOwn_of_room (s := s.setCau (s.cau.setDeferred g none)) (count_of_empty hair hqueue)]
  rfl

theorem undeferred_cau (hq : s.cau.queue = []) : (undeferred s g o).cau
    = { s.cau.setDeferred g none with queue := [acceptedEntry s o] } := by
  have hqueue : (s.setCau (s.cau.setDeferred g none)).cau.queue = [] := (setDeferred_fields s.cau g none).1.trans hq
  rw [undeferred, acceptOwn_cau, hqueue]
  rfl

/-- Of several groups only the one with a deferred frame offers one. -/
theorem offeredDeferred_one (hr : s.cpt.part = .run) (h : s.cau.deferred g = some o)
    (hn : ∀ g', g' ≠ g → s.cau.deferred g' = none) (ha : s.cau.onAir = none) (hq : s.cau.queue = []) :
    offeredDeferred s = undeferred s g o := by
  have hgone (g' : Group) (hg' : g' ≠ g) : (undeferred s g o).cau.deferred g' = none := by
    rw [undeferred_cau hq]
    have := hn g' hg'
    cases g <;> cases g' <;> first | exact absurd rfl hg' | exact this
  unfold offeredDeferred
  cases g with
  | class0 =>
    rw [offerDeferred_accepts hr h ha hq, offerDeferred_none (hgone .tally nofun), offerDeferred_none (hgone .beacon nofun)]
  | tally =>
    rw [offerDeferred_none (hn .class0 nofun), offerDeferred_accepts hr h ha hq, offerDeferred_none (hgone .beacon nofun)]
  | beacon =>
    rw [offerDeferred_none (hn .class0 nofun), offerDeferred_none (hn .tally nofun), offerDeferred_accepts hr h ha hq]

theorem standingMarks_nil : s.standingMarks = [] ↔ ∀ r ∈ s.markable, s.ownMark r = none := by
  unfold State.standingMarks
  rw [List.filterMap_eq_nil_iff]
  simp only [Option.map_eq_none_iff]

/-- A frame of a group leaves no mark, and touches no other. -/
theorem acceptOwn_marks (hg : o.ref.group = some g) (h : s.standingMarks = []) : (s.acceptOwn o).standingMarks = [] := by
  obtain ⟨r, b, q, m⟩ := o
  cases r with
  | claim | take | drop | note | receipt => cases hg
  | beacon | alarm | alarmEnd => cases q <;> exact h
  | tally =>
    have hall := standingMarks_nil.mp h
    have htally (place : Option Nat) (c : Cau) (x : Retained) (y : BitVec 16) :
        ({ s with cau := c, ret := x, check := y }.tallyPlace .offered place).standingMarks = [] := by
      refine standingMarks_nil.mpr fun r hr => ?_
      cases r with
      | tally =>
        simp only [State.ownMark, State.tallyPlace, State.setTtl_ttl]
        cases s.ttl.tally <;> rfl
      | receipt kind => cases kind <;> exact hall _ hr
      | claim | take | drop | note | beacon | alarm | alarmEnd => exact hall _ hr
    cases q <;> exact htally _ _ _ _

end

section
variable {s : State} {o : Offered} {g : Group}

theorem undeferred_eq (hseq : o.seq = none) : ∃ b m u, undeferred s g o = {
    (s.setCau (s.cau.setDeferred g none)).setRet { s.ret with seq := (s.ret.seq + 1) % 256 } with
      cau := { s.cau.setDeferred g none with queue := (s.cau.setDeferred g none).queue ++ [acceptedEntry s o] }
      ofb := b
      nts := m
      ttl := u } := by
  obtain ⟨b, m, u, h⟩ := acceptOwn_eq (s.setCau (s.cau.setDeferred g none)) o
  rw [hseq] at h
  exact ⟨b, m, u, h⟩

theorem undeferred_tally (hr : o.ref = .tally) (hseq : o.seq = none) : (undeferred s g o).ttl.tally
    = s.ttl.tally.map fun x => { x with place := .offered, seq := some s.ret.seq } := by
  unfold undeferred State.acceptOwn
  rw [hr, hseq]
  rfl

theorem accepted_deferred (hseq : o.seq = none) : acceptedEntry s o = { s.ownEntry o.ref o.body with mark := o.mark } := by
  rw [acceptedEntry, hseq]
  rfl

/-- With nothing deferred in the other groups, nothing is deferred any more. -/
theorem setDeferred_all {c : Cau} (hn : ∀ g', g' ≠ g → c.deferred g' = none) : c.setDeferred g none
    = { c with deferred0 := none, deferredTally := none, deferredBeacon := none } := by
  obtain ⟨q, a, d0, dt, db⟩ := c
  cases g with
  | class0 =>
    obtain rfl : dt = none := hn .tally nofun
    obtain rfl : db = none := hn .beacon nofun
    rfl
  | tally =>
    obtain rfl : d0 = none := hn .class0 nofun
    obtain rfl : db = none := hn .beacon nofun
    rfl
  | beacon =>
    obtain rfl : d0 = none := hn .class0 nofun
    obtain rfl : dt = none := hn .tally nofun
    rfl

theorem backingOff_reset (t : State) (q : List QEntry) (slots : Nat) : ((channelReset t).backingOff q slots).cau
    = { t.cau with
      queue := q
      au := .waiting (t.now + slots * (30 * ms))
      w := 4
      idleRef := if t.pins.cd then t.cau.idleRef else some t.now } := rfl

/-- With its guard time just begun, the new head draws a backoff with W of 4 (R22 to R24, R27). -/
theorem concluded_defers {e : QEntry} (hr : s.cpt.part = .run) (hd : s.cau.deferred g = some o)
    (hn : ∀ g', g' ≠ g → s.cau.deferred g' = none) (hg : o.ref.group = some g) (ha : s.cau.onAir = none)
    (hq : s.cau.queue = []) (hb : s.cau.blocked = false) (hm : s.standingMarks = [])
    (he : ∀ k, e.owner ≠ .own (.take k)) : ∃ slots, 1 ≤ slots ∧ slots ≤ (if g = .class0 then 2 else 4)
      ∧ concluded s e = (channelReset (undeferred s g o)).backingOff [acceptedEntry s o] slots := by
  have hcau := undeferred_cau (g := g) (o := o) hq
  have hqueue : (channelReset (undeferred s g o)).cau.queue = [acceptedEntry s o] := by
    show (undeferred s g o).cau.queue = _
    rw [hcau]
  have hmarks : (channelReset (undeferred s g o)).standingMarks = [] := acceptOwn_marks (s := s.setCau _) hg hm
  have hhead : headOf (channelReset (undeferred s g o)).cau.queue = some (acceptedEntry s o) := by rw [hqueue]; rfl
  have hblocked : (channelReset (undeferred s g o)).cau.blocked = false := by
    show (undeferred s g o).cau.blocked = _
    rw [hcau]
    cases g <;> exact hb
  have hmay : ¬ (channelReset (undeferred s g o)).mayKey (acceptedEntry s o) = true := by
    rw [mayKey_iff]
    rintro (⟨hcd, t, ht, hle⟩ | ⟨hblock, -⟩)
    · have hidle : (channelReset (undeferred s g o)).cau.idleRef = some (channelReset (undeferred s g o)).now :=
        if_neg (by rw [show (undeferred s g o).pins.cd = false from hcd]; exact Bool.false_ne_true)
      rw [hidle] at ht
      cases ht
      split at hle <;> simp only [ms] at hle <;> omega
    · rw [hblocked] at hblock
      cases hblock
  have hcls : (acceptedEntry s o).cls = 0 ↔ g = .class0 := by
    show o.ref.cls = 0 ↔ _
    cases hr : o.ref <;> rw [hr] at hg <;> cases hg <;> simp [OwnRef.cls]
  obtain ⟨slots, h1, h2, hback⟩ := drawBackoff_cases (channelReset (undeferred s g o)) (acceptedEntry s o)
    (show (4 : Nat) ∈ [4, 8, 16, 32, 64] by decide)
  refine ⟨slots, h1, ?_, ?_⟩
  · simpa only [hcls, show (channelReset (undeferred s g o)).cau.w = 4 from rfl] using h2
  · unfold concluded
    rw [offeredDeferred_one hr hd hn ha hq, spaceThen_of_no_marks id hmarks, decide_waits false hhead hmay]
    have hfollow (t : State) : t.sentFollowUp e = t := by
      unfold State.sentFollowUp
      split
      · next k hk => exact absurd hk (he k)
      · rfl
    rw [hfollow, if_neg Bool.false_ne_true, hback, hqueue]

end

/-- Settles O12: each owner's record takes "sent"; what follows is the queue's. -/
theorem transmissionEndTellsItsOwner : Obligations.TransmissionEndTellsItsOwner := by
  refine ⟨fun s a ha hle hl => ?_, fun s a o g ha hle hr hown hd hn hg hseq hq hb hm => ?_⟩
  · intro after board
    have hmap (f : BoardEntry → BoardEntry) : QueueFrame (board f)
        ((silenced s).setOfb { s.ofb with slots := s.ofb.slots.map (·.map f) }) := board_after
    refine ⟨fun k h => ?_, fun k h => ?_, fun slot r h hslot hs => ?_, fun h he => ?_, fun h h1 h2 => ?_, fun h hn => ?_,
      fun k h => ?_, fun h => ?_, fun h => ?_⟩
    · refine transmissionEnd_after ha hle ((sentNotice_claim h).trans (modEntry_map (s := silenced s) hl fun e => ?_)) (hmap _)
        rfl rfl rfl
      by_cases hk : e.key = k <;> by_cases hs : e.state = .claimPending <;> simp [hk, hs]
      rfl
    · refine transmissionEnd_after ha hle ((sentNotice_take h).trans (modEntry_map (s := silenced s) hl fun e => ?_)) (hmap _)
        rfl rfl rfl
      by_cases hk : e.key = k <;> by_cases hs : e.state = .taking <;> simp [hk, hs]
    · have hmod : (silenced s).modOut slot (·.sent s.now) = (silenced s).putOut slot (r.sent s.now) := by
        unfold State.modOut
        rw [show slotGet (silenced s).nts.outbox slot = some r from hslot]
      rw [sent_queued hs] at hmod
      exact transmissionEnd_after ha hle ((sentNotice_note h).trans hmod)
        { silenced_frame s with inbox := rfl, outbox := rfl } rfl rfl rfl
    · have hend : (silenced s).alarmEndSent
          = (silenced s).setEmu { s.emu with ending := some .gap, gapAt := some (s.now + 2000 * ms) } := by
        unfold State.alarmEndSent
        rw [show (silenced s).emu.ending = some .first from he]
        rfl
      exact transmissionEnd_after ha hle ((sentNotice_alarmEnd h).trans hend) { silenced_frame s with emu := rfl } rfl rfl rfl
    · exact transmissionEnd_after ha hle ((sentNotice_alarm h).trans (alarmSent_first (s := silenced s) h1 h2))
        { silenced_frame s with emu := rfl, cpt := rfl } rfl rfl rfl
    · have htally : (silenced s).tallySent = (silenced s).setTtl { s.ttl with tally := none } := by
        unfold State.tallySent
        rw [show (silenced s).cau.deferredTally = none from hn]
        rfl
      exact transmissionEnd_after ha hle ((sentNotice_tally h).trans htally)
        { silenced_frame s with tally := rfl, shiftTick := rfl } rfl rfl rfl
    · exact transmissionEnd_after ha hle ((sentNotice_drop h).trans (dropSent_map (s := silenced s) hl)) board_after rfl rfl rfl
    · exact transmissionEnd_after ha hle (sentNotice_silent h) (silenced_frame s) rfl rfl rfl
    · refine transmissionEnd_after ha hle (sentNotice_relay h) (QueueFrame.trans
        (t := (silenced s).setStats { s.rru.stats with relaysSent := inc16 s.rru.stats.relaysSent })
        { silenced_frame s with holds := rfl, clash := rfl, sync := rfl, cache := .refl _, stats := rfl }
        (endMark_frame _ _)) rfl rfl rfl
  · have hsent : (silenced s).sentNotice a.entry = silenced s := by
      rcases hown with h | ⟨h, rfl⟩ | ⟨h, hf⟩
      · exact sentNotice_silent (.inl h)
      · have hsome : (silenced s).cau.deferredTally = some o := hd
        rw [sentNotice_tally h, State.tallySent, hsome]
        rfl
      · rw [sentNotice_alarm h, alarmSent_again (s := silenced s) hf]
    have howner (k : JobKey) : a.entry.owner ≠ .own (.take k) := by
      rcases hown with h | ⟨h, -⟩ | ⟨h, -⟩ <;> rw [h] <;> nofun
    obtain ⟨slots, h1, h2, heq⟩ := concluded_defers (s := silenced s) hr (show (silenced s).cau.deferred g = some o by
      cases g <;> exact hd) (fun g' hg' => by cases g' <;> exact hn _ hg') hg rfl hq hb hm howner
    have hx := exec_transmissionEnd ha hle
    rw [hsent, heq] at hx
    obtain ⟨b, m, u, hund⟩ := undeferred_eq (s := silenced s) (g := g) hseq
    have hframe := (silenced_frame s).trans (concluded_frame (silenced s) a.entry)
    rw [heq] at hframe
    refine ⟨slots, _, h1, h2, hx, hframe, ?_, ?_, fun ht => undeferred_tally (s := silenced s) ht hseq⟩
    · show (undeferred (silenced s) g o).ret = _
      rw [hund]
      rfl
    · have hcau := undeferred_cau (s := silenced s) (g := g) (o := o) hq
      rw [setDeferred_all (c := (silenced s).cau) fun g' hg' => by cases g' <;> exact hn _ hg',
        accepted_deferred (s := silenced s) hseq] at hcau
      rw [backingOff_reset, hcau, accepted_deferred (s := silenced s) hseq]
      have hf := acceptOwn_frame ((silenced s).setCau ((silenced s).cau.setDeferred g none)) o
      have hnow : (undeferred (silenced s) g o).now = s.now := hf.now
      have hpins : (undeferred (silenced s) g o).pins = s.pins := hf.pins
      rw [hnow, hpins]
      rfl

end Sys2Proof
end

section
/-! PROOFS. The timers of an own alarm (O40), and CANCEL-ALARM (O38). -/

namespace Sys2Proof

open Sys2Proof.Machine

section
variable {s t : State} {time : Nat}

/-! ## Frames of the emergency unit (R16, R17) -/

theorem unmatched_of_class0 {r : OwnRef} (hg : r.group = some .class0)
    (hq : ∀ x ∈ s.cau.queue, x.owner.inGroup .class0 = false)
    (ha : ∀ a, s.cau.onAir = some a → a.entry.owner.inGroup .class0 = false) : unmatched s.cau r := fun g h => by
  rw [hg] at h
  cases h
  exact ⟨hq, ha⟩

/-- A class-0 frame without another of its group joins a queue with room. -/
theorem offer_class0 {r : OwnRef} {b : Body} (hroom : s.room) (hb : s.ownBody r = some b) (hg : r.group = some .class0)
    (hq : ∀ x ∈ s.cau.queue, x.owner.inGroup .class0 = false)
    (ha : ∀ a, s.cau.onAir = some a → a.entry.owner.inGroup .class0 = false) :
    (s.offer r).cau = { s.cau with queue := s.cau.queue ++ [s.ownEntry r b] } := by
  obtain ⟨hr, hc, hw⟩ := hroom
  obtain ⟨o, n, u, heq, -⟩ := offer_waits hr hb (unmatched_of_class0 hg hq ha) hc hw
  rw [heq]
  rfl

/-! ## Repeats (R168) -/

theorem repeatInterval_eq (a : AlarmState) (n : Nat) :
    repeatInterval a n = if a = .alerting ∧ 30 ≤ n then 30000 * ms else 10000 * ms := by
  unfold repeatInterval
  simp only [Bool.and_eq_true, beq_iff_eq, decide_eq_true_iff]

/-- The repeat timer started after a frame offered. -/
theorem startRepeat_frame (h : QueueFrame s t) : QueueFrame { s with emu := { s.emu with
    repeatAt := some (s.now + if s.ret.alarm = .alerting ∧ 30 ≤ s.emu.repeats then 30000 * ms else 10000 * ms) } }
    t.startRepeat := by
  refine { h with emu := ?_ }
  show { t.emu with repeatAt := some (t.now + repeatInterval t.ret.alarm t.emu.repeats) } = _
  rw [repeatInterval_eq, h.emu, h.now, h.ret]

theorem exec_alarmRepeat (ha : s.ret.alarm = .alerting ∨ s.ret.alarm = .covert) (h : s.emu.repeatAt = some time)
    (hle : time ≤ s.now) : exec .alarmRepeat s = .next s.alarmRepeat := by
  show execAlarmRepeat s = _
  rw [execAlarmRepeat, h, due_some hle, if_pos]
  rcases ha with ha | ha <;> rw [ha] <;> rfl

theorem exec_alarmEndGap (ha : s.emu.ending = some .gap) (h : s.emu.gapAt = some time) (hle : time ≤ s.now) :
    exec .alarmEndGap s = .next s.alarmGap := by
  show execAlarmEndGap s = _
  rw [execAlarmEndGap, ha, h, due_some hle]
  rfl

theorem exec_signFlashToggle {f : Flash} (h : s.emu.flash = some f) (hle : f.toggleAt ≤ s.now) :
    exec .signFlashToggle s = .next s.flashToggle := by
  show execSignFlashToggle s = _
  rw [execSignFlashToggle, h, Option.map_some, due_some hle, if_pos rfl]

/-! ## The end of the second ALARM-END (R172) -/

theorem enterQuiet_frame (s : State) : AvailFrame ({ s with emu := { s.emu with ending := none, flash := none } }.withRet
    { s.ret with alarm := .quiet, covert := false }) s.enterQuiet := by
  have hf := alarmChanged_frame (s := (s.setAlarm .quiet false).setEmu { s.emu with ending := none }) rfl
  rw [flashNext_none rfl] at hf
  exact hf

theorem enterQuiet_avail (s : State) : s.enterQuiet.fre.avail = some s.enterQuiet.availNow := by
  have hf := alarmChanged_frame (s := (s.setAlarm .quiet false).setEmu { s.emu with ending := none }) rfl
  exact (alarmChanged_avail rfl).trans (congrArg some (availNow_of_frame hf).symm)

end

/-- Settles O40: each timer offers its frame over a record already changed. -/
theorem alarmTimersRepeatEndAndFlash : Obligations.AlarmTimersRepeatEndAndFlash := by
  intro s time hle
  refine ⟨fun ha h => ?_, fun he h => ?_, fun a hair hstop how he => ?_, fun f h ht => ?_⟩
  · intro repeats
    refine ⟨_, exec_alarmRepeat ha h hle, ?_, fun hroom hq hair => ?_⟩
    · exact startRepeat_frame (offer_frame (s.setEmu { s.emu with repeats := satAdd cap8 s.emu.repeats 1 }) .alarm)
    · refine (offer_class0 (s := s.setEmu { s.emu with repeats := satAdd cap8 s.emu.repeats 1 }) (r := .alarm) hroom rfl rfl hq
        hair).trans ?_
      have hcov : (s.ret.alarm == .covert) = decide (s.ret.alarm = .covert) := rfl
      rw [← hcov]
      rfl
  · exact ⟨_, exec_alarmEndGap he h hle, offer_frame _ _, fun hroom hq hair =>
      offer_class0 (s := s.setEmu { s.emu with ending := some .second, gapAt := none }) hroom rfl rfl hq hair⟩
  · have hsent : (silenced s).sentNotice a.entry = (silenced s).enterQuiet := by
      rw [sentNotice_alarmEnd how, State.alarmEndSent, show (silenced s).emu.ending = some .second from he]
    have hx := exec_transmissionEnd hair hstop
    rw [hsent] at hx
    have htail := concluded_frame (silenced s).enterQuiet a.entry
    refine ⟨_, hx, avail_of_frame htail (enterQuiet_avail _), ?_⟩
    have hquiet := (enterQuiet_frame (silenced s)).trans htail.toAvail
    refine AvailFrame.trans ?_ hquiet
    exact { (silenced_frame s).toAvail with emu := rfl, ret := rfl, store := fun _ => rfl }
  · subst ht
    rw [exec_signFlashToggle h hle, State.flashToggle, h]
    rfl

end Sys2Proof
end

section
/-! PROOFS. CANCEL-ALARM (O38). -/

namespace Sys2Proof

open Sys2Proof.Machine

section
variable {s t : State} {st : Station} {code : Nat}

/-! ## The held fare released (R127) -/

/-- A held trip runs again, its part-second counted; every other fare stands (R120, R127). -/
def released (s : State) : State :=
  ({ s with fre := { s.fre with
    secondAt := if s.ret.fare = .held ∧ s.ret.trip.isSome then some (s.now + 1000 * ms) else s.fre.secondAt } } : State).withRet
  { s.ret with
    fare := if s.ret.fare = .held ∧ s.ret.trip.isSome then .hired else s.ret.fare
    trip := if s.ret.fare = .held then s.ret.trip.map fun x => { x with heldS := min cap32 (x.heldS + s.partSecond) }
      else s.ret.trip }

theorem released_self (hc : s.check = storeCheck s.ret) (h : s.ret.fare = .held → s.ret.trip = none) : released s = s := by
  have hno : ¬ (s.ret.fare = .held ∧ s.ret.trip.isSome = true) := fun ⟨hf, ht⟩ => by rw [h hf] at ht; cases ht
  have htrip : (if s.ret.fare = .held then s.ret.trip.map fun x => { x with heldS := min cap32 (x.heldS + s.partSecond) }
      else s.ret.trip) = s.ret.trip := by
    split
    · next hf => rw [h hf]; rfl
    · rfl
  rw [released, if_neg hno, if_neg hno, htrip, State.withRet, ← hc]

theorem alarmFare_held {x : Trip} (hf : s.ret.fare = .held) (hx : s.ret.trip = some x) : released s
    = ((s.setTrip (x.addHeld s.partSecond)).setRet { (s.setTrip (x.addHeld s.partSecond)).ret with fare := .hired }).startSecond := by
  have hyes : s.ret.fare = .held ∧ s.ret.trip.isSome = true := ⟨hf, by rw [hx]; rfl⟩
  rw [released, if_pos hyes, if_pos hyes, if_pos hf, hx]
  rfl

/-- The fare engine told of COVERT or ENDING (R127). -/
theorem alarmFare_released (ha : s.ret.alarm = .covert ∨ s.ret.alarm = .ending) (hc : s.check = storeCheck s.ret) :
    s.alarmFare = released s := by
  by_cases hheld : s.ret.fare = .held
  · cases hx : s.ret.trip with
    | none =>
      rw [released_self hc fun _ => hx]
      rcases ha with ha | ha <;> simp only [State.alarmFare, ha, hheld, hx]
    | some x =>
      rw [alarmFare_held hheld hx]
      rcases ha with ha | ha <;> simp only [State.alarmFare, ha, hheld, hx]
  · rw [released_self hc fun h => absurd h hheld]
    rcases ha with ha | ha <;> cases hf : s.ret.fare <;> first | exact absurd hf hheld | simp only [State.alarmFare, ha, hf]

theorem released_frame (h : AvailFrame s t) : AvailFrame (released s) (released t) := by
  have hp : t.partSecond = s.partSecond := by
    unfold State.partSecond
    rw [h.fre, h.now]
  refine h.withStore ?_ ?_
  · rw [h.ret, hp]
  · rw [h.ret, h.fre, h.now]

/-- The flash of an open or ended alarm (R163). -/
theorem flashNext_open (hst : s.cpt.config = some st)
    (ha : s.ret.alarm = .alerting ∨ s.ret.alarm = .covert ∨ s.ret.alarm = .ending) : flashNext s
    = if st.covertSign then (if s.emu.flash.isSome then s.emu.flash else some ⟨true, s.now + 500 * ms⟩) else none := by
  have hw : s.flashWanted = st.covertSign := Bool.eq_iff_iff.mpr ((flashWanted_iff hst).trans (and_iff_left ha))
  rw [flashNext, hw]

/-- COVERT or ENDING told to the fare engine and the sign, over a frame (R127, R163). -/
theorem alarmChanged_released (h : AvailFrame s t) (ha : s.ret.alarm = .covert ∨ s.ret.alarm = .ending)
    (hc : s.check = storeCheck s.ret) (hst : s.cpt.config = some st) : AvailFrame
      { released s with emu := { s.emu with flash :=
        if st.covertSign then (if s.emu.flash.isSome then s.emu.flash else some ⟨true, s.now + 500 * ms⟩) else none } }
      t.alarmChanged ∧ t.alarmChanged.fre.avail = some .alarm := by
  have hta : t.ret.alarm = s.ret.alarm := by rw [h.ret]
  have hfare : t.alarmFare = released t := alarmFare_released (hta ▸ ha) (h.store hc)
  constructor
  · have hf := (flashUpdate_frame ((released_frame h).trans (recompute_frame _)) :
      AvailFrame _ ((released t).recompute).flashUpdate)
    rw [flashNext_open (s := released s) hst (.inr ha)] at hf
    unfold State.alarmChanged State.alarmNotice
    rw [hfare]
    exact hf
  · rw [alarmChanged_avail hfare]
    refine congrArg some (availNow_alarm fun hq => ?_)
    have hq : t.ret.alarm = .quiet := hq
    rw [hta] at hq
    rw [hq] at ha
    rcases ha with ha | ha <;> cases ha

/-! ## Entry to COVERT and to ENDING (R171, R172) -/

/-- The state with the alarm in this state, before the fare engine and the sign are told. -/
def alarmed (s : State) (a : AlarmState) (covert : Bool) (e : Emu) : State := (s.setAlarm a covert).setEmu e

theorem mapEmu_frame (h : AvailFrame s t) (f : Emu → Emu) : AvailFrame { s with emu := f s.emu } (t.setEmu (f t.emu)) :=
  { h with emu := congrArg f h.emu }

theorem startRepeat_avail (h : AvailFrame s t) : AvailFrame { s with emu := { s.emu with
    repeatAt := some (s.now + repeatInterval s.ret.alarm s.emu.repeats) } } t.startRepeat := by
  have hr : t.ret.alarm = s.ret.alarm := by rw [h.ret]
  unfold State.startRepeat
  rw [hr, h.emu, h.now]
  exact { h with emu := rfl }

theorem offered_avail {a : Avail} (r : OwnRef) (h : s.fre.avail = some a) : (s.offer r).fre.avail = some a := by
  rw [(offer_frame s r).fre]
  exact h

theorem enterCovert_frame (hst : s.cpt.config = some st) : AvailFrame
    { released (s.setAlarm .covert true) with emu := { s.emu with
      repeats := min 255 (s.emu.repeats + 1)
      repeatAt := some (s.now + 10000 * ms)
      flash := if st.covertSign then (if s.emu.flash.isSome then s.emu.flash else some ⟨true, s.now + 500 * ms⟩) else none } }
    s.enterCovert ∧ s.enterCovert.fre.avail = some .alarm := by
  obtain ⟨hf, ha⟩ := alarmChanged_released (s := s.setAlarm .covert true) (st := st) (AvailFrame.refl _) (.inl rfl) rfl hst
  have hrepeat := mapEmu_frame hf fun e => { e with repeats := satAdd cap8 e.repeats 1 }
  exact ⟨startRepeat_avail (hrepeat.trans (offer_frame _ .alarm).toAvail), offered_avail .alarm ha⟩

theorem enterEnding_frame (hst : s.cpt.config = some st) : AvailFrame
    { released (s.setAlarm .ending s.ret.covert) with emu := { s.emu with
      repeatAt := none
      firstSent := false
      ending := some .first
      flash := if st.covertSign then (if s.emu.flash.isSome then s.emu.flash else some ⟨true, s.now + 500 * ms⟩) else none } }
    s.enterEnding ∧ s.enterEnding.fre.avail = some .alarm := by
  have hgone := removeOwn_frame (alarmed s .ending s.ret.covert { s.emu with repeatAt := none, firstSent := false }) .alarm
  obtain ⟨hf, ha⟩ := alarmChanged_released hgone.toAvail (.inr rfl) rfl hst
  have hending := mapEmu_frame hf fun e => { e with ending := some .first }
  exact ⟨hending.trans (offer_frame _ .alarmEnd).toAvail, offered_avail .alarmEnd ha⟩

/-! ## What is left of the queue (R16, R17, R21) -/

/-- A cab that is known to be in ALARM has nothing to recompute. -/
theorem recompute_alarm (ha : s.ret.alarm ≠ .quiet) (h : s.fre.avail = some .alarm) : s.recompute = s := by
  unfold State.recompute
  rw [availNow_alarm ha, h]
  rfl

theorem alarmChanged_queue (ha : s.ret.alarm = .covert ∨ s.ret.alarm = .ending) (hc : s.check = storeCheck s.ret)
    (h : s.fre.avail = some .alarm) : s.alarmChanged = { released s with emu := { s.emu with flash := flashNext (released s) } } := by
  have hq : (released s).ret.alarm ≠ .quiet := fun hq => by
    have hq : s.ret.alarm = .quiet := hq
    rw [hq] at ha
    rcases ha with ha | ha <;> cases ha
  unfold State.alarmChanged State.alarmNotice
  rw [alarmFare_released ha hc, recompute_alarm hq h, flashUpdate_eq]
  rfl

/-- Without standing marks a removal only takes the frame out. -/
theorem removeOwn_of_no_marks (r : OwnRef) (hm : s.standingMarks = []) : s.removeOwn r = s.setCau { s.cau with
    queue := s.cau.queue.filter fun x => !(x.owner == .own r)
    deferred0 := undefer r s.cau.deferred0
    deferredTally := undefer r s.cau.deferredTally
    deferredBeacon := undefer r s.cau.deferredBeacon } := by
  unfold State.removeOwn
  split
  · exact spaceThen_of_no_marks _ hm
  · next hn =>
    have hn := Bool.or_eq_false_iff.mp (Bool.eq_false_iff.mpr hn)
    obtain ⟨hh, hd⟩ := hn
    have hqueue : s.cau.queue.filter (fun x => !(x.owner == .own r)) = s.cau.queue :=
      List.filter_eq_self.mpr fun x hx => by
        have := List.any_eq_false.mp hh x hx
        simpa using this
    have hdef (d : Option Offered) (hmem : d ∈ [s.cau.deferred0, s.cau.deferredTally, s.cau.deferredBeacon]) :
        undefer r d = d := by
      have := List.any_eq_false.mp hd d hmem
      cases d with
      | none => rfl
      | some o =>
        have ho : ¬ (o.ref == r) = true := this
        exact Option.filter_eq_some_iff.mpr ⟨rfl, by simpa using ho⟩
    rw [hqueue, hdef _ (by simp), hdef _ (by simp), hdef _ (by simp)]
    rfl

/-! ## CANCEL-ALARM (R170) -/

theorem answering_cau (u s : State) (c : Bool) (l : List Byte) : (u.answering s c l).cau = u.cau := rfl

theorem cancelAlarm_shut (hc : code ≤ 9999) (h1 : s.ret.alarm ≠ .alerting) (h2 : s.ret.alarm ≠ .covert) :
    actCancelAlarm code s = refuse .state s := by
  rw [actCancelAlarm, if_neg (Nat.not_lt.mpr hc), if_pos (by simp [h1, h2])]

theorem cancelAlarm_open (hc : code ≤ 9999) (h : s.ret.alarm = .alerting ∨ s.ret.alarm = .covert) (hst : s.cpt.config = some st) :
    actCancelAlarm code s = if code = st.cancelCode ∨ code = st.duressCode
      then done (s.codeGiven code) (put8 (s.codeGiven code).visibleAlarm) else refuse .badCode s := by
  have hopen : (s.ret.alarm != .alerting && s.ret.alarm != .covert) = false := by
    rcases h with h | h <;> rw [h] <;> rfl
  have hcode : (s.isCancel code || s.isDuress code) = true ↔ code = st.cancelCode ∨ code = st.duressCode := by
    simp only [State.isCancel, State.isDuress, hst, Option.map_some, Bool.or_eq_true, beq_iff_eq, Option.some.injEq]
    exact or_congr eq_comm eq_comm
  rw [actCancelAlarm, if_neg (Nat.not_lt.mpr hc), hopen, if_neg Bool.false_ne_true]
  simp only [hcode]

theorem codeGiven_cancel (hst : s.cpt.config = some st) (h : code = st.cancelCode) : s.codeGiven code = s.enterEnding := by
  rw [State.codeGiven, if_pos (by simp [State.isCancel, hst, h])]

theorem codeGiven_duress (hst : s.cpt.config = some st) (hne : code ≠ st.cancelCode) :
    s.codeGiven code = if s.ret.alarm = .alerting then s.enterCovert else s := by
  rw [State.codeGiven, if_neg (by simpa [State.isCancel, hst] using Ne.symm hne)]
  simp only [beq_iff_eq]

theorem visible_enterCovert (hst : s.cpt.config = some st) : s.enterCovert.visibleAlarm = 0 := by
  have hc : s.enterCovert.ret.covert = true := by rw [(enterCovert_frame hst).1.ret]; rfl
  rw [State.visibleAlarm, hc, if_pos rfl]

theorem visible_enterEnding (hst : s.cpt.config = some st) : s.enterEnding.visibleAlarm = if s.ret.covert then 0 else 3 := by
  have hc : s.enterEnding.ret.covert = s.ret.covert := by rw [(enterEnding_frame hst).1.ret]; rfl
  have ha : s.enterEnding.ret.alarm = .ending := by rw [(enterEnding_frame hst).1.ret]; rfl
  rw [State.visibleAlarm, hc, ha]
  rfl

/-- The duress code hides an open alarm (R171). -/
theorem cancelAlarm_duress {w : BitVec 16} (hr : s.ready .run) (hst : s.cpt.config = some st) (hc : w.toNat ≤ 9999)
    (hcode : w.toNat = st.duressCode) (hne : st.cancelCode ≠ st.duressCode) (h : s.ret.alarm = .alerting) :
    exec (.cancelAlarm w) s = .next (s.enterCovert.answering s true [0, 0]) := by
  refine operating_exec rfl rfl (blind_cancelAlarm _) hr ?_
  rw [cancelAlarm_open hc (.inl h) hst, if_pos (.inr hcode), codeGiven_duress hst (fun hx => hne (hx.symm.trans hcode)), if_pos h,
    visible_enterCovert hst]
  rfl

/-- The cancel code ends it (R172). -/
theorem cancelAlarm_cancel {w : BitVec 16} (hr : s.ready .run) (hst : s.cpt.config = some st) (hc : w.toNat ≤ 9999)
    (hcode : w.toNat = st.cancelCode) (h : s.ret.alarm = .alerting ∨ s.ret.alarm = .covert) :
    exec (.cancelAlarm w) s = .next (s.enterEnding.answering s true (0 :: put8 (if s.ret.covert then 0 else 3))) := by
  refine operating_exec rfl rfl (blind_cancelAlarm _) hr ?_
  rw [cancelAlarm_open hc h hst, if_pos (.inl hcode), codeGiven_cancel hst hcode, visible_enterEnding hst]
  rfl

/-! ## The frames offered (R16, R17, R171, R172) -/

/-- The state in which a cab known to be in ALARM offers its covert ALARM. -/
def coverted (s : State) : State :=
  { released (s.setAlarm .covert true) with emu := { s.emu with
    repeats := min 255 (s.emu.repeats + 1), flash := flashNext (released (s.setAlarm .covert true)) } }

theorem enterCovert_offers (h : s.fre.avail = some .alarm) : s.enterCovert.cau = ((coverted s).offer .alarm).cau := by
  show (State.offer (State.setEmu _ _) .alarm).cau = _
  rw [alarmChanged_queue (s := s.setAlarm .covert true) (.inl rfl) rfl h]
  rfl

/-- ENDING with the repeats stopped (R172). -/
def endingAlarm (s : State) : State := alarmed s .ending s.ret.covert { s.emu with repeatAt := none, firstSent := false }

/-- ENDING told, and the first ALARM-END offered (R172). -/
def toldEnding (t : State) : State := (t.alarmChanged.setEmu { t.alarmChanged.emu with ending := some .first }).offer .alarmEnd

theorem enterEnding_eq (s : State) : s.enterEnding = toldEnding ((endingAlarm s).removeOwn .alarm) := rfl

/-- What the removal of the ALARM leaves without standing marks. -/
def unalarmed (s : State) : State := (endingAlarm s).setCau { s.cau with
  queue := s.cau.queue.filter fun x => !(x.owner == .own .alarm)
  deferred0 := undefer .alarm s.cau.deferred0
  deferredTally := undefer .alarm s.cau.deferredTally
  deferredBeacon := undefer .alarm s.cau.deferredBeacon }

/-- The state in which a cab known to be in ALARM offers its ALARM-END. -/
def ended (s : State) : State :=
  { released (unalarmed s) with emu := { (unalarmed s).emu with
    ending := some .first, flash := flashNext (released (unalarmed s)) } }

theorem enterEnding_offers (h : s.fre.avail = some .alarm) (hm : s.standingMarks = []) :
    s.enterEnding = (ended s).offer .alarmEnd := by
  have hgone : (endingAlarm s).removeOwn .alarm = unalarmed s := removeOwn_of_no_marks .alarm hm
  rw [enterEnding_eq, hgone, toldEnding, alarmChanged_queue (s := unalarmed s) (.inr rfl) rfl h]
  rfl

theorem withOwner_self (e : QEntry) (f : Frame) {o : Owner} (h : e.owner = o) :
    { e with frame := f, owner := o } = { e with frame := f } := by rw [← h]

/-- The covert ALARM stands in the place of an unsent one (R16, R171). -/
theorem enterCovert_merges {e : QEntry} {before after : List QEntry} (hr : s.cpt.part = .run) (h : s.fre.avail = some .alarm)
    (hw : s.cau.waits) (hq : s.cau.queue = before ++ e :: after) (he : e.owner = .own .alarm)
    (hbefore : ∀ x ∈ before, x.owner.inGroup .class0 = false) (hafter : e ∉ after) :
    s.enterCovert.cau = { s.cau with queue := before ++ { e with
      frame := s.ownFrame (.alarm s.ret.serial (min 255 (s.emu.repeats + 1)) s.ppu.fix true s.framePos) e.frame.seq } :: after } := by
  have hgroup : e.owner.inGroup .class0 = true := by rw [he]; rfl
  obtain ⟨o, n, u, heq⟩ := offer_merges (s := coverted s) (r := .alarm) (g := .class0) hr rfl rfl hq hgroup
    (fun x hx => ⟨hbefore x hx, fun hxe => by rw [← hxe, hbefore x hx] at hgroup; cases hgroup⟩) hafter hw
  rw [enterCovert_offers h, heq]
  exact congrArg (fun x => { s.cau with queue := before ++ x :: after }) (withOwner_self e _ he)

/-- The ALARM-END over the queue without the ALARM (R16, R17, R172). -/
theorem unalarmed_free (hq : ∀ x ∈ s.cau.queue, x.owner.inGroup .class0 = true → x.owner = .own .alarm) :
    ∀ x ∈ (ended s).cau.queue, x.owner.inGroup .class0 = false := fun x hx => by
  obtain ⟨hmem, hown⟩ := List.mem_filter.mp hx
  by_contra hg
  rw [hq x hmem (by simpa using hg)] at hown
  simp at hown

theorem undefer_ref {r : OwnRef} {d : Option Offered} {o : Offered} (h : undefer r d = some o) : o.ref ≠ r := by
  have := (Option.filter_eq_some_iff.mp h).2
  simpa using this

theorem enterEnding_joins (hr : s.cpt.part = .run) (h : s.fre.avail = some .alarm) (hw : s.cau.waits) (hm : s.standingMarks = [])
    (hq : ∀ x ∈ s.cau.queue, x.owner.inGroup .class0 = true → x.owner = .own .alarm) (hc : s.cau.count < 8)
    (ha : ∀ a, s.cau.onAir = some a → a.entry.owner.inGroup .class0 = false) :
    s.enterEnding.cau = { (unalarmed s).cau with
      queue := (unalarmed s).cau.queue ++ [s.ownEntry .alarmEnd (.alarmEnd s.ret.serial s.framePos)] } := by
  have hcount : (ended s).cau.count < 8 :=
    Nat.lt_of_le_of_lt (Nat.add_le_add_right (List.length_filter_le _ _) _) hc
  rw [enterEnding_offers h hm]
  exact offer_class0 (s := ended s) ⟨hr, hcount, hw⟩ rfl rfl (unalarmed_free hq) ha

theorem enterEnding_defers {a : OnAir} (hr : s.cpt.part = .run) (h : s.fre.avail = some .alarm) (hm : s.standingMarks = [])
    (hq : ∀ x ∈ s.cau.queue, x.owner.inGroup .class0 = true → x.owner = .own .alarm) (ha : s.cau.onAir = some a)
    (hg : a.entry.owner.inGroup .class0 = true) : s.enterEnding.cau = { (unalarmed s).cau with
      deferred0 := some ⟨.alarmEnd, .alarmEnd s.ret.serial s.framePos, none, none⟩ } := by
  obtain ⟨u, heq⟩ := offer_defers (s := ended s) (r := .alarmEnd) (g := .class0) hr rfl rfl (unalarmed_free hq) ha hg
  rw [enterEnding_offers h hm, heq]
  rfl

end

/-- Settles O38: the alarm's state first, then the fare and the sign told, then the frame offered. -/
theorem cancelAlarmEndsOrHidesTheAlarm : Obligations.CancelAlarmEndsOrHidesTheAlarm := by
  intro s code st hr hst hcode hne
  refine ⟨fun h1 h2 => operating_exec rfl rfl (blind_cancelAlarm _) hr (cancelAlarm_shut hcode h1 h2), fun h hcov => ?_,
    fun hfre hw => ?_⟩
  · intro fare trip fre flash gone
    refine ⟨fun h1 h2 => operating_exec rfl rfl (blind_cancelAlarm _) hr ?_, fun h1 h2 => ?_, fun h1 h2 => ?_, fun h1 => ?_⟩
    · rw [cancelAlarm_open hcode h hst, if_neg (by simp [h1, h2])]
      rfl
    · refine operating_exec rfl rfl (blind_cancelAlarm _) hr ?_
      rw [cancelAlarm_open hcode h hst, if_pos (.inr h1), codeGiven_duress hst fun hx => hne (hx.symm.trans h1),
        if_neg (by rw [h2]; nofun), State.visibleAlarm, hcov, h2]
      rfl
    · obtain ⟨hf, ha⟩ := enterCovert_frame hst
      exact ⟨_, cancelAlarm_duress hr hst hcode h1 hne h2, hf.answering s true _, ha⟩
    · obtain ⟨hf, ha⟩ := enterEnding_frame hst
      refine ⟨_, cancelAlarm_cancel hr hst hcode h1 h, ?_, ha⟩
      have hres : (0 : Byte) :: put8 (if s.ret.covert then 0 else 3) = [0, if s.ret.alarm = .covert then 0 else 3] := by
        rw [hcov]
        by_cases hc : s.ret.alarm = .covert <;> simp only [hc, decide_true, decide_false] <;> rfl
      rw [hres]
      exact hf.answering s true _
  · intro body ending
    refine ⟨fun h1 h2 => ⟨fun hc hq hair => ?_, fun before e after hq he hbefore hafter => ?_⟩, fun h1 h hm hq => ?_⟩
    · refine ⟨_, cancelAlarm_duress hr hst hcode h1 hne h2, ?_⟩
      rw [answering_cau, enterCovert_offers hfre]
      exact offer_class0 (s := coverted s) (r := .alarm) ⟨hr.2.2, hc, hw⟩ rfl rfl hq hair
    · exact ⟨_, cancelAlarm_duress hr hst hcode h1 hne h2,
        (answering_cau _ _ _ _).trans (enterCovert_merges hr.2.2 hfre hw hq he hbefore hafter)⟩
    · intro left
      have hleft : (unalarmed s).cau.queue = left := List.filter_congr fun x _ => by
        rw [show (x.owner == Owner.own .alarm) = decide (x.owner = .own .alarm) from rfl]
      refine ⟨fun hc hair => ⟨_, cancelAlarm_cancel hr hst hcode h1 h, ?_⟩,
        fun a ha hag => ⟨_, cancelAlarm_cancel hr hst hcode h1 h, ?_⟩⟩
      · have hcau := enterEnding_joins hr.2.2 hfre hw hm hq hc hair
        rw [hleft] at hcau
        rw [answering_cau]
        exact ⟨congrArg Cau.queue hcau, fun o ho => undefer_ref ((congrArg Cau.deferred0 hcau).symm.trans ho)⟩
      · have hcau := enterEnding_defers hr.2.2 hfre hm hq ha hag
        rw [answering_cau]
        exact ⟨(congrArg Cau.queue hcau).trans hleft, (congrArg Cau.onAir hcau).trans ha, congrArg Cau.deferred0 hcau⟩

end Sys2Proof
end

section
/-! PROOFS. Entry to ALERTING (O37). -/

namespace Sys2Proof

open Sys2Proof.Machine

section
variable {s t : State} {slot : Nat} {e : BoardEntry}

/-! ## The job through a frame (R78, R104) -/

/-- A search by a property that the map keeps finds the same slot in two tables with equal images. -/
theorem slotFind_of_map_eq {α β : Type} {g : α → β} {p : α → Bool} (hp : ∀ x y, g x = g y → p x = p y)
    {l l' : List (Option α)} (h : l'.map (·.map g) = l.map (·.map g)) (k : Nat) :
    (slotFind p l' k).map (fun q => (q.1, g q.2)) = (slotFind p l k).map (fun q => (q.1, g q.2)) := by
  induction l generalizing l' k with
  | nil =>
    rw [List.map_eq_nil_iff.mp h]
  | cons a l ih =>
    obtain ⟨a', l'', rfl, ha, hl⟩ := List.map_eq_cons_iff.mp h
    cases a with
    | none =>
      obtain rfl := Option.map_eq_none_iff.mp ha
      exact ih hl (k + 1)
    | some x =>
      obtain ⟨x', rfl, hx⟩ := Option.map_eq_some_iff.mp ha
      have hpx := hp x' x hx
      simp only [slotFind, hpx]
      split
      · rw [Option.map_some, Option.map_some, hx]
      · exact ih hl (k + 1)

theorem holdsJob_of_calm {x y : BoardEntry} (h : x.calm = y.calm) : x.state.holdsJob = y.state.holdsJob := by
  have hj (z : BoardEntry) : z.state.holdsJob = z.calm.state.holdsJob := by
    cases hz : z.state <;> simp [BoardEntry.calm, OfferState.calm, OfferState.holdsJob, hz]
  rw [hj x, hj y, h]

theorem unmark_of_calm {x y : BoardEntry} (h : x.calm = y.calm) (hj : y.state.holdsJob = true) : x.unmark = y.unmark := by
  have hs (z : BoardEntry) (hz : z.state.holdsJob = true) : z.calm = z.unmark := by
    cases hzs : z.state with
    | taking | taken => simp [BoardEntry.calm, OfferState.calm, BoardEntry.unmark, hzs]
    | _ =>
      rw [hzs] at hz
      cases hz
  rw [← hs y hj, ← hs x ((holdsJob_of_calm h).trans hj), h]

theorem jobEntry_of_frame (h : AvailFrame s t) :
    t.jobEntry.map (fun q => (q.1, q.2.calm)) = s.jobEntry.map (fun q => (q.1, q.2.calm)) :=
  slotFind_of_map_eq (fun _ _ => holdsJob_of_calm) h.board 0

theorem jobEntry_none (h : AvailFrame s t) (hj : s.jobEntry = none) : t.jobEntry = none := by
  have := jobEntry_of_frame h
  rwa [hj, Option.map_none, Option.map_eq_none_iff] at this

theorem jobEntry_some (h : AvailFrame s t) (hj : s.jobEntry = some (slot, e)) :
    ∃ e', t.jobEntry = some (slot, e') ∧ e'.unmark = e.unmark := by
  have hmap := jobEntry_of_frame h
  rw [hj, Option.map_some] at hmap
  obtain ⟨⟨i, e'⟩, he', heq⟩ := Option.map_eq_some_iff.mp hmap
  obtain ⟨rfl, hcalm⟩ := Prod.mk.inj heq
  exact ⟨e', he', unmark_of_calm hcalm (slotFind_zero _ _ _ _ hj).2⟩

/-! ## The fare engine told of ALERTING (R127) -/

/-- ALERTING with the next serial, before anyone is told (R167). -/
def alerted (s : State) : State :=
  s.setRet { s.ret with serial := next8 s.ret.serial, alarm := .alerting, covert := false }

theorem alarmFare_stands (hf : s.ret.fare ≠ .hired) : (alerted s).alarmFare = alerted s := by
  unfold State.alarmFare
  split
  · next h _ => exact absurd h hf
  · next h _ _ => cases h
  · next h _ _ => cases h
  · rfl

theorem alarmFare_hired {x : Trip} (hf : s.ret.fare = .hired) (hx : s.ret.trip = some x) : (alerted s).alarmFare
    = (((alerted s).setEarned x (x.settlePart s.partSecond)).setRet
      { ((alerted s).setEarned x (x.settlePart s.partSecond)).ret with fare := .held }).startSecond := by
  unfold State.alarmFare
  rw [show (alerted s).ret.alarm = .alerting from rfl, show (alerted s).ret.fare = .hired from hf,
    show (alerted s).ret.trip = some x from hx]
  rfl

theorem settlePart_flags (x : Trip) (n : Nat) : (x.settlePart n).flags = x.flags := rfl

/-- Whatever the fare, the notice touches the fare's record and the events alone. -/
theorem alarmFare_rest (s : State) : s.alarmFare.ofb = s.ofb ∧ s.alarmFare.cau = s.cau ∧ s.alarmFare.nts = s.nts
    ∧ s.alarmFare.emu = s.emu ∧ s.alarmFare.ret.alarm = s.ret.alarm := by
  have hearned (t : State) (x y : Trip) : (t.setEarned x y).ofb = t.ofb ∧ (t.setEarned x y).cau = t.cau
      ∧ (t.setEarned x y).nts = t.nts ∧ (t.setEarned x y).emu = t.emu ∧ (t.setEarned x y).ret.alarm = t.ret.alarm := by
    unfold State.setEarned State.setPriced
    split
    · exact ⟨rfl, rfl, rfl, rfl, rfl⟩
    · split <;> exact ⟨rfl, rfl, rfl, rfl, rfl⟩
  unfold State.alarmFare
  split
  · exact hearned _ _ _
  · exact ⟨rfl, rfl, rfl, rfl, rfl⟩
  · exact ⟨rfl, rfl, rfl, rfl, rfl⟩
  · exact ⟨rfl, rfl, rfl, rfl, rfl⟩

/-! ## The board told of ALERTING (R78, R104) -/

theorem convertBoard_fre (s : State) (r : Reason) : (s.convertBoard r).fre = s.fre :=
  (removeClaims_frame (s.mapBoard (·.toWatch r)) s.pendingClaims).fre

theorem alarmBoard_idle (h : AvailFrame s t) (hj : s.jobEntry = none) : t.alarmBoard = t.convertBoard .alarm := by
  have hnone := jobEntry_none (h.trans (convertBoard_frame t .alarm)) hj
  simp only [State.alarmBoard, hnone]

/-- The entry given up, in the board and in the fare engine. -/
def dropped (s : State) (slot : Nat) (e : BoardEntry) : State :=
  ({ s.withEntry slot { e with
      state := .dropped
      termTime := some s.now
      reason := some .emergency
      droppedFromTaking := decide (e.state = OfferState.taking) } with
    fre := { s.fre with idleSince := s.idleFrom .vacant s.fre.driver } } : State).withRet { s.ret with fare := .vacant }

theorem withEntry_frame (h : AvailFrame s t) (slot : Nat) (e : BoardEntry) : AvailFrame (s.withEntry slot e) (t.withEntry slot e) :=
  have hset : (t.ofb.slots.set slot (some e)).map (·.map (·.calm)) = (s.ofb.slots.set slot (some e)).map (·.map (·.calm)) := by
    rw [List.map_set, List.map_set, h.board]
  { h with board := hset }

theorem dropped_frame (h : AvailFrame s t) : AvailFrame (dropped s slot e) (dropped t slot e) := by
  unfold dropped
  rw [h.now, h.idleFrom, show t.fre.driver = s.fre.driver by rw [h.fre]]
  refine (withEntry_frame h slot _).withStore ?_ ?_
  · rw [h.ret]
  · rw [h.fre]

theorem dropJob_frame {e' : BoardEntry} (hf : t.ret.fare = .onCall) (hu : e'.unmark = e.unmark) :
    AvailFrame (dropped t slot e) (t.dropJob slot e' .emergency) := by
  have hstate : e'.state = e.state := (congrArg BoardEntry.state hu : e'.unmark.state = e.unmark.state)
  rw [dropJob_giveUp]
  refine giveUp_frame hf ?_
  have hflag : (e'.state == OfferState.taking) = decide (e.state = OfferState.taking) := by rw [hstate]; rfl
  show ({ ({ e'.unmark with } : BoardEntry) with
    state := .dropped, termTime := some t.now, reason := some .emergency
    droppedFromTaking := e'.state == OfferState.taking } : BoardEntry) = _
  rw [hu, hflag]
  rfl

theorem alarmBoard_job (h : AvailFrame s t) (hj : s.jobEntry = some (slot, e)) (hf : s.ret.fare = .onCall) :
    AvailFrame (dropped s slot e) t.alarmBoard := by
  have hconv := h.trans (convertBoard_frame t .alarm)
  obtain ⟨e', he', hu⟩ := jobEntry_some hconv hj
  have hboard : t.alarmBoard = (t.convertBoard .alarm).dropJob slot e' .emergency := by simp only [State.alarmBoard, he']
  rw [hboard]
  exact (dropped_frame hconv).trans (dropJob_frame ((fare_of_frame hconv).trans hf) hu)

theorem setFare_alarm (f : FareState) (ha : s.ret.alarm ≠ .quiet) : (s.setFare f).fre.avail = some .alarm := by
  rw [State.setFare, recompute_avail_now, idleUpdate_eq]
  exact congrArg some (availNow_alarm ha)

theorem fareReleased_alarm (ha : s.ret.alarm ≠ .quiet) (h : s.fre.avail = some .alarm) :
    s.fareReleased.fre.avail = some .alarm := by
  unfold State.fareReleased
  split
  · exact setFare_alarm _ ha
  · exact h

/-- Once ALARM is known, the board's steps leave it known. -/
theorem giveUp_alarm {e' : BoardEntry} (ha : s.ret.alarm ≠ .quiet) (h : s.fre.avail = some .alarm) :
    (giveUp s slot e e').fre.avail = some .alarm := by
  have hq := giveUp_queue_frame (s := s) (slot := slot) (e := e) (e' := e')
  refine fareReleased_alarm ?_ ?_
  · rw [hq.ret]
    exact ha
  · rw [hq.fre]
    exact h

theorem alarmBoard_alarm (ha : s.ret.alarm ≠ .quiet) (h : s.fre.avail = some .alarm) : s.alarmBoard.fre.avail = some .alarm := by
  have hconv : (s.convertBoard .alarm).fre.avail = some .alarm := by rw [convertBoard_fre, h]
  have hal : (s.convertBoard .alarm).ret.alarm = s.ret.alarm := by rw [(convertBoard_frame s .alarm).ret]
  unfold State.alarmBoard
  dsimp only
  split
  · exact giveUp_alarm (by rw [hal]; exact ha) hconv
  · exact hconv

end

end Sys2Proof
end

section
/-! PROOFS. Entry to ALERTING: the frames and the conversions of one act (O37). -/

namespace Sys2Proof

open Sys2Proof.Machine

section
variable {s t a : State} {slot : Nat} {e : BoardEntry}

/-! ## The act as a whole (R167) -/

/-- The emergency unit's record at the entry to ALERTING, before the repeat timer (R167). -/
def alertingEmu (e : Emu) : Emu := { e with firstSent := true, repeats := 0, holdAt := none }

/-- The fare engine, the board and the sign told of ALERTING. -/
def toldAlerting (s : State) : State :=
  let t := (alerted s).alarmNotice.alarmBoard.flashUpdate
  t.setEmu (alertingEmu t.emu)

theorem enterAlerting_eq (s : State) : s.enterAlerting
    = if (toldAlerting s).inRun then ((toldAlerting s).offer .alarm).startRepeat else toldAlerting s := rfl

/-- The record of the emergency unit when the act is done. -/
def enteredEmu (s : State) : Emu :=
  { s.emu with
    firstSent := true
    repeats := 0
    holdAt := none
    repeatAt := if s.cpt.part = .run then some (s.now + 10000 * ms) else s.emu.repeatAt
    flash := flashNext s }

theorem inRun_iff (s : State) : s.inRun = true ↔ s.cpt.part = .run := by simp [State.inRun]

/-- The act over the frame of what the fare engine and the board made of it. -/
theorem enterAlerting_frame (h : AvailFrame a (alerted s).alarmNotice.alarmBoard) :
    AvailFrame { a with emu := enteredEmu a } s.enterAlerting := by
  have htold : AvailFrame { a with emu := alertingEmu { a.emu with flash := flashNext a } } (toldAlerting s) :=
    mapEmu_frame (flashUpdate_frame h) alertingEmu
  have hrun : (toldAlerting s).inRun = true ↔ a.cpt.part = .run := by rw [inRun_iff, htold.cpt]
  rw [enterAlerting_eq]
  unfold enteredEmu
  by_cases hr : a.cpt.part = .run
  · rw [if_pos (hrun.mpr hr), if_pos hr]
    have hstart := startRepeat_avail (htold.trans (offer_frame _ .alarm).toAvail)
    rw [repeatInterval_eq, if_neg fun h => absurd (show 30 ≤ 0 from h.2) (by decide)] at hstart
    exact hstart
  · rw [if_neg (mt hrun.mp hr), if_neg hr]
    exact htold

theorem toldAlerting_alarm (s : State) : (toldAlerting s).fre.avail = some .alarm := by
  have hnotice : (alerted s).alarmNotice.fre.avail = some .alarm := by
    rw [State.alarmNotice, recompute_avail_now]
    exact congrArg some (availNow_alarm (by rw [(alarmFare_rest (alerted s)).2.2.2.2]; nofun))
  have hal : (alerted s).alarmNotice.ret.alarm ≠ .quiet := by
    rw [State.alarmNotice, (recompute_frame _).ret]
    show (alerted s).alarmFare.ret.alarm ≠ .quiet
    rw [(alarmFare_rest (alerted s)).2.2.2.2]
    nofun
  have hboard := alarmBoard_alarm hal hnotice
  show ((alerted s).alarmNotice.alarmBoard.flashUpdate).fre.avail = _
  rw [flashUpdate_eq]
  exact hboard

theorem startRepeat_fre (s : State) : s.startRepeat.fre = s.fre := rfl

theorem startRepeat_cau (s : State) : s.startRepeat.cau = s.cau := rfl

theorem enterAlerting_alarm (s : State) : s.enterAlerting.fre.avail = some .alarm := by
  rw [enterAlerting_eq]
  split
  · rw [startRepeat_fre]
    exact offered_avail .alarm (toldAlerting_alarm s)
  · exact toldAlerting_alarm s

/-! ## The queue (R165 to R168) -/

/-- No entry waits for its CLAIM to be sent. -/
def noClaims (s : State) : Prop := ∀ x ∈ slotEntries s.ofb.slots, x.state ≠ .claimPending

theorem pendingClaims_nil (h : noClaims s) : s.pendingClaims = [] := by
  have hnone : (slotEntries s.ofb.slots).filter (·.state == .claimPending) = [] :=
    List.filter_eq_nil_iff.mpr fun x hx => by simpa using h x hx
  rw [State.pendingClaims, hnone, List.map_nil]

/-- Without a CLAIM to withdraw the board's conversion is its own affair. -/
theorem convertBoard_plain (r : Reason) (h : noClaims s) : s.convertBoard r = s.mapBoard (·.toWatch r) := by
  rw [State.convertBoard, pendingClaims_nil h]
  rfl

theorem toWatch_noClaims (s : State) (r : Reason) : noClaims (s.mapBoard (·.toWatch r)) := fun x hx => by
  obtain ⟨y, -, rfl⟩ := mem_slotEntries_map.mp hx
  cases hy : y.state <;> simp [BoardEntry.toWatch, hy]

theorem recompute_plain (h : noClaims s) : ∃ f av ch o, s.recompute
    = { s with fre := f, ppu := { s.ppu with avail := av, changeAt := ch }, ofb := o } ∧ noClaims s.recompute := by
  unfold State.recompute State.boardAvail
  dsimp only
  split
  · exact ⟨s.fre, s.ppu.avail, s.ppu.changeAt, s.ofb, rfl, h⟩
  · split
    · rw [convertBoard_plain]
      · exact ⟨_, _, _, _, rfl, toWatch_noClaims _ _⟩
      · exact h
    · exact ⟨_, _, _, _, rfl, h⟩

theorem toldAlerting_plain (hf : s.ret.fare ≠ .hired) (hj : s.jobEntry = none) (h : noClaims s) :
    ∃ f av ch o, ∃ m : Emu, toldAlerting s = { alerted s with
      fre := f, ppu := { s.ppu with avail := av, changeAt := ch }, ofb := o, emu := { m with repeats := 0 } } := by
  obtain ⟨f, av, ch, o, hrec, hno⟩ := recompute_plain (s := alerted s) h
  have hnotice : (alerted s).alarmNotice = (alerted s).recompute := by rw [State.alarmNotice, alarmFare_stands hf]
  have hboard : (alerted s).alarmNotice.alarmBoard = (alerted s).recompute.mapBoard (·.toWatch .alarm) := by
    rw [hnotice, alarmBoard_idle (recompute_frame (alerted s)) hj, convertBoard_plain _ hno]
  refine ⟨f, av, ch, (toldAlerting s).ofb, (toldAlerting s).emu, ?_⟩
  unfold toldAlerting
  rw [hboard, flashUpdate_eq, hrec]
  rfl

/-- The ALARM of the entry joins a queue with room (R168). -/
theorem enterAlerting_queue (hf : s.ret.fare ≠ .hired) (hj : s.jobEntry = none) (hroom : s.room) (h : noClaims s)
    (hq : ∀ x ∈ s.cau.queue, x.owner.inGroup .class0 = false)
    (ha : ∀ a, s.cau.onAir = some a → a.entry.owner.inGroup .class0 = false) :
    s.enterAlerting.cau = { s.cau with
      queue := s.cau.queue ++ [s.ownEntry .alarm (.alarm (next8 s.ret.serial) 0 s.ppu.fix false s.framePos)] } := by
  obtain ⟨f, av, ch, o, m, heq⟩ := toldAlerting_plain hf hj h
  have hrun : (toldAlerting s).inRun = true := by
    rw [heq]
    exact (inRun_iff s).mpr hroom.1
  rw [enterAlerting_eq, if_pos hrun, startRepeat_cau, heq]
  exact offer_class0 (s := { alerted s with
    fre := f, ppu := { s.ppu with avail := av, changeAt := ch }, ofb := o, emu := { m with repeats := 0 } }) hroom rfl rfl hq ha

/-! ## The conversions (R78, R104) -/

theorem entry_of_frame (h : QueueFrame s t) (he : slotGet s.ofb.slots slot = some e) :
    ∃ e', slotGet t.ofb.slots slot = some e' ∧ e'.unmark = e.unmark := by
  have hboard := congrArg (slotGet · slot) h.board
  simp only [slotGet_map] at hboard
  rw [he] at hboard
  exact Option.map_eq_some_iff.mp hboard

theorem convertBoard_entry (r : Reason) (he : slotGet s.ofb.slots slot = some e) :
    ∃ e', slotGet (s.convertBoard r).ofb.slots slot = some e' ∧ e'.unmark = (e.toWatch r).unmark := by
  refine entry_of_frame (removeClaims_frame (s.mapBoard (·.toWatch r)) s.pendingClaims) ?_
  show slotGet (s.ofb.slots.map (·.map (·.toWatch r))) slot = _
  rw [slotGet_map, he]
  rfl

/-- A removal of the CLAIMs of the pending entries leaves none of them in the queue. -/
theorem convertBoard_absent (r : Reason) (he : slotGet s.ofb.slots slot = some e) (hs : e.state = .claimPending) :
    absent (.claim e.key) (s.convertBoard r) := by
  have hmem : e.key ∈ s.pendingClaims :=
    List.mem_map.mpr ⟨e, List.mem_filter.mpr ⟨slotGet_mem _ _ _ he, by rw [hs]; rfl⟩, rfl⟩
  have hless : markless (s.mapBoard (·.toWatch r)) (.claim e.key) := fun x hx _ => toWatch_noClaims s r x hx
  have hremove (ks : List JobKey) (u : State) (hu : markless u (.claim e.key)) (hk : e.key ∈ ks) :
      absent (.claim e.key) (u.removeClaims ks) := by
    induction ks generalizing u with
    | nil => cases hk
    | cons k ks ih =>
      show absent _ ((u.removeOwn (.claim k)).removeClaims ks)
      by_cases hke : k = e.key
      · rw [hke]
        exact absent_removeClaims ks (absent_removed hu)
      · exact ih _ (markless_of_frame (removeOwn_frame u _) hu) ((List.mem_cons.mp hk).resolve_left (Ne.symm hke))
  exact hremove _ _ hless hmem

/-- The offer no longer competes: it stands in WATCH for the alarm, and its CLAIM is out of the queue. -/
structure Withdrawn (e : BoardEntry) (slot : Nat) (t : State) : Prop where
  entry : ∃ e', slotGet t.ofb.slots slot = some e' ∧ e'.unmark = { e.unmark with state := .watch, reason := some .alarm }
  claim : e.state = .claimPending → absent (.claim e.key) t

theorem Withdrawn.of_frame (h : Withdrawn e slot s) (hf : QueueFrame s t)
    (ha : absent (.claim e.key) s → absent (.claim e.key) t) : Withdrawn e slot t where
  entry := by
    obtain ⟨e', he', hu⟩ := h.entry
    obtain ⟨e'', he'', hu'⟩ := entry_of_frame hf he'
    exact ⟨e'', he'', hu'.trans hu⟩
  claim hs := ha (h.claim hs)

theorem Withdrawn.congr (h : Withdrawn e slot s) (ho : t.ofb.slots = s.ofb.slots) (hn : t.nts.outbox = s.nts.outbox)
    (hc : t.cau = s.cau) : Withdrawn e slot t where
  entry := ho ▸ h.entry
  claim hs := absent_congr ho hn hc (h.claim hs)

theorem toWatch_of_watch {x : BoardEntry} (r : Reason) (h : x.state = .watch) : x.toWatch r = x := by
  simp [BoardEntry.toWatch, h]

theorem toWatch_unmark {x : BoardEntry} (r : Reason) (h : x.state = .opened ∨ x.state = .claimPending) :
    (x.toWatch r).unmark = { x.unmark with state := .watch, reason := some r } := by
  rcases h with h | h <;> simp [BoardEntry.toWatch, BoardEntry.unmark, h]

/-- The conversion for the alarm withdraws an open offer, and leaves one withdrawn before. -/
theorem convertBoard_withdraws (he : slotGet s.ofb.slots slot = some e) (hs : e.state = .opened ∨ e.state = .claimPending) :
    Withdrawn e slot (s.convertBoard .alarm) where
  entry := by
    obtain ⟨e', he', hu⟩ := convertBoard_entry .alarm he
    exact ⟨e', he', hu.trans (toWatch_unmark _ hs)⟩
  claim := convertBoard_absent .alarm he

theorem Withdrawn.convertBoard (h : Withdrawn e slot s) : Withdrawn e slot (s.convertBoard .alarm) where
  entry := by
    obtain ⟨x, hx, hu⟩ := h.entry
    have hw : x.state = .watch := (congrArg BoardEntry.state hu : x.unmark.state = _)
    obtain ⟨e', he', hu'⟩ := convertBoard_entry .alarm hx
    rw [toWatch_of_watch _ hw] at hu'
    exact ⟨e', he', hu'.trans hu⟩
  claim hs := absent_removeClaims _ (absent_mapBoard _ (h.claim hs))

/-- The recomputation for the alarm leaves an open offer as it is, or withdraws it. -/
theorem recompute_withdraws (ha : s.ret.alarm ≠ .quiet) (he : slotGet s.ofb.slots slot = some e)
    (hs : e.state = .opened ∨ e.state = .claimPending) :
    slotGet s.recompute.ofb.slots slot = some e ∨ Withdrawn e slot s.recompute := by
  have hnow := availNow_alarm ha
  unfold State.recompute State.boardAvail
  dsimp only
  split
  · exact .inl he
  · split
    · refine .inr (Withdrawn.congr (s := ((s.setFre _).setOfb _).convertBoard _) ?_ rfl rfl rfl)
      rw [hnow]
      exact convertBoard_withdraws (s := (s.setFre _).setOfb _) he hs
    · exact .inl he

/-- The entry that holds the job is another one. -/
theorem Withdrawn.put {x : BoardEntry} {i : Nat} (h : Withdrawn e slot s) (hi : i ≠ slot) (hx : x.state ≠ .claimPending) :
    Withdrawn e slot (s.putEntry i x) where
  entry := by
    obtain ⟨e', he', hu⟩ := h.entry
    exact ⟨e', (slotGet_slotPut_ne _ _ _ _ hi).trans he', hu⟩
  claim hs := by
    obtain ⟨hm, hq⟩ := h.claim hs
    exact ⟨fun y hy hyk => (mem_slotPut _ _ _ _ hy).elim (fun h => h ▸ hx) (fun h => hm y h hyk), hq⟩

theorem Withdrawn.setFare (f : FareState) (h : Withdrawn e slot s) (ha : s.ret.alarm ≠ .quiet) (hf : s.fre.avail = some .alarm) :
    Withdrawn e slot (s.setFare f) := by
  have hrec : s.setFare f = (s.setRet { s.ret with fare := f }).idleUpdate := by
    rw [State.setFare, idleUpdate_eq]
    exact recompute_alarm ha hf
  rw [hrec, idleUpdate_eq]
  exact h.congr rfl rfl rfl

theorem Withdrawn.fareReleased (h : Withdrawn e slot s) (ha : s.ret.alarm ≠ .quiet) (hf : s.fre.avail = some .alarm) :
    Withdrawn e slot s.fareReleased := by
  unfold State.fareReleased
  split
  · exact h.setFare _ ha hf
  · exact h

theorem Withdrawn.startRepeat (h : Withdrawn e slot s) : Withdrawn e slot s.startRepeat := h.congr rfl rfl rfl

theorem Withdrawn.giveUp {x x' : BoardEntry} {i : Nat} (h : Withdrawn e slot s) (hi : i ≠ slot) (hx : x'.state ≠ .claimPending)
    (ha : s.ret.alarm ≠ .quiet) (hf : s.fre.avail = some .alarm) : Withdrawn e slot (giveUp s i x x') := by
  have hq := giveUp_queue_frame (s := s) (slot := i) (e := x) (e' := x')
  have hput := (h.put hi hx).of_frame hq fun habs => by
    split
    · exact absent_offer (fun hr => nomatch hr) (absent_removeOwn _ habs)
    · exact absent_removeOwn _ habs
  exact hput.fareReleased (by rw [hq.ret]; exact ha) (by rw [hq.fre]; exact hf)

theorem Withdrawn.alarmBoard (h : Withdrawn e slot (s.convertBoard .alarm)) (ha : s.ret.alarm ≠ .quiet)
    (hf : s.fre.avail = some .alarm) : Withdrawn e slot s.alarmBoard := by
  have hconv : (s.convertBoard .alarm).fre.avail = some .alarm := by rw [convertBoard_fre, hf]
  have hal : (s.convertBoard .alarm).ret.alarm = s.ret.alarm := by rw [(convertBoard_frame s .alarm).ret]
  unfold State.alarmBoard
  dsimp only
  split
  · next i x hx =>
    refine h.giveUp (fun hi => ?_) nofun (by rw [hal]; exact ha) hconv
    obtain ⟨e', he', hu⟩ := h.entry
    obtain ⟨hslot, hjob⟩ := slotFind_zero _ _ _ _ hx
    rw [hi, he'] at hslot
    obtain rfl := Option.some.inj hslot
    have hw : e'.state = .watch := (congrArg BoardEntry.state hu : e'.unmark.state = _)
    rw [hw] at hjob
    cases hjob
  · exact h

/-- Every open offer is withdrawn in the act (R78, R104). -/
theorem enterAlerting_withdraws (he : slotGet s.ofb.slots slot = some e) (hs : e.state = .opened ∨ e.state = .claimPending) :
    Withdrawn e slot s.enterAlerting := by
  obtain ⟨hofb, -, -, -, hal⟩ := alarmFare_rest (alerted s)
  have halarm : (alerted s).alarmFare.ret.alarm ≠ .quiet := by rw [hal]; nofun
  have hnotice : (alerted s).alarmNotice.ret.alarm ≠ .quiet := by
    rw [State.alarmNotice, (recompute_frame _).ret]
    exact halarm
  have hheld : (alerted s).alarmNotice.fre.avail = some .alarm := by
    rw [State.alarmNotice, recompute_avail_now]
    exact congrArg some (availNow_alarm halarm)
  have hconv : Withdrawn e slot ((alerted s).alarmNotice.convertBoard .alarm) := by
    rcases recompute_withdraws halarm (by rw [hofb]; exact he) hs with h | h
    · exact convertBoard_withdraws h hs
    · exact h.convertBoard
  have htold : Withdrawn e slot (toldAlerting s) := by
    refine (hconv.alarmBoard hnotice hheld).congr ?_ ?_ ?_ <;> unfold toldAlerting <;> rw [flashUpdate_eq] <;> rfl
  rw [enterAlerting_eq]
  split
  · exact (htold.of_frame (offer_frame _ .alarm) fun habs => absent_offer (fun hr => nomatch hr) habs).startRepeat
  · exact htold

end

section
variable {s a : State} {c : Instr}

/-! ## The rows that enter ALERTING (R165, R166) -/

theorem exec_holdTimer {h : Nat} (ha : s.ret.alarm = .arming) (hp : s.emu.panicLow = true) (hh : s.emu.holdAt = some h)
    (hle : h ≤ s.now) : exec .holdTimer s = .next s.enterAlerting := by
  show execHoldTimer s = _
  rw [execHoldTimer, ha, hp, hh, due_some hle]
  rfl

theorem exec_raiseAlarm (hr : s.ready .run) (ha : s.ret.alarm = .quiet) :
    exec .raiseAlarm s = .next (s.enterAlerting.answering s false (0 :: put8 s.enterAlerting.ret.serial)) := by
  refine operating_exec rfl rfl blind_raiseAlarm hr ?_
  rw [actRaiseAlarm, ha]
  rfl

theorem flash_sign (ha : a.ret.alarm = .alerting) : flashNext a = if (match a.cpt.config with
    | some st => st.covertSign
    | none => false) then (if a.emu.flash.isSome then a.emu.flash else some ⟨true, a.now + 500 * ms⟩) else none := by
  cases hst : a.cpt.config with
  | none =>
    refine flashNext_none ?_
    rw [State.flashWanted, hst]
    exact Bool.and_false _
  | some st => exact flashNext_open hst (.inl ha)

theorem answering_ofb (u s : State) (c : Bool) (l : List Byte) : (u.answering s c l).ofb = u.ofb := rfl

theorem answering_fre (u s : State) (c : Bool) (l : List Byte) : (u.answering s c l).fre = u.fre := rfl

/-- The outcome of either row, from the frame of what the fare engine and the board made of the entry. -/
theorem alerting_entered (hc : (c = .raiseAlarm ∧ s.ready .run ∧ s.ret.alarm = .quiet)
      ∨ (c = .holdTimer ∧ s.ret.alarm = .arming ∧ s.emu.panicLow = true ∧ ∃ h, s.emu.holdAt = some h ∧ h ≤ s.now)) :
    ∃ t, exec c s = .next t ∧ t.fre.avail = some .alarm ∧ t.cau = s.enterAlerting.cau ∧ t.ofb = s.enterAlerting.ofb
      ∧ ∀ a, a.ret.serial = next8 s.ret.serial → AvailFrame a s.enterAlerting →
        AvailFrame (if c = .raiseAlarm then a.answering s false (0 :: put8 (next8 s.ret.serial)) else a) t := by
  rcases hc with ⟨rfl, hr, ha⟩ | ⟨rfl, ha, hp, h, hh, hle⟩
  · refine ⟨_, exec_raiseAlarm hr ha, ?_, answering_cau _ _ _ _, answering_ofb _ _ _ _, fun a hser hf => ?_⟩
    · rw [answering_fre, enterAlerting_alarm]
    rw [if_pos rfl, hf.ret, hser]
    exact hf.answering _ _ _
  · refine ⟨_, exec_holdTimer ha hp hh hle, enterAlerting_alarm s, rfl, rfl, fun a _ hf => ?_⟩
    rw [if_neg nofun]
    exact hf

end

/-- Settles O37: the notice to the fare engine, the board's conversion and the job given up, each in a frame of its own. -/
theorem alertingIsEnteredInOneAct : Obligations.AlertingIsEnteredInOneAct := by
  refine ⟨fun s hr ha => operating_exec rfl rfl blind_raiseAlarm hr ?_, fun s c hc => ?_⟩
  · rw [actRaiseAlarm, beq_eq_false_iff_ne.mpr ha]
    rfl
  · intro serial sign emu answered entered
    obtain ⟨t, hx, havail, hcau, hofb, hframe⟩ := alerting_entered hc
    have hentered (f : Fre) (o : Ofb) (ret : Retained)
        (h : AvailFrame ({ s with fre := f, ofb := o }.withRet { ret with serial := serial, alarm := .alerting, covert := false })
          (alerted s).alarmNotice.alarmBoard) : entered { s with fre := f, ofb := o } ret := by
      have hf := enterAlerting_frame h
      unfold enteredEmu at hf
      rw [flash_sign rfl] at hf
      exact ⟨t, hx, havail, hframe _ rfl hf⟩
    refine ⟨fun hf hj => ?_, fun x hf hj hx => ?_, fun i e hj hf => ?_, fun hf hj hroom hq hair hno => ?_,
      t, hx, fun slot e he hs => ?_⟩
    · refine hentered s.fre s.ofb s.ret ?_
      have hnotice : AvailFrame (alerted s) (alerted s).alarmNotice := by
        rw [State.alarmNotice, alarmFare_stands hf]
        exact recompute_frame _
      rw [alarmBoard_idle hnotice hj]
      exact hnotice.trans (convertBoard_frame _ _)
    · intro y hlim
      refine hentered { s.fre with secondAt := some (s.now + 1000 * ms) } s.ofb { s.ret with fare := .held, trip := some y } ?_
      have hnotice : AvailFrame _ (alerted s).alarmNotice := recompute_frame _
      rw [alarmFare_hired hf hx, setEarned_below hlim] at hnotice
      rw [alarmBoard_idle hnotice hj]
      exact hnotice.trans (convertBoard_frame _ _)
    · refine hentered { s.fre with idleSince := s.idleFrom .vacant s.fre.driver } _ { s.ret with fare := .vacant } ?_
      have hnotice : AvailFrame (alerted s) (alerted s).alarmNotice := by
        rw [State.alarmNotice, alarmFare_stands (by rw [hf]; nofun)]
        exact recompute_frame _
      exact alarmBoard_job hnotice hj hf
    · exact ⟨t, hx, hcau.trans (enterAlerting_queue hf hj hroom hno hq hair)⟩
    · have hw := enterAlerting_withdraws he hs
      rw [hofb, hcau]
      exact ⟨hw.entry, fun hp => (hw.claim hp).2⟩

end Sys2Proof
end

section
/-! PROOFS. Every command is answered, and a refused one changes nothing (O46). -/

namespace Sys2Proof

open Sys2Proof.Machine

/-! ## The answer of a decoded command (R183 to R185) -/

section
variable {s : State} {i : Instr} {g : CmdGroup} {code : Byte} {params : List Byte} {act : Act}

/-- The part state admits the group, and the act answers; or the answer is STATE. -/
theorem answerOf_answers (h : actOf code.toNat params = some (g, act)) :
    Answers (Keeps (fun _ => True) (fun _ => True) True s) s (answerOf g act s) := by
  unfold answerOf
  split
  · next hg => exact actOf_keeps h hg
  · exact .barred

theorem code_le_nine (c : Completion) : c.code.toNat ≤ 9 := by cases c <;> decide

/-- An answer is OK with its bytes, or a code alone with the state unchanged (R184). -/
theorem answer_shape {P : State → Prop} {r : State × List Byte} (h : Answers P s r) : ∃ u c rest, r = (u, c :: rest)
    ∧ c.toNat ≤ 9 ∧ (c ≠ 0 → rest = [] ∧ u = s) := by
  cases h with
  | done t l _ => exact ⟨t, 0, l, rfl, by decide, fun h => absurd rfl h⟩
  | refuse c _ => exact ⟨s, c.code, [], rfl, code_le_nine c, fun _ => ⟨rfl, rfl⟩⟩

/-- A row that is not RESTART samples TPROT at most. -/
theorem sampled_pins (i : Instr) (s : State) (hi : ∀ low, i ≠ .restart low) : ∃ p, i.sampled s = { s with pins := p } := by
  cases i with
  | restart low => exact absurd rfl (hi low)
  | _ => exact ⟨_, rfl⟩

theorem answering_sampled (u s : State) (p : Pins) (c : Bool) (l : List Byte) :
    u.answering { s with pins := p } c l = u.answering s c l := rfl

theorem rowIs.answers (h : rowIs i g code params act) (hp : s.powered = true) (hr : s.cpt.phase = .ready)
    (hi : ∀ low, i ≠ .restart low) : exec i s = .next ((answerOf g act (i.sampled s)).1.answering s (!params.isEmpty)
      (answerOf g act (i.sampled s)).2) := by
  obtain ⟨p, hs⟩ := sampled_pins i s hi
  rw [h.run, hs, hostCommand_answering (actOf_blind h.decoded) (s := { s with pins := p }) hp hr, answering_sampled]

theorem not_accepts (h : (s.cpt.part = .run ∧ g = .config) ∨ (s.cpt.part = .config ∧ g = .operating)) :
    answerOf g act s = refuse .state s := by
  rcases h with ⟨h, rfl⟩ | ⟨h, rfl⟩ <;> rw [answerOf, h] <;> rfl

end

/-! ## Parameters out of range, and slots without a record (R184) -/

section
variable {s : State} {b c d : Byte} {w v : BitVec 16} {m : BitVec 24} {l : List Byte}

theorem range_first {p : Prop} [Decidable p] {x : State × List Byte} (h : p) :
    (if p then refuse .range s else x) = (s, [3]) := if_pos h

theorem setPosition_range {p : Point} {n : Nat} (h : 2 ≤ n) : actSetPosition p n s = (s, [3]) := by
  rw [actSetPosition, if_neg (by simp; omega), if_neg (by simp; omega)]
  rfl

theorem setDriver_range {n : Nat} (h : 3 ≤ n) : actSetDriver n s = (s, [3]) := by
  rw [actSetDriver, ofCode_none h]
  rfl

theorem readOffer_range {n : Nat} (h : 16 ≤ n) (h' : n ≤ 254) : actReadOffer n s = (s, [3]) := by
  rw [actReadOffer, if_neg (by simp; omega)]
  exact range_first (by omega)

theorem readOutbox_range {n : Nat} (h : 4 ≤ n) (h' : n ≤ 254) : actReadOutbox n s = (s, [3]) := by
  rw [actReadOutbox, if_neg (by simp; omega)]
  exact range_first (by omega)

theorem readAlarm_range {n : Nat} (h : 4 ≤ n) (h' : n ≤ 254) : actReadAlarm n s = (s, [3]) := by
  rw [actReadAlarm, if_neg (by simp; omega)]
  exact range_first (by omega)

theorem stop_barred (h1 : s.ret.fare ≠ .hired) (h2 : s.ret.fare ≠ .held) : actStop s = (s, [2]) := by
  unfold actStop
  split
  · next h _ => exact absurd h h1
  · next h _ => exact absurd h h2
  · rfl

theorem resume_barred (h : s.ret.fare ≠ .total) : actResume s = (s, [2]) := by
  rw [actResume, if_neg (by simpa using h)]
  rfl

theorem settle_barred {n : Nat} (hn : n ≤ 2) (h : s.ret.fare ≠ .total) : actSettle n s = (s, [2]) := by
  unfold actSettle
  rw [if_neg (by omega)]
  split
  · next h' _ => exact absurd h' h
  · rfl

/-- What step 1 of R156 asks of the bytes of a POST-NOTE. -/
theorem postOk_iff : s.postOk (postedOf l) l.length = true ↔ l.length = 8 + 2 * ((at8 l 7 + 1) / 2) ∧ 1 ≤ at8 l 7 ∧ at8 l 7 ≤ 40
    ∧ 1 ≤ at16 l 0 ∧ at16 l 0 ≤ 4095 ∧ at16 l 0 ≠ s.ownId ∧ at8 l 2 < 8
    ∧ ((at8 l 2).testBit 2 = true → 1 ≤ at16 l 3 ∧ at16 l 3 ≤ 31)
    ∧ ∀ x ∈ (l.drop 8).take (at8 l 7), 0x20 ≤ x.toNat ∧ x.toNat ≤ 0x7E := by
  have href : (!(postedOf l).hasRef || isBase (postedOf l).base) = true
      ↔ ((at8 l 2).testBit 2 = true → 1 ≤ at16 l 3 ∧ at16 l 3 ≤ 31) := by
    rw [Bool.or_eq_true, Bool.not_eq_true', ← Bool.not_eq_true, ← imp_iff_not_or]
    refine imp_congr_right fun _ => ?_
    rw [isBase, Bool.and_eq_true]
    exact and_congr decide_eq_true_iff decide_eq_true_iff
  simp only [State.postOk, Bool.and_eq_true, href, beq_iff_eq, bne_iff_ne, decide_eq_true_iff, List.all_eq_true, printable]
  simp only [postedOf, textWords, and_assoc]

theorem postNote_range (h : ¬ s.postOk (postedOf l) l.length = true) : actPostNote l s = (s, [3]) :=
  if_pos (by simpa using h)

/-- A byte sequence with one of the faults that step 1 of R156 names. -/
theorem postNote_faults (h : l.length ≠ 8 + 2 * ((at8 l 7 + 1) / 2) ∨ at8 l 7 = 0 ∨ 40 < at8 l 7
    ∨ at16 l 0 = 0 ∨ 4095 < at16 l 0 ∨ at16 l 0 = s.ownId ∨ 8 ≤ at8 l 2
    ∨ ((at8 l 2).testBit 2 = true ∧ (at16 l 3 = 0 ∨ 31 < at16 l 3))
    ∨ (∃ x ∈ (l.drop 8).take (at8 l 7), x.toNat < 0x20 ∨ 0x7E < x.toNat)) : actPostNote l s = (s, [3]) := by
  refine postNote_range fun hok => ?_
  obtain ⟨hlen, hn, hn', hd, hd', hown, hfl, href, htext⟩ := postOk_iff.1 hok
  rcases h with h | h | h | h | h | h | h | ⟨h, hb⟩ | ⟨x, hx, h⟩
  · exact h hlen
  · omega
  · omega
  · omega
  · omega
  · exact hown h
  · omega
  · have := href h
    omega
  · have := htext x hx
    omega

theorem readPeer_absent {n : Nat} (h : n < 32) (hn : slotGet s.ppu.peers n = none) : actReadPeer n s = (s, [6]) := by
  rw [actReadPeer, if_neg (by omega), hn]
  rfl

theorem readOffer_absent {n : Nat} (h : n < 16) (hn : slotGet s.ofb.slots n = none) : actReadOffer n s = (s, [6]) := by
  rw [actReadOffer, if_neg (by simp; omega), if_neg (by omega), hn]
  rfl

theorem acceptOffer_absent {n : Nat} (h : n < 16) (hn : slotGet s.ofb.slots n = none) : actAcceptOffer n s = (s, [6]) := by
  rw [actAcceptOffer, if_neg (by omega), hn]
  rfl

theorem passOffer_absent {n : Nat} (h : n < 16) (hn : slotGet s.ofb.slots n = none) : actPassOffer n s = (s, [6]) := by
  rw [actPassOffer, if_neg (by omega), hn]
  rfl

theorem readTrip_absent {n : Nat} (h : n < 16) (hn : s.ret.tripLog.length ≤ n) : actReadTrip n s = (s, [6]) := by
  rw [actReadTrip, if_neg (by omega), List.getElem?_eq_none hn]
  rfl

theorem markRead_absent {n : Nat} (h : n < 12) (hn : slotGet s.nts.inbox n = none) : actMarkRead n s = (s, [6]) := by
  rw [actMarkRead, if_neg (by omega), hn]
  rfl

theorem deleteNote_absent {n : Nat} (h : n < 12) (hn : slotGet s.nts.inbox n = none) : actDeleteNote n s = (s, [6]) := by
  rw [actDeleteNote, if_neg (by omega), hn]
  rfl

theorem readNote_absent {n word : Nat} (h : n < 12) (hw : word < 20) (hn : slotGet s.nts.inbox n = none) :
    actReadNote n word s = (s, [6]) := by
  rw [actReadNote, if_neg (by simp only [Bool.or_eq_true, decide_eq_true_iff]; omega), hn]
  rfl

theorem readOutbox_absent {n : Nat} (h : n < 4) (hn : slotGet s.nts.outbox n = none) : actReadOutbox n s = (s, [6]) := by
  rw [actReadOutbox, if_neg (by simp; omega), if_neg (by omega), hn]
  rfl

theorem readAlarm_absent {n : Nat} (h : n < 4) (hn : slotGet s.emu.table n = none) : actReadAlarm n s = (s, [6]) := by
  rw [actReadAlarm, if_neg (by simp; omega), if_neg (by omega), hn]
  rfl

end

/-- Settles O46: a decoded command answers, and its tests are made before anything changes. -/
theorem refusedCommandsChangeNothing : Obligations.RefusedCommandsChangeNothing := by
  refine ⟨fun i s g code params hp hr hi hn => ?_, fun s b c w v m l hr => ?_⟩
  · obtain ⟨act, h⟩ := rowIs_of_command hi hn
    have hx := h.answers hp hr hn
    refine ⟨?_, fun hbar => ?_⟩
    · obtain ⟨u, c, rest, heq, hc, hne⟩ := answer_shape (answerOf_answers (s := i.sampled s) h.decoded)
      rw [heq] at hx
      exact ⟨u, c, rest, hx, hc, hne⟩
    · obtain ⟨p, hs⟩ := sampled_pins i s hn
      rw [not_accepts (by rw [hs]; exact hbar)] at hx
      exact hx
  · intro refused
    refine ⟨fun h => ⟨?_, ?_⟩, fun h => ⟨?_, ?_⟩, fun h => ?_, fun h => ?_, fun h => ?_, fun h => ?_, fun h => ⟨?_, ?_, ?_, fun h' => ?_⟩,
      fun h => ?_, fun h => ⟨?_, ?_⟩, fun h => ?_, fun d h => ?_, fun h h' => ⟨?_, ?_⟩, fun h => ?_, fun h hn => ?_,
      fun h hn => ⟨?_, ?_, ?_⟩, fun h hn => ?_, fun h hn => ⟨?_, ?_, fun h' => ?_⟩, fun h hn => ?_, fun h hn => ?_, fun h1 h2 => ?_,
      fun h => ⟨?_, fun h' => ?_⟩⟩
    · exact operating_exec rfl rfl (blind_setPosition _ _) hr (setPosition_range h)
    · exact operating_exec rfl rfl (blind_releaseJob _) hr (range_first (by omega))
    · exact operating_exec rfl rfl (blind_setDriver _) hr (setDriver_range h)
    · exact operating_exec rfl rfl (blind_settle _) hr (range_first (by omega))
    · exact operating_exec rfl rfl (blind_hire _) hr (range_first (by simp; omega))
    · exact operating_exec rfl rfl (blind_addExtra _) hr (range_first (by simp; omega))
    · exact operating_exec rfl rfl (blind_cancelAlarm _) hr (range_first (by omega))
    · exact operating_exec rfl rfl (blind_readPeer _) hr (range_first (by omega))
    · exact operating_exec rfl rfl (blind_acceptOffer _) hr (range_first (by omega))
    · exact operating_exec rfl rfl (blind_passOffer _) hr (range_first (by omega))
    · exact operating_exec rfl rfl (blind_readTrip _) hr (range_first (by omega))
    · exact operating_exec rfl rfl (blind_readOffer _) hr (readOffer_range h h')
    · exact operating_exec rfl rfl (blind_scanOffers _ _ _ _) hr (range_first (by simp only [Bool.or_eq_true, decide_eq_true_iff]; omega))
    · exact operating_exec rfl rfl (blind_markRead _) hr (range_first (by omega))
    · exact operating_exec rfl rfl (blind_deleteNote _) hr (range_first (by omega))
    · exact operating_exec rfl rfl (blind_readNote _ _) hr (range_first (by simp only [Bool.or_eq_true, decide_eq_true_iff]; omega))
    · exact operating_exec rfl rfl (blind_scanNotes _ _ _ _) hr (range_first (by simp only [Bool.or_eq_true, decide_eq_true_iff]; omega))
    · exact operating_exec rfl rfl (blind_readOutbox _) hr (readOutbox_range h h')
    · exact operating_exec rfl rfl (blind_readAlarm _) hr (readAlarm_range h h')
    · exact operating_exec rfl rfl (blind_postNote _) hr (postNote_faults h)
    · exact operating_exec rfl rfl (blind_readPeer _) hr (readPeer_absent h hn)
    · exact operating_exec rfl rfl (blind_readOffer _) hr (readOffer_absent h hn)
    · exact operating_exec rfl rfl (blind_acceptOffer _) hr (acceptOffer_absent h hn)
    · exact operating_exec rfl rfl (blind_passOffer _) hr (passOffer_absent h hn)
    · exact operating_exec rfl rfl (blind_readTrip _) hr (readTrip_absent h hn)
    · exact operating_exec rfl rfl (blind_markRead _) hr (markRead_absent h hn)
    · exact operating_exec rfl rfl (blind_deleteNote _) hr (deleteNote_absent h hn)
    · exact operating_exec rfl rfl (blind_readNote _ _) hr (readNote_absent h h' hn)
    · exact operating_exec rfl rfl (blind_readOutbox _) hr (readOutbox_absent h hn)
    · exact operating_exec rfl rfl (blind_readAlarm _) hr (readAlarm_absent h hn)
    · exact operating_exec rfl rfl blind_stop hr (stop_barred h1 h2)
    · exact operating_exec rfl rfl blind_resume hr (resume_barred h)
    · exact operating_exec rfl rfl (blind_settle _) hr (settle_barred h' h)

end Sys2Proof
end

section
/-! PROOFS. The reading commands answer the bytes of their rules and change nothing (O51). -/

namespace Sys2Proof

open Sys2Proof.Machine

/-! ## The fields of a result -/

theorem flagBits_lt (l : List Bool) : flagBits l < 2 ^ l.length := by
  induction l with
  | nil => decide
  | cons b l ih =>
    have hb := b.toNat_le
    simp only [flagBits, List.length_cons, Nat.pow_succ]
    omega

/-- A flags byte of at most eight flags needs no saturation. -/
theorem putFlags_eq (l : List Bool) (h : l.length ≤ 8) : putFlags l = [byte (flagBits l)] := by
  have hl := flagBits_lt l
  have hp := Nat.pow_le_pow_right (n := 2) (by decide) h
  rw [putFlags, put8, Nat.min_eq_left (by omega)]

theorem packText_length (t : List Byte) : (packText t).length = 2 * ((t.length + 1) / 2) := by
  unfold packText
  split
  · simp only [List.length_append, List.length_singleton]
    omega
  · omega

theorem flatMap_length_of {α : Type} (f : α → List Byte) (n : Nat) (hf : ∀ x, (f x).length = n) (l : List α) :
    (l.flatMap f).length = n * l.length := by
  induction l with
  | nil => rfl
  | cons x l ih => rw [List.flatMap_cons, List.length_append, ih, hf, List.length_cons, Nat.mul_succ, Nat.add_comm]

theorem roleCode_eq (id : Nat) : roleCode id = if 1 ≤ id ∧ id ≤ 31 then 0 else 1 := by
  simp only [roleCode, isBase, Bool.and_eq_true, decide_eq_true_eq]

/-! ## Scans (R81, R154) -/

section
variable {α : Type} {l : List (Option α)} {start : Nat} {p : α → Bool}

theorem scanSlots_none (h : ∀ i ∈ scanOrder start l.length, ∀ x, slotGet l i = some x → ¬ p x = true) :
    scanSlots l start p = none := by
  rw [scanSlots, List.findSome?_eq_none_iff]
  intro i hi
  cases hx : slotGet l i with
  | none => rfl
  | some x => rw [Option.filter_some_neg (by simpa using h i hi x hx), Option.map_none]

theorem scanSlots_some {pre post : List Nat} {i : Nat} {x : α} (ho : scanOrder start l.length = pre ++ i :: post)
    (hi : slotGet l i = some x) (hx : p x = true) (hpre : ∀ j ∈ pre, ∀ y, slotGet l j = some y → ¬ p y = true) :
    scanSlots l start p = some (i, x) := by
  have hnone : pre.findSome? (fun i => ((slotGet l i).filter p).map fun x => (i, x)) = none := by
    rw [List.findSome?_eq_none_iff]
    intro j hj
    cases hy : slotGet l j with
    | none => rfl
    | some y => rw [Option.filter_some_neg (by simpa using hpre j hj y hy), Option.map_none]
  rw [scanSlots, ho, List.findSome?_append, hnone, Option.none_or, List.findSome?_cons_of_isSome]
  · rw [hi, Option.filter_some_pos hx, Option.map_some]
  · rw [hi, Option.filter_some_pos hx]
    rfl

end

theorem scanned_iff (e : BoardEntry) (m : BitVec 24) (w z : Nat) : e.scanned m w z = true
    ↔ m.getLsbD e.state.code = true ∧ (w = 1023 ∨ ∃ n, e.score = some n ∧ n ≤ w) ∧ (z = 255 ∨ z = e.zone) := by
  rw [BoardEntry.scanned, Bool.and_eq_true, Bool.and_eq_true, and_assoc, Bool.or_eq_true, Bool.or_eq_true, beq_iff_eq,
    beq_iff_eq, beq_iff_eq]
  cases e.score with
  | none => simp
  | some n => simp

theorem noteScanned_iff (r : InNote) (m : Byte) (u o : Nat) : r.scanned m.toNat u o = true
    ↔ m.getLsbD r.state.code = true ∧ (u = 0 ∨ r.urgent = true) ∧ (o = 0 ∨ o = r.origin) := by
  rw [InNote.scanned, Bool.and_eq_true, Bool.and_eq_true, and_assoc, Bool.or_eq_true, Bool.or_eq_true, beq_iff_eq,
    beq_iff_eq, beq_iff_eq]
  rfl

/-! ## The acts that read -/

section
variable {s : State}

/-- The answer of a reading command: OK, the bytes of its rule, and their number. -/
theorem reads_of {i : Instr} {c : Bool} {result bytes : List Byte} {n : Nat}
    (h : exec i s = .next (s.answering s c (0 :: result))) (hb : result = bytes) (hl : result.length + 1 = n) :
    exec i s = .next (s.answering s c (0 :: bytes)) ∧ (0 :: bytes).length = n := by
  subst hb
  exact ⟨h, hl⟩

theorem readPeer_ok {n : Nat} {p : Peer} (h : n ≤ 31) (hp : slotGet s.ppu.peers n = some p) :
    actReadPeer n s = (s, 0 :: s.peerResult p) := by
  rw [actReadPeer, if_neg (by omega), hp]
  rfl

theorem readOffer_ok {n : Nat} {e : BoardEntry} (h : n ≤ 15) (he : slotGet s.ofb.slots n = some e) :
    actReadOffer n s = (s, 0 :: s.offerResult n e) := by
  rw [actReadOffer, if_neg (by simp; omega), if_neg (by omega), he]
  rfl

theorem readTrip_ok {n : Nat} {r : TripRecord} (h : n ≤ 15) (hr : s.ret.tripLog[n]? = some r) :
    actReadTrip n s = (s, 0 :: r.result) := by
  rw [actReadTrip, if_neg (by omega), hr]
  rfl

theorem readNote_ok {n w : Nat} {r : InNote} (h : n ≤ 11) (hw : w ≤ 19) (hr : slotGet s.nts.inbox n = some r) :
    actReadNote n w s = (s, 0 :: s.noteResult r w) := by
  rw [actReadNote, if_neg (by simp only [Bool.or_eq_true, decide_eq_true_iff]; omega), hr]
  rfl

theorem readOutbox_ok {n : Nat} {r : OutNote} (h : n ≤ 3) (hr : slotGet s.nts.outbox n = some r) :
    actReadOutbox n s = (s, 0 :: s.outResult r) := by
  rw [actReadOutbox, if_neg (by simp; omega), if_neg (by omega), hr]
  rfl

theorem readAlarm_ok {n : Nat} {a : AlarmEntry} (h : n ≤ 3) (ha : slotGet s.emu.table n = some a) :
    actReadAlarm n s = (s, 0 :: s.alarmResult n a) := by
  rw [actReadAlarm, if_neg (by simp; omega), if_neg (by omega), ha]
  rfl

theorem scanOffers_eq {b w z : Nat} {m : BitVec 24} (hb : b ≤ 15) (hm : m.toNat < 2 ^ 17) (hw : w ≤ 1023) :
    actScanOffers b m w z s = ((scanSlots s.ofb.slots b (·.scanned m w z)).map fun r =>
      (s, (0 : Byte) :: s.offerResult r.1 r.2)).getD (s, [6]) := by
  rw [actScanOffers, if_neg (by simp only [Bool.or_eq_true, decide_eq_true_iff]; omega)]
  cases scanSlots s.ofb.slots b (·.scanned m w z) <;> rfl

theorem scanNotes_eq {b m u o : Nat} (hb : b ≤ 11) (hm : m ≤ 7) (hu : u ≤ 1) (ho : o ≤ 4094) :
    actScanNotes b m u o s = ((scanSlots s.nts.inbox b (·.scanned m u o)).map fun r =>
      (s, (0 : Byte) :: (put8 r.1 ++ s.noteHead r.2 0 0))).getD (s, [6]) := by
  rw [actScanNotes, if_neg (by simp only [Bool.or_eq_true, decide_eq_true_iff]; omega)]
  cases scanSlots s.nts.inbox b (·.scanned m u o) <;> rfl

/-- The outcome of a command that any part state accepts, from that of its act. -/
theorem any_exec {t u : State} {i : Instr} {code : Byte} {act : Act} {result : List Byte}
    (hx : exec i t = .next (s.hostCommand code [] .any act)) (hb : blind act) (hp : s.powered = true)
    (hr : s.cpt.phase = .ready) (ha : act s = (u, result)) : exec i t = .next (u.answering s false result) := by
  have hany : answerOf .any act s = act s := by
    unfold answerOf
    cases s.cpt.part <;> rfl
  rw [hx, hostCommand_answering hb hp hr, hany, ha]
  rfl

theorem statusResult_eq : s.statusResult = [byte s.cpt.part.code, byte (flagBits [s.cpt.config.isSome, s.cpt.overflow,
    s.pins.tprotOpen, s.cau.blocked, s.ret.retainedLost])] ++ put8 s.cpt.events.length ++ put16 s.ownId
    ++ put8 s.ownFleet := by
  rewrite [State.statusResult, putFlags_eq]
  · cases s.cpt.part <;> rfl
  · exact Nat.le_of_ble_eq_true rfl

theorem statsResult_eq (x : Stats) : x.result = [x.good, x.checkFailures, x.truncated, x.malformed, x.copies, x.relaysSent,
    x.relaysCancelled, x.relaysDropped, x.ownRefused, x.idClashes].flatMap put16 := by
  simp only [Stats.result, List.flatMap_cons, List.flatMap_nil, List.append_nil, List.append_assoc]

theorem shiftResult_eq (x : ShiftTotals) : x.result = [x.trips, x.fare, x.extras, x.surcharges, x.cash, x.card, x.account,
    x.hiredDist, x.totalDist, x.hiredS].flatMap put32 := by
  simp only [ShiftTotals.result, List.flatMap_cons, List.flatMap_nil, List.append_nil, List.append_assoc]

theorem lifeResult_eq (x : LifeTotals) : x.result = [x.trips, x.fare, x.hiredDist, x.totalDist].flatMap put32 := by
  simp only [LifeTotals.result, List.flatMap_cons, List.flatMap_nil, List.append_nil, List.append_assoc]

theorem ownAlarmResult_covert (h : s.ret.covert = true) :
    s.ownAlarmResult = [0] ++ put8 s.ret.serial ++ [0, 0, 0, 0] := by
  simp only [State.ownAlarmResult, State.visibleAlarm, h, if_true, Option.map_none]
  rewrite [List.append_assoc, List.append_assoc, List.append_assoc, List.append_assoc]
  rfl

theorem ownAlarmResult_open (h : s.ret.covert = false) :
    s.ownAlarmResult = put8 s.ret.alarm.code ++ put8 s.ret.serial ++ put8 s.emu.repeats
      ++ [byte (flagBits [s.emu.repeatAt.isSome])] ++ put16? (s.emu.repeatAt.map s.msUntil) := by
  rewrite [State.ownAlarmResult, State.visibleAlarm, h, putFlags_eq]
  · rfl
  · exact Nat.le_of_ble_eq_true rfl

/-! ## The numbers of bytes -/

theorem offerResult_length (n : Nat) (e : BoardEntry) :
    (s.offerResult n e).length = 38 + 4 * e.claims.length + 2 * ((e.note.length + 1) / 2) := by
  have hc := flatMap_length_of (fun c : Claim => put16 c.id ++ put16 c.score) 4 (fun _ => rfl) e.claims
  delta State.offerResult
  simp only [List.length_append, hc, packText_length]
  simp only [put8?, put16?, State.putSince, State.putSince?, put8_length, put16_length, put32_length, putFlags_length,
    putPoint_length, putKey_length]
  omega

theorem peerResult_length (p : Peer) : (s.peerResult p).length = 22 := by
  delta State.peerResult
  simp only [List.length_append, put8?, put16?, putFix?, State.putSince, put8_length, put16_length, put32_length,
    putFlags_length]

theorem totalsResult_length (r : Retained) : r.totalsResult.length = 63 := by
  delta Retained.totalsResult ShiftTotals.result LifeTotals.result
  simp only [List.length_append, put16_length, put32_length, List.length_singleton]

theorem recordResult_length (r : TripRecord) : r.result.length = 47 := by
  delta TripRecord.result TripFlags.result
  simp only [List.length_append, putKey?, put16?, put8_length, put16_length, put32_length, putFlags_length]

theorem alarmResult_length (n : Nat) (a : AlarmEntry) : (s.alarmResult n a).length = 30 := by
  delta State.alarmResult
  simp only [List.length_append, put16?, put8?, putFix?, State.putSince, State.putSince?, put8_length, put16_length,
    put32_length, putFlags_length]

theorem extrasResult_length {l : List Nat} (h : l.length ≤ 8) : (extrasResult l).length = 16 := by
  rw [extrasResult, flatMap_length_of put16 2 fun _ => rfl]
  simp only [List.length_append, List.length_replicate]
  omega

theorem tripResult_length {x : Option Trip} (h : ∀ t ∈ x, t.extras.length ≤ 8) : (tripResult x).length = 72 := by
  cases x with
  | none => rfl
  | some t =>
    simp only [tripResult, Option.map_some, Option.getD_some]
    delta Trip.result TripFlags.result
    simp only [List.length_append, extrasResult_length (h t rfl), putKey?, put16?, put8_length, put16_length, put32_length,
      putFlags_length, List.length_singleton]

theorem noteHead_length (r : InNote) (w n : Nat) : (s.noteHead r w n).length = 19 := by
  delta State.noteHead
  simp only [List.length_append, putKey?, put16?, put8?, State.putSince, put8_length, put16_length, put32_length,
    putFlags_length]

theorem noteResult_length (r : InNote) (w : Nat) :
    (s.noteResult r w).length = 19 + 2 * ((r.text.length + 1) / 2 - w) := by
  have hh := noteHead_length (s := s) r w
  rw [State.noteResult, List.length_append, hh, List.length_drop, packText_length]
  omega

theorem outResult_length (r : OutNote) : (s.outResult r).length = 18 + 2 * ((r.text.length + 1) / 2) := by
  delta State.outResult
  simp only [List.length_append, packText_length, putKey?, put16?, State.putSince?, put8_length, put16_length, put32_length,
    putFlags_length]

end

/-- Settles O51: each act answers its result function, whose fields are those of the rule. -/
theorem readsReportAndChangeNothing : Obligations.ReadsReportAndChangeNothing := by
  intro s hp hr reads bits opt8 opt16 since sinceOpt key fixed away own text flags
  refine ⟨fun tp => ?_, ?_, fun hrun => ?_⟩
  · exact any_exec (s := s.setPins { s.pins with tprotOpen := tp }) rfl blind_readStatus hp hr
      (congrArg (fun l => (_, (0 : Byte) :: l)) statusResult_eq)
  · exact reads_of (any_exec rfl blind_readStats hp hr rfl) (statsResult_eq _) rfl
  have hrdy : s.ready .run := ⟨hp, hr, hrun⟩
  refine ⟨fun b p hb hs => ?_, ?_, ?_, ?_, ?_, fun b r hb h => ?_, ?_, fun b r hb h => ?_, ?_, fun b a hb h => ?_,
    fun h => ?_, fun h => ?_⟩
  · refine reads_of (operating_exec rfl rfl (blind_readPeer _) hrdy (readPeer_ok hb hs)) ?_
      (congrArg (· + 1) (peerResult_length p))
    delta State.peerResult
    dsimp only
    rewrite [putFlags_eq, roleCode_eq]
    · rfl
    · exact Nat.le_of_ble_eq_true rfl
  · intro offer
    have hoffer (n : Nat) (e : BoardEntry) : s.offerResult n e = offer n e := by
      delta State.offerResult
      rewrite [putFlags_eq, putFlags_eq, putKey, putPoint, ← List.append_assoc, ← List.append_assoc]
      · rfl
      · exact Nat.le_of_ble_eq_true rfl
      · exact Nat.le_of_ble_eq_true rfl
    refine ⟨fun b e hb hs => ?_, fun b m w z hb hm hw => ?_⟩
    · refine reads_of (operating_exec rfl rfl (blind_readOffer _) hrdy (readOffer_ok hb hs)) (hoffer _ _) ?_
      rw [offerResult_length]
      omega
    · intro order wanted hlen
      have hord : scanOrder b.toNat s.ofb.slots.length = order := congrArg (scanOrder b.toNat) hlen
      refine ⟨fun h => ?_, fun pre i post e ho hi hx hpre => ?_⟩
      · refine operating_exec rfl rfl (blind_scanOffers _ _ _ _) hrdy ((scanOffers_eq hb hm hw).trans ?_)
        rw [scanSlots_none fun i hi e he => mt (scanned_iff e m _ _).1 (h i (hord ▸ hi) e he)]
        rfl
      · refine operating_exec rfl rfl (blind_scanOffers _ _ _ _) hrdy ((scanOffers_eq hb hm hw).trans ?_)
        rw [scanSlots_some (hord.trans ho) hi ((scanned_iff e m _ _).2 hx) fun j hj e he =>
          mt (scanned_iff e m _ _).1 (hpre j hj e he)]
        exact congrArg (fun l => (s, (0 : Byte) :: l)) (hoffer i e)
  · intro es
    exact reads_of (operating_exec rfl rfl (blind_readOffer _) hrdy rfl) rfl rfl
  · intro x figures hx
    have hfigures (t : Trip) : t.result = figures t := by
      delta Trip.result TripFlags.result
      rewrite [putFlags_eq]
      · rfl
      · exact Nat.le_of_ble_eq_true rfl
    have htrip (y : Option Trip) : tripResult y = match y with
        | some t => figures t
        | none => List.replicate 72 0 := by
      cases y with
      | none => rfl
      | some t => exact hfigures t
    refine reads_of (operating_exec rfl rfl blind_readFare hrdy rfl) ?_ ?_
    · delta State.fareResult
      dsimp only
      rewrite [putFlags_eq, htrip]
      · rfl
      · exact Nat.le_of_ble_eq_true rfl
    · have hlen : (tripResult s.ret.trip).length = 72 := tripResult_length hx
      delta State.fareResult
      simp only [List.length_append, hlen, put16?, put8_length, put16_length, put32_length, putFlags_length]
  · refine reads_of (operating_exec rfl rfl blind_readTotals hrdy rfl) ?_
      (congrArg (· + 1) (totalsResult_length s.ret))
    delta Retained.totalsResult
    rewrite [shiftResult_eq, lifeResult_eq]
    rfl
  · refine reads_of (operating_exec rfl rfl (blind_readTrip _) hrdy (readTrip_ok hb h)) ?_
      (congrArg (· + 1) (recordResult_length r))
    delta TripRecord.result TripFlags.result
    rewrite [putFlags_eq, putFlags_eq]
    · rfl
    · exact Nat.le_of_ble_eq_true rfl
    · exact Nat.le_of_ble_eq_true rfl
  · intro head
    have hhead (r : InNote) (w n : Nat) : s.noteHead r w n = head r w n := by
      delta State.noteHead
      rewrite [putFlags_eq, putFlags_eq]
      · rfl
      · exact Nat.le_of_ble_eq_true rfl
      · exact Nat.le_of_ble_eq_true rfl
    refine ⟨fun b w r hb hw h => ?_, fun b m u o hb hm hu ho => ?_⟩
    · refine reads_of (operating_exec rfl rfl (blind_readNote _ _) hrdy (readNote_ok hb hw h)) ?_ ?_
      · exact congrArg (· ++ (packText r.text).drop (2 * w.toNat)) (hhead _ _ _)
      · rw [noteResult_length]
        omega
    · intro order wanted hlen
      have hord : scanOrder b.toNat s.nts.inbox.length = order := congrArg (scanOrder b.toNat) hlen
      refine ⟨fun h => ?_, fun pre i post r hsplit hi hx hpre => ?_⟩
      · refine operating_exec rfl rfl (blind_scanNotes _ _ _ _) hrdy ((scanNotes_eq hb hm hu ho).trans ?_)
        rw [scanSlots_none fun i hi r hr => mt (noteScanned_iff r m _ _).1 (h i (hord ▸ hi) r hr)]
        rfl
      · refine reads_of (result := put8 i ++ s.noteHead r 0 0)
          (operating_exec rfl rfl (blind_scanNotes _ _ _ _) hrdy ((scanNotes_eq hb hm hu ho).trans ?_)) ?_ ?_
        · rw [scanSlots_some (hord.trans hsplit) hi ((noteScanned_iff r m _ _).2 hx) fun j hj r hr =>
            mt (noteScanned_iff r m _ _).1 (hpre j hj r hr)]
          rfl
        · exact congrArg (put8 i ++ ·) (hhead _ _ _)
        · rw [List.length_append, put8_length, noteHead_length]
  · refine reads_of (operating_exec rfl rfl (blind_readOutbox _) hrdy (readOutbox_ok hb h)) ?_ ?_
    · delta State.outResult
      rewrite [putFlags_eq, putFlags_eq]
      · rfl
      · exact Nat.le_of_ble_eq_true rfl
      · exact Nat.le_of_ble_eq_true rfl
    · rw [outResult_length]
      omega
  · intro ins outs
    exact reads_of (operating_exec rfl rfl (blind_readOutbox _) hrdy rfl) rfl rfl
  · refine reads_of (operating_exec rfl rfl (blind_readAlarm _) hrdy (readAlarm_ok hb h)) ?_
      (congrArg (· + 1) (alarmResult_length _ a))
    delta State.alarmResult
    dsimp only
    rewrite [putFlags_eq, putFlags_eq]
    · rfl
    · exact Nat.le_of_ble_eq_true rfl
    · exact Nat.le_of_ble_eq_true rfl
  · exact reads_of (operating_exec rfl rfl (blind_readAlarm _) hrdy rfl) (ownAlarmResult_covert h) rfl
  · exact reads_of (operating_exec rfl rfl (blind_readAlarm _) hrdy rfl) (ownAlarmResult_open h) rfl

end Sys2Proof
end

section
/-! PROOFS. GO starts every block (O50). -/

namespace Sys2Proof

open Sys2Proof.Machine

section
variable {s : State}

/-- The configured state with every block started, before START is raised (R22, R28, R31, R66, R187). -/
def launched (s : State) : State := { s with
  draws := s.draws + 1
  cau := { s.cau with
    idleRef := if s.pins.cd then none else some s.now
    blockedAt := if s.pins.cd then some (s.now + 2000 * ms) else none }
  rru := { s.rru with rx := if s.pins.cd && s.cau.onAir.isNone then .hunting [] else .idle }
  ppu := { s.ppu with intervalAt := some (s.now + s.randomIn 0 (s.beaconInterval * 1000) * ms) }
  cpt := { s.cpt with part := .run, goTime := s.now } }

theorem goRun_eq : s.goRun = (launched s).startEvent.alarmGo := rfl

theorem startEvent_ret_alarm (u : State) : u.startEvent.ret.alarm = u.ret.alarm := by
  unfold State.startEvent
  split <;> rfl

theorem startEvent_emu (u : State) : u.startEvent.emu = u.emu := by
  unfold State.startEvent
  split <;> rfl

theorem startEvent_now (u : State) : u.startEvent.now = u.now := by
  unfold State.startEvent
  split <;> rfl

theorem startEvent_eq (u : State) : u.startEvent = if u.ret.retainedLost
    then (u.raiseEvent .start 0 u.ret.retainedLost.toNat).withRet { u.ret with retainedLost := false }
    else u.raiseEvent .start 0 u.ret.retainedLost.toNat := rfl

/-- The first repeat of a resumed alarm is 10 s away (R168, R173). -/
theorem startRepeat_first {u v : State} (h : QueueFrame u v) (hrep : u.emu.repeats = 0) :
    v.startRepeat = { v with emu := { v.emu with repeatAt := some (u.now + 10000 * ms) } } := by
  have hint : repeatInterval v.ret.alarm v.emu.repeats = 10000 * ms := by
    rw [repeatInterval_eq, h.emu, hrep, if_neg (by omega)]
  rw [State.startRepeat, State.setEmu, hint, h.now]

theorem alarmGo_quiet (h : s.ret.alarm = .quiet ∨ s.ret.alarm = .arming) : s.alarmGo = s := by
  unfold State.alarmGo
  rcases h with h | h <;> rw [h]

theorem alarmGo_alarm (h : s.ret.alarm = .alerting ∨ s.ret.alarm = .covert) :
    s.alarmGo = ((s.setEmu { s.emu with repeats := 0, firstSent := true }).offer .alarm).startRepeat := by
  unfold State.alarmGo
  rcases h with h | h <;> rw [h]

theorem alarmGo_ending (h : s.ret.alarm = .ending) :
    s.alarmGo = (s.setEmu { s.emu with ending := some .first }).offer .alarmEnd := by
  unfold State.alarmGo
  rw [h]

theorem go_barred (h : s.cpt.config = none) : actGo s = (s, [2]) := by
  rw [actGo, h]
  rfl

theorem go_runs (h : s.cpt.config.isSome = true) : actGo s = ((launched s).startEvent.alarmGo, [0]) := if_pos h

end

/-- Settles O50: the blocks start side by side, then START is raised and the alarm of the store is resumed. -/
theorem goStartsEveryBlock : Obligations.GoStartsEveryBlock := by
  intro s h
  refine ⟨fun hc => congrArg _ (config_next blind_go h (go_barred hc)), fun st hc => ?_⟩
  have hbeacon : s.beaconInterval = st.beacon := by rw [State.beaconInterval, hc]; rfl
  refine ⟨s.randomIn 0 (s.beaconInterval * 1000), ?_, ?_⟩
  · have hlt := Nat.mod_lt (Config.free s.draws) (show s.beaconInterval * 1000 + 1 - 0 > 0 by omega)
    rw [← hbeacon, State.randomIn]
    omega
  intro u₀ u
  have hu : (launched s).startEvent = u := startEvent_eq _
  have halarm : u.ret.alarm = s.ret.alarm := by rw [← hu]; exact startEvent_ret_alarm _
  have hemu : u.emu = s.emu := by rw [← hu]; exact startEvent_emu _
  have hnow : u.now = s.now := by rw [← hu]; exact startEvent_now _
  have hgo (v : State) (hv : u.alarmGo = v) : exec .go s = .next (v.answering s false [0]) :=
    congrArg _ (config_next blind_go h ((go_runs (by rw [hc]; rfl)).trans (by rw [hu, hv])))
  refine ⟨fun ha => hgo _ (alarmGo_quiet (by rwa [halarm])), fun ha => ?_, fun ha => ?_⟩
  · intro v
    refine hgo _ ((alarmGo_alarm (by rwa [halarm])).trans ?_)
    rw [hemu, startRepeat_first (offer_frame _ _) rfl]
    exact congrArg (fun n => { v with emu := { v.emu with repeatAt := some (n + 10000 * ms) } }) hnow
  · refine hgo _ ((alarmGo_ending (by rwa [halarm])).trans ?_)
    rw [hemu]
    rfl

end Sys2Proof
end

section
/-! PROOFS. The phases of the port (O45). -/

namespace Sys2Proof

open Sys2Proof.Machine

section
variable {s : State} {b : Byte}

/-- CSN low, with the port's registers as given. -/
def lowered (s : State) (c : Cpt) : State := { s with pins := { s.pins with csnLow := true }, cpt := c }

theorem lowered_sdoPin (hp : s.powered = true) (c : Cpt) : (lowered s c).sdoPin = some c.sdo := by
  rw [State.sdoPin]
  exact if_pos (Bool.and_eq_true_iff.2 ⟨hp, rfl⟩)

theorem discard_eq (u : State) (b : Byte) :
    u.discard b = if b = 0 then u else { u with cpt := { u.cpt with phaseError := true } } := by
  by_cases h : b = 0
  · rw [State.discard, h, if_pos rfl]
    rfl
  · rw [State.discard, if_neg h, if_neg (by simpa using h)]
    rfl

theorem discard_sdoPin (u : State) (b : Byte) : (u.discard b).sdoPin = u.sdoPin := by
  rw [discard_eq]
  split <;> rfl

/-- A transaction that CSN has opened, or that goes on unmuted. -/
def opened (s : State) : State := (s.setCsn true).setCpt { s.cpt with muted := .off }

theorem hostByte_opened {first : Bool} (hp : s.powered = true) (hf : first = true ∨ (s.cpt.muted = .off ∧ s.pins.csnLow = true)) :
    s.hostByte first b = (opened s).phaseByte first b := hostByte_phase b hp (hf.imp_right And.symm)

/-- The status byte sent for a byte of such a transaction (R179, R180). -/
theorem opened_sendStatus : (opened s).sendStatus = lowered s { s.cpt with muted := .off, sdo := s.statusByte } := by
  have hstatus : (opened s).statusByte = s.statusByte := rfl
  rw [State.sendStatus, hstatus]
  rfl

theorem phaseByte_ready {u : State} (first : Bool) (h : u.cpt.phase = .ready) :
    u.phaseByte first b = u.sendStatus.readyByte b := by
  unfold State.phaseByte
  rw [h]

theorem phaseByte_param {u : State} (first : Bool) (h : u.cpt.phase = .param) :
    u.phaseByte first b = u.sendStatus.paramByte b := by
  unfold State.phaseByte
  rw [h]

theorem phaseByte_result {u : State} (first : Bool) (h : u.cpt.phase = .result) :
    u.phaseByte first b = u.resultByte first b := by
  unfold State.phaseByte
  rw [h]

theorem csnRise_high (hm : s.cpt.muted = .off) (hc : s.pins.csnLow = false) : s.csnRise = s := by
  have hpins : { s.pins with csnLow := false } = s.pins := by rw [← hc]
  have hcpt : { s.cpt with muted := .off } = s.cpt := by rw [← hm]
  show { s with pins := { s.pins with csnLow := false }, cpt := { s.cpt with muted := .off } } = s
  rw [hpins, hcpt]

/-! ## Bytes in READY (R181) -/

theorem hostByte_null (hp : s.powered = true) (h : s.cpt.phase = .ready) :
    s.hostByte true 0 = lowered s { s.cpt with muted := .off, sdo := s.statusByte } := by
  rw [hostByte_opened hp (.inl rfl), phaseByte_ready (u := opened s) true h, opened_sendStatus]
  exact if_pos (beq_self_eq_true 0)

theorem hostByte_unknown (hp : s.powered = true) (h : s.cpt.phase = .ready) (hb : b ≠ 0) (hs : shapeOf b = none) :
    s.hostByte true b = lowered s { s.cpt with phase := .result, result := [1], muted := .off, sdo := s.statusByte } := by
  rw [hostByte_opened hp (.inl rfl), phaseByte_ready (u := opened s) true h, opened_sendStatus, State.readyByte,
    if_neg (by simpa using hb), hs]
  rfl

/-! ## Bytes in PARAM (R182) -/

theorem hostByte_param {first : Bool} {n : Nat} (hp : s.powered = true) (h : s.cpt.phase = .param)
    (hf : first = true ∨ (s.cpt.muted = .off ∧ s.pins.csnLow = true)) (hs : shapeOf s.cpt.code = some (.fixed n))
    (hn : s.cpt.params.length + 1 < n) : s.hostByte first b = lowered s { s.cpt with
      params := s.cpt.params ++ [b], abandonAt := some (s.now + 100 * ms), muted := .off, sdo := s.statusByte } := by
  have hmore : ((shapeOf s.cpt.code).map (·.complete (s.cpt.params ++ [b]))).getD true = false := by
    simp only [hs, Option.map_some, Option.getD_some, ParamShape.complete, List.length_append, List.length_singleton,
      beq_eq_false_iff_ne]
    omega
  rw [hostByte_opened hp hf, phaseByte_param (u := opened s) first h, opened_sendStatus]
  exact if_neg (ne_of_eq_of_ne hmore Bool.false_ne_true)

theorem exec_abandonment {time : Nat} (hp : s.powered = true) (h : s.cpt.phase = .param) (ht : s.cpt.abandonAt = some time) :
    exec .abandonmentTimer s = .next (if time ≤ s.now then s.setCpt s.cpt.abandon else s) := by
  show Host.Outcome.next (if s.powered && s.cpt.phase == .param && due s.cpt.abandonAt s.now then _ else s) = _
  rw [hp, h, ht]
  exact congrArg Host.Outcome.next (if_congr decide_eq_true_iff rfl rfl)

/-! ## Bytes in RESULT (R184) -/

theorem hostByte_status (hp : s.powered = true) (h : s.cpt.phase = .result) :
    s.hostByte true b = (lowered s { s.cpt with muted := .off, sdo := s.statusByte }).discard b := by
  rw [hostByte_opened hp (.inl rfl), phaseByte_result (u := opened s) true h, State.resultByte, if_pos rfl, opened_sendStatus]

theorem hostByte_result {r : Byte} {rest : List Byte} (hp : s.powered = true) (h : s.cpt.phase = .result)
    (hr : s.cpt.result = r :: rest) (hm : s.cpt.muted = .off) (hc : s.pins.csnLow = true) :
    s.hostByte false b = (lowered s { s.cpt with
      sdo := r, result := rest, phase := if rest = [] then .ready else .result }).discard b := by
  have hoff : opened s = lowered s s.cpt := by
    rw [opened, ← hm]
    rfl
  have hphase : (if rest.isEmpty then Phase.ready else Phase.result) = if rest = [] then .ready else .result := by
    cases rest <;> rfl
  rw [hostByte_opened hp (.inr ⟨hm, hc⟩), hoff, phaseByte_result (u := lowered s s.cpt) false h, State.resultByte, if_neg Bool.false_ne_true, show (lowered s s.cpt).cpt.result = r :: rest from hr]
  exact congrArg (fun x => (lowered s { s.cpt with sdo := r, result := rest, phase := x }).discard b) hphase

/-! ## Bytes while muted, and with CSN high (R179, R188) -/

theorem hostByte_muted (hp : s.powered = true) (hm : s.cpt.muted ≠ .off) :
    s.hostByte false b = lowered s { s.cpt with muted := .on, sdo := 0 } := by
  have hclk : s.clockedHigh false = false := by simp [State.clockedHigh, hm]
  rw [State.hostByte, hclk, if_neg Bool.false_ne_true, State.lowByte]
  simp [State.setCsn, hp, hm]
  rfl

theorem hostByte_high (hm : s.cpt.muted = .off) (hc : s.pins.csnLow = false) : s.hostByte false b = s :=
  if_pos (by simp [State.clockedHigh, hm, hc])

theorem partialByte_error {older : Bool} (hp : s.powered = true) (h : older = false ∨ s.cpt.muted = .off) :
    s.partialByte older = s.csnRise.phaseErr := by
  refine if_neg ?_
  rcases h with h | h <;> simp [hp, h]

theorem partialByte_older (hm : s.cpt.muted ≠ .off) : s.partialByte true = s.csnRise := if_pos (by simp [hm])

theorem partialByte_sdoPin (older : Bool) : (s.partialByte older).sdoPin = none := by
  unfold State.partialByte
  split
  · exact State.csnRise_sdoPin s
  · exact State.csnRise_sdoPin s

theorem exec_execByte (hp : s.powered = true) (last : Bool) :
    exec (.execByteDiscard last) s = .next (s.execByte.afterByte last) := by
  show Host.Outcome.next (State.afterByte (if s.powered then _ else _) last) = _
  rw [if_pos hp]

end

/-- Settles O45: a byte is taken by the phase of the port, when it is not of a muted transaction and CSN is low. -/
theorem portPhasesTakeTheirBytes : Obligations.PortPhasesTakeTheirBytes := by
  intro s first last b hp error taken rise after put sends
  have row (f : Bool) (x : Byte) (u : State) (h : s.hostByte f x = u) (l : Bool) :
      exec (.resultByte f x l) s = .next (u.afterByte l) := by
    show Host.Outcome.next ((s.hostByte f x).afterByte l) = _
    rw [h]
  have sent {f : Bool} {x : Byte} {c : Cpt} (h : s.hostByte f x = lowered s c) : sends (.resultByte f x) (some c.sdo) :=
    ⟨_, row _ _ _ h false, lowered_sdoPin hp c⟩
  have sent_discard {f : Bool} {x : Byte} {c : Cpt} (h : s.hostByte f x = (lowered s c).discard x) :
      sends (.resultByte f x) (some c.sdo) :=
    ⟨_, row _ _ _ h false, (discard_sdoPin _ x).trans (lowered_sdoPin hp c)⟩
  refine ⟨fun h => ⟨row _ _ _ (hostByte_null hp h) last, (sent (hostByte_null hp h) :), fun hb hs => ?_⟩,
    fun h hf => ⟨fun n hs hn => ?_, fun time ht => ⟨fun hle => ?_, fun hlt => ?_⟩⟩, fun r rest h hr => ⟨?_, ?_, fun hm hc => ?_⟩,
    exec_execByte hp last, fun older h => congrArg _ (partialByte_error hp h), fun hm => congrArg _ (partialByte_older hm),
    fun hm => ⟨row _ _ _ (hostByte_muted hp hm) last, (sent (hostByte_muted hp hm) :)⟩, fun hm hc => ?_,
    fun i hi => ?_⟩
  · show Host.Outcome.next ((s.hostByte true b).afterByte last) = _
    rw [hostByte_unknown hp h hb hs]
    rfl
  · exact ⟨row _ _ _ (hostByte_param hp h hf hs hn) last, (sent (hostByte_param hp h hf hs hn) :)⟩
  · rw [exec_abandonment hp h ht, if_pos hle]
    rfl
  · rw [exec_abandonment hp h ht, if_neg (by omega)]
  · rw [row _ _ _ (hostByte_status hp h) last, discard_eq]
    rfl
  · exact (sent_discard (hostByte_status hp h) :)
  · refine ⟨?_, (sent_discard (hostByte_result hp h hr hm hc) :)⟩
    rw [row _ _ _ (hostByte_result hp h hr hm hc) last, discard_eq]
    rfl
  · refine (row _ _ _ (hostByte_high hm hc) last).trans (congrArg _ ?_)
    unfold State.afterByte
    split
    · exact csnRise_high hm hc
    · rfl
  · simp only [List.mem_cons, List.not_mem_nil, or_false] at hi
    rcases hi with rfl | rfl | rfl | rfl
    · exact ⟨_, rfl, State.csnRise_sdoPin _⟩
    · exact ⟨_, rfl, State.csnRise_sdoPin _⟩
    · exact ⟨_, rfl, State.csnRise_sdoPin _⟩
    · exact ⟨_, rfl, partialByte_sdoPin first⟩

end Sys2Proof
end

section
/-! PROOFS. Resets, power-on and the loss of the supply (O47). -/

namespace Sys2Proof

open Sys2Proof.Machine

/-! ## The recoveries of the store (R129, R143, R173) -/

/-- The store as its owners leave it at a reset. -/
def recovered (r : Retained) : Retained :=
  let running : Bool := decide (r.fare = FareState.hired ∨ r.fare = FareState.held)
  { r with
    fare := if running then .total else if r.fare = .onCall then .vacant else r.fare
    trip := if running then r.trip.map Trip.interrupt else r.trip
    alarm := if r.alarm = .arming then .quiet else r.alarm }

theorem recoverAlarm_eq (r : Retained) : r.recoverAlarm = { r with alarm := if r.alarm = .arming then .quiet else r.alarm } := by
  unfold Retained.recoverAlarm
  by_cases h : r.alarm = .arming
  · rw [if_pos (by rw [h]; rfl), if_pos h]
  · rw [if_neg (by simpa using h), if_neg h]

theorem recover_eq (r : Retained) : r.recover = recovered r := by
  rw [Retained.recover, recoverAlarm_eq]
  cases r with
  | mk _ _ _ fare => cases fare <;> rfl

section
variable {s : State}

/-! ## The state after a reset (R11, R188) -/

/-- The powered part with this store, every block at the value of its chapter. -/
def atReset (s : State) (r : Retained) : State :=
  let a := availability r.alarm r.fare true r.shiftOpen .off
  { s with
    powered := true
    ret := r
    check := storeCheck r
    cau := .reset
    rru := .reset
    ppu := { Ppu.reset with avail := some a }
    ofb := { Ofb.reset with avail := some a }
    fre := { Fre.reset with avail := some a }
    ttl := ⟨none, if r.shiftOpen then some (s.now + 1000 * ms) else none⟩
    nts := .reset
    emu := .reset s.pins.panicLow
    cpt := .reset s.pins.csnLow }

theorem resetPart_eq (hp : s.powered = true) : s.resetPart = atReset s (recovered s.ret) := by
  have h : s.resetPart = { atReset s s.ret.recover with powered := s.powered } := rfl
  rw [h, hp, recover_eq]
  rfl

/-- The level of PANIC found on the pin. -/
def panicAt (s : State) (low : Bool) : State := { s with pins := { s.pins with panicLow := low } }

theorem samplePanic_eq (s : State) (low : Bool) : s.samplePanic low = { panicAt s low with emu :=
    if low = s.pins.panicLow then s.emu
    else { s.emu with filterAt := if s.powered && low != s.emu.panicLow then some (s.now + panicFilter) else none } } := by
  unfold State.samplePanic
  by_cases h : low = s.pins.panicLow
  · subst h
    rw [if_neg (by simp), if_pos rfl]
    rfl
  · rw [if_pos (by simpa using h), if_neg h]
    rfl

theorem samplePanic_off (hp : s.powered = false) (low : Bool) : s.samplePanic low = { panicAt s low with emu :=
    if low = s.pins.panicLow then s.emu else { s.emu with filterAt := none } } := by
  have hoff : ¬ (s.powered && low != s.emu.panicLow) = true := by simp [hp]
  rw [samplePanic_eq, if_neg hoff]

theorem samplePanic_reset (hp : s.powered = true) (low : Bool) :
    (s.samplePanic low).resetPart = atReset (panicAt s low) (recovered s.ret) := by
  rw [samplePanic_eq, resetPart_eq (by exact hp)]
  rfl

theorem exec_restart (hp : s.powered = true) (hr : s.cpt.phase = .ready) (low : Bool) :
    exec (.restart low) s = .next (opened (s.samplePanic low)).resetPart.csnRise := by
  have hp' : (s.samplePanic low).powered = true := by rw [samplePanic_eq]; exact hp
  have hr' : (s.samplePanic low).cpt.phase = .ready := by rw [samplePanic_eq]; exact hr
  show Host.Outcome.next ((s.samplePanic low).hostByte true 0x12).csnRise = _
  rw [hostByte_opened hp' (.inl rfl), phaseByte_ready (u := opened (s.samplePanic low)) true hr']
  rfl

theorem storeBad_iff : s.storeBad = true ↔ s.storeLost = true ∨ s.check ≠ storeCheck s.ret := by
  rw [State.storeBad, Bool.or_eq_true, bne_iff_ne]

theorem powerUp_good (h : s.storeLost = false) (hc : s.check = storeCheck s.ret) :
    s.powerUp = atReset s (recovered s.ret) := by
  have hgood : s.checkStore = s := if_neg (by rw [storeBad_iff]; simp [h, hc])
  rw [State.powerUp, hgood, resetPart_eq rfl]
  rfl

theorem powerUp_bad (h : s.storeLost = true ∨ s.check ≠ storeCheck s.ret) :
    s.powerUp = { atReset s .cleared with storeLost := false } := by
  have hbad : s.checkStore = { s.setRet .cleared with storeLost := false } := if_pos (storeBad_iff.2 h)
  rw [State.powerUp, hbad, resetPart_eq rfl]
  rfl

end

/-- Settles O47: a reset writes every block, so only the store, the clock, the pins and the waiting rows matter before it. -/
theorem resetsAndSuppliesTakeTheirState : Obligations.ResetsAndSuppliesTakeTheirState := by
  intro s low vbk pins running interrupted rec fresh
  have hfresh (r : Retained) : atReset (panicAt s low) r = fresh r := rfl
  have hrec : recovered s.ret = rec := rfl
  refine ⟨fun hp => ⟨?_, fun hr => ?_⟩, fun hp => ?_, fun hl hc => ?_, fun hbad => ?_, ?_⟩
  · show Host.Outcome.next (if s.powered then (s.samplePanic low).resetPart else s.samplePanic low) = _
    rw [if_pos hp, samplePanic_reset hp, hfresh, hrec]
  · have hopen : (opened (s.samplePanic low)).resetPart
        = atReset { panicAt s low with pins := { s.pins with panicLow := low, csnLow := true } } (recovered s.ret) := by
      rw [samplePanic_eq, resetPart_eq (by exact hp)]
      rfl
    rw [exec_restart hp hr, hopen, hrec]
    rfl
  · show Host.Outcome.next (if s.powered then (s.samplePanic low).resetPart else s.samplePanic low) = _
    rw [if_neg (by simp [hp]), samplePanic_off hp]
    rfl
  · show Host.Outcome.next (s.samplePanic low).powerUp = _
    rw [powerUp_good (s := s.samplePanic low) (by rwa [samplePanic_eq]) (by rwa [samplePanic_eq]), samplePanic_eq]
    rfl
  · show Host.Outcome.next (s.samplePanic low).powerUp = _
    rw [powerUp_bad (s := s.samplePanic low) (by rwa [samplePanic_eq]), samplePanic_eq]
    rfl
  · exact ⟨_, rfl, rfl, rfl, rfl, rfl, rfl, rfl, rfl, rfl, rfl, rfl, rfl, rfl, rfl, rfl, rfl, rfl⟩

end Sys2Proof
end

section
/-! PROOFS. A delivered OFFER is admitted and judged once (O19). -/

namespace Sys2Proof

open Sys2Proof.Machine

section
variable {s : State} {f : Frame} {o : OfferBody} {t slot : Nat} {st : Station}

theorem deliver_offer (h : f.body = .offer o) : s.deliver f t = s.offerHeard o f t := by
  unfold State.deliver
  rw [h]

/-! ## The slot (R74) -/

/-- An entry that has ended and whose DROP does not wait. -/
def past (s : State) (e : BoardEntry) : Prop :=
  e.state.live = false ∧ e.dropMark = none ∧ s.cau.holds (.drop e.key) = false ∧ s.cau.airs (.drop e.key) = false

theorem past_iff (e : BoardEntry) : (!e.state.live && !s.dropWaits e) = true ↔ past s e := by
  simp only [past, State.dropWaits, Bool.and_eq_true, Bool.not_eq_true', Bool.or_eq_false_iff, Option.isSome_eq_false_iff,
    Option.isNone_iff_eq_none, and_assoc]

theorem boardSlot_none (h : lowestFree s.ofb.slots = none) (hn : noSlot s.ofb.slots (past s)) : s.boardSlot = none := by
  rw [State.boardSlot, h, pickLeast_noSlot s s.ofb.slots (fun e => !e.state.live && !s.dropWaits e) (·.termTime.getD 0)
    (by simpa only [past_iff] using hn)]
  rfl

theorem boardSlot_of (h : lowestFree s.ofb.slots = some slot
    ∨ (lowestFree s.ofb.slots = none ∧ firstSlot s.ofb.slots (past s) (·.termTime.getD 0) slot)) :
    s.boardSlot = some slot := by
  rcases h with h | ⟨h, hf⟩
  · rw [State.boardSlot, h]
    rfl
  · rw [State.boardSlot, h, pickLeast_firstSlot s s.ofb.slots (fun e => !e.state.live && !s.dropWaits e)
      (·.termTime.getD 0) slot (by simpa only [past_iff] using hf)]
    rfl

theorem offerHeard_known {e : BoardEntry} (h : s.entry ⟨f.origin, o.job⟩ = some (slot, e)) : s.offerHeard o f t = s := by
  unfold State.offerHeard
  rw [h]

theorem offerHeard_full (h : s.entry ⟨f.origin, o.job⟩ = none) (hs : s.boardSlot = none) :
    s.offerHeard o f t = s.setOfb { s.ofb with boardFull := inc16 s.ofb.boardFull } := by
  unfold State.offerHeard
  rw [h, hs]

theorem offerHeard_new (h : s.entry ⟨f.origin, o.job⟩ = none) (hs : s.boardSlot = some slot) :
    s.offerHeard o f t = s.writeOffer slot o f t := by
  unfold State.offerHeard
  rw [h, hs]

/-! ## The judgement (R76) and the score (R87) -/

/-- The first test of R76 that fails. -/
def firstFailed (s : State) (st : Station) (o : OfferBody) : Option Reason :=
  if o.window < 20 then some .short
  else if s.ofb.avail = some .alarm then some .alarm
  else if s.ofb.avail = some .noFix ∧ s.ppu.stale = true then some .noFix
  else if s.ofb.avail = none ∧ s.ppu.stale = true then some .noFix
  else if s.ofb.avail ≠ some .free then some .busy
  else if o.mask.getLsbD st.vclass = false then some .cls
  else if s.inBidSet o.zone = false then some .zone
  else if (s.ppu.position.map fun here => distance here o.pickup).all (fun d => decide (st.maxDist < d)) = true
    then some .distance
  else none

theorem judge_eq (hc : s.cpt.config = some st) : s.judge o = firstFailed s st o := by
  have hclass : s.ownClass = st.vclass := by rw [State.ownClass, hc]; rfl
  have hmax : s.maxBidDistance = st.maxDist := by rw [State.maxBidDistance, hc]; rfl
  have hbusy (h : s.ofb.avail ≠ some .free) : some (watchReason (s.ofb.avail.getD .noFix) s.ppu.stale)
      = if s.ofb.avail = some .alarm then some .alarm
        else if s.ofb.avail = some .noFix ∧ s.ppu.stale = true then some .noFix
        else if s.ofb.avail = none ∧ s.ppu.stale = true then some .noFix
        else some Reason.busy := by
    cases ha : s.ofb.avail with
    | none => cases s.ppu.stale <;> rfl
    | some a =>
      cases a
      case free => exact absurd ha h
      case noFix => cases s.ppu.stale <;> rfl
      all_goals simp [watchReason]
  unfold State.judge firstFailed
  by_cases hw : o.window < 20
  · rw [if_pos hw, if_pos hw]
  rw [if_neg hw, if_neg hw, hclass]
  by_cases hfree : s.ofb.avail = some .free
  · simp only [hfree, bne_self_eq_false, ne_eq, not_true_eq_false, reduceCtorEq, Option.some.injEq, false_and, if_false,
      Bool.false_eq_true, Option.getD_some]
    by_cases hm : o.mask.getLsbD st.vclass = false
    · rw [if_pos (by simpa using hm), if_pos hm]
    rw [if_neg (by simpa using hm), if_neg hm]
    by_cases hz : s.inBidSet o.zone = false
    · rw [if_pos (by simpa using hz), if_pos hz]
    rw [if_neg (by simpa using hz), if_neg hz, State.pickupDistance, hmax]
    cases s.ppu.position with
    | none => rfl
    | some p => simp
  · rw [if_pos (by simpa using hfree), hbusy hfree, if_pos hfree]

theorem score_eq (hc : s.cpt.config = some st) (d : Nat) :
    let zp : Int := if o.zone = s.ppu.zone then 0 else st.penalty
    let ic : Int := min (s.idleSeconds / 30) st.idleCap
    s.scoreAt o d = (min 1023 (max 0 (((d + 9) / 10 : Nat) + zp - ic))).toNat := by
  intro zp ic
  simp only [State.scoreAt, hc, Option.map_some, Option.getD_some, beq_iff_eq, zp, ic]
  split <;> omega

theorem viaRelay_eq : (f.sender != f.origin) = decide (f.sender ≠ f.origin) := by
  rw [Bool.eq_iff_iff, bne_iff_ne, decide_eq_true_iff]

theorem writeOffer_watch {r : Reason} (h : s.judge o = some r) :
    s.writeOffer slot o f t = s.nextDraw.putEntry slot { o.toEntry f t with reason := some r } := by
  unfold State.writeOffer
  rw [h]

theorem writeOffer_open (h : s.judge o = none) : s.writeOffer slot o f t
    = (s.nextDraw.nextDraw.putEntry slot (s.nextDraw.openEntry o (o.toEntry f t))).raiseEvent .offerNew slot 0 := by
  unfold State.writeOffer
  rw [h]

/-- An entry in OPEN with its score and its claim points. -/
def openedAt (e : BoardEntry) (score point : Nat) (auto : Bool) : BoardEntry :=
  { e with state := .opened, score := some score, computedPoint := point, claimPoint := if auto then some point else none }

theorem openEntry_eq (e : BoardEntry) : s.openEntry o e = openedAt e (s.scoreAt o ((s.pickupDistance o.pickup).getD 0))
    (computedPointOf e.received o.window (s.scoreAt o ((s.pickupDistance o.pickup).getD 0)) (s.randomIn 0 63) e.latestPoint)
    (s.bidMode == .auto) := rfl

theorem randomIn_le (u : State) : u.randomIn 0 63 ≤ 63 := by
  have h := Nat.mod_lt (Config.free u.draws) (show 63 + 1 - 0 > 0 by decide)
  rw [State.randomIn]
  omega

end

/-- Settles O19: the slot is found as in a table, and the tests are those of R76 in order. -/
theorem offerIsJudgedOnceAtAdmission : Obligations.OfferIsJudgedOnceAtAdmission := by
  intro s f o t st hb hc gone
  rw [deliver_offer hb]
  refine ⟨fun slot e he => offerHeard_known he, fun he hf hn => ?_, fun slot he hs => ?_⟩
  · rw [offerHeard_full he (boardSlot_none hf hn)]
    rfl
  · intro dist d close reason e
    have hreason : s.judge o = reason := judge_eq hc
    have hentry (r : Option Reason) : { o.toEntry f t with reason := r } = { e with reason := r } :=
      congrArg (fun v => { e with reason := r, viaRelay := v }) viaRelay_eq
    rw [offerHeard_new he (boardSlot_of hs)]
    refine ⟨fun hne => ?_, fun hnone => ?_⟩
    · obtain ⟨r, hr⟩ := Option.ne_none_iff_exists'.1 hne
      rw [writeOffer_watch (hreason.trans hr), hentry, ← hr]
      rfl
    · refine ⟨s.nextDraw.randomIn 0 63, randomIn_le s.nextDraw, ?_⟩
      intro zp ic score point
      have hscore : s.nextDraw.scoreAt o d = score := score_eq (s := s.nextDraw) hc d
      have hbid : (s.bidMode == .auto) = decide (st.bidMode = .auto) := by rw [State.bidMode, hc]; rfl
      have hopen : s.nextDraw.openEntry o (o.toEntry f t) = openedAt { e with reason := none } score point
          (decide (st.bidMode = .auto)) := by
        show openedAt (o.toEntry f t) (s.nextDraw.scoreAt o d) (computedPointOf t o.window (s.nextDraw.scoreAt o d)
          (s.nextDraw.randomIn 0 63) (close - 250 * ms)) (s.bidMode == .auto) = _
        rw [hscore, hbid]
        exact congrArg (fun x => openedAt x score point (decide (st.bidMode = .auto))) (hentry none)
      rw [writeOffer_open (hreason.trans hnone), hopen, ← hnone]
      simp only [openedAt, decide_eq_true_eq]
      rfl

end Sys2Proof
end

section
/-! PROOFS. The bytes of a frame and its check (R3, R5 to R7). -/

namespace Sys2Proof

open Sys2Proof.Machine

/-! ## The check (R5) -/

theorem crcBit_msb (r : BitVec 16) : crcBit r r.msb = r <<< 1 := by
  rw [crcBit, bne_self_eq_false, if_neg Bool.false_ne_true]

/-- The register, shifted k times, gives out its bit 15 - k. -/
theorem crcBit_shifted (r : BitVec 16) (k : Nat) (h : k < 16) : crcBit (r <<< k) (r.getLsbD (15 - k)) = r <<< (k + 1) := by
  have hm : (r <<< k).msb = r.getLsbD (15 - k) := by
    rw [BitVec.msb_eq_getLsbD_last, BitVec.getLsbD_shiftLeft]
    simp [show ¬ 15 < k by omega]
  rw [← hm, crcBit_msb, BitVec.shiftLeft_add]

/-- The register that takes its own two bytes, the high one first, ends at zero. -/
theorem crcByte_own (r : BitVec 16) : crcByte (crcByte r (r.extractLsb' 8 8)) (r.extractLsb' 0 8) = 0 := by
  have hhigh : crcByte r (r.extractLsb' 8 8) = r <<< 8 := by
    have h0 := crcBit_shifted r 0 (by decide)
    rw [BitVec.shiftLeft_zero] at h0
    simp only [crcByte, List.foldl_cons, List.foldl_nil, BitVec.getLsbD_extractLsb', Nat.reduceAdd, Nat.reduceLT,
      decide_true, Bool.true_and]
    rw [h0, crcBit_shifted r 1 (by decide), crcBit_shifted r 2 (by decide), crcBit_shifted r 3 (by decide),
      crcBit_shifted r 4 (by decide), crcBit_shifted r 5 (by decide), crcBit_shifted r 6 (by decide),
      crcBit_shifted r 7 (by decide)]
  have hlow : crcByte (r <<< 8) (r.extractLsb' 0 8) = r <<< 16 := by
    simp only [crcByte, List.foldl_cons, List.foldl_nil, BitVec.getLsbD_extractLsb', Nat.reduceAdd, Nat.reduceLT,
      decide_true, Bool.true_and]
    rw [crcBit_shifted r 8 (by decide), crcBit_shifted r 9 (by decide), crcBit_shifted r 10 (by decide),
      crcBit_shifted r 11 (by decide), crcBit_shifted r 12 (by decide), crcBit_shifted r 13 (by decide),
      crcBit_shifted r 14 (by decide), crcBit_shifted r 15 (by decide)]
  rw [hhigh, hlow]
  exact BitVec.shiftLeft_eq_zero (Nat.le_refl 16)

theorem crc16_crcBytes (l : List Byte) : crc16 (l ++ crcBytes l) = 0 := by
  rw [crc16, List.foldl_append]
  exact crcByte_own (crc16 l)

theorem checkGood_bytes (f : Frame) : checkGood f.bytes = true := by
  rw [checkGood, Frame.bytes, crc16_crcBytes]
  rfl

end Sys2Proof
end

section
/-! PROOFS. A frame of the layouts is read back from its bytes (R3, R6 to R9). -/

namespace Sys2Proof

open Sys2Proof.Machine

/-! ## Reading past a field -/

section
variable (n i : Nat) (l : List Byte)

@[simp] theorem at8_past8 : at8 (put8 n ++ l) (i + 1) = at8 l i := rfl
@[simp] theorem at8_past16 : at8 (put16 n ++ l) (i + 2) = at8 l i := rfl
@[simp] theorem at8_past32 : at8 (put32 n ++ l) (i + 4) = at8 l i := rfl
@[simp] theorem at16_past8 : at16 (put8 n ++ l) (i + 1) = at16 l i := rfl
@[simp] theorem at16_past16 : at16 (put16 n ++ l) (i + 2) = at16 l i := rfl
@[simp] theorem at16_past32 : at16 (put32 n ++ l) (i + 4) = at16 l i := rfl
@[simp] theorem at32_past8 : at32 (put8 n ++ l) (i + 1) = at32 l i := rfl
@[simp] theorem at32_past16 : at32 (put16 n ++ l) (i + 2) = at32 l i := rfl
@[simp] theorem at32_past32 : at32 (put32 n ++ l) (i + 4) = at32 l i := rfl

theorem at8_here {n : Nat} (h : n ≤ 255) : at8 (put8 n ++ l) 0 = n := by rw [at8_put8]; omega
theorem at8_last {n : Nat} (h : n ≤ 255) : at8 (put8 n) 0 = n := at8_here [] h
theorem at16_here {n : Nat} (h : n ≤ 65535) : at16 (put16 n ++ l) 0 = n := by rw [at16_put16]; omega
theorem at16_last {n : Nat} (h : n ≤ 65535) : at16 (put16 n) 0 = n := at16_here [] h
theorem at32_here {n : Nat} (h : n ≤ 4294967295) : at32 (put32 n ++ l) 0 = n := by rw [at32_put32]; omega

end

/-! ## Codes and values (R9) -/

theorem clampZone_of_ok {z : Nat} (h : zoneOk z = true) : clampZone z = z := by
  simp only [zoneOk, Bool.or_eq_true, decide_eq_true_eq, beq_iff_eq] at h
  unfold clampZone
  split <;> omega

theorem clampClass_of_ok {c : Option Nat} (h : classOk c = true) : clampClass (c.getD 4) = c := by
  cases c with
  | none => rfl
  | some n => exact if_pos (of_decide_eq_true h)

theorem class_le {c : Option Nat} (h : classOk c = true) : c.getD 4 ≤ 255 := by
  cases c with
  | none => decide
  | some n =>
    have hn : n ≤ 3 := of_decide_eq_true h
    exact Nat.le_trans hn (by decide)

theorem avail_readback (a : Option Avail) (fix : Bool) : Avail.ofCode (((a.map (·.code)).getD 8 + 128 * fix.toNat) % 16) = a
    ∧ ((a.map (·.code)).getD 8 + 128 * fix.toNat).testBit 7 = fix ∧ (a.map (·.code)).getD 8 + 128 * fix.toNat ≤ 255 := by
  cases a with
  | none => cases fix <;> decide
  | some a => cases a <;> cases fix <;> decide

theorem map_clampChar {t : List Byte} (h : t.all printable = true) : t.map clampChar = t := by
  refine List.map_congr_left (g := id) (fun c hc => ?_) |>.trans (List.map_id t)
  exact clampChar_of_printable c (List.all_eq_true.1 h c hc)

theorem bool_testBit (b : Bool) : b.toNat.testBit 0 = b ∧ b.toNat ≤ 255 := by cases b <;> decide

theorem mask_readback (m : BitVec 4) : BitVec.ofNat 4 m.toNat = m ∧ m.toNat ≤ 255 := by
  have := m.isLt
  exact ⟨BitVec.ofNat_toNat 4 m |>.trans (BitVec.setWidth_eq m), by omega⟩

/-! ## Bodies (section 1.4) -/

/-- The tests of R8 on the body and the origin. -/
def bodyOk (k : Kind) (origin : Nat) (b : List Byte) : Bool :=
  layoutLength k b == some b.length && variableLengthOk k b && originOk k origin && bodyFieldsOk k b

/-- What R8 and R9 make of the bytes of a body. -/
def readsBack (b : Body) : Prop := readBody b.kind b.bytes = b ∧ layoutLength b.kind b.bytes = some b.bytes.length
  ∧ variableLengthOk b.kind b.bytes = true ∧ bodyFieldsOk b.kind b.bytes = true ∧ b.bytes.length ≤ 52

theorem atId_of {b : List Byte} {i n : Nat} (h : at16 b i = n) (hn : n ≤ 4095) : atId b i = n := by
  rw [atId, h]
  omega

theorem beacon_readsBack {pos : Point} {fix : Bool} {status : Option Avail} {zone : Nat} {vclass : Option Nat}
    (h : (Body.beacon pos fix status zone vclass).wellFormed = true) : readsBack (.beacon pos fix status zone vclass) := by
  simp only [Machine.Body.wellFormed, Machine.Point.wellFormed, Bool.and_eq_true, decide_eq_true_eq] at h
  obtain ⟨⟨⟨heast, hnorth⟩, hzone⟩, hclass⟩ := h
  obtain ⟨hstatus, hfix, hbyte⟩ := avail_readback status fix
  have hz : zone ≤ 255 := by
    simp only [zoneOk, Bool.or_eq_true, decide_eq_true_eq, beq_iff_eq] at hzone
    omega
  refine ⟨?_, rfl, rfl, rfl, by simp [Body.bytes]⟩
  simp only [readBody, Body.kind, Body.bytes, putPoint, List.append_assoc, pointAt, at16_past16, at8_past16, at8_past8,
    Nat.reduceAdd, at16_here _ heast, at16_here _ hnorth, at8_here _ hbyte, at8_here _ hz, at8_last (class_le hclass),
    hstatus, hfix, clampZone_of_ok hzone, clampClass_of_ok hclass]

theorem offer_readsBack {o : OfferBody} (h : (Body.offer o).wellFormed = true) : readsBack (.offer o) := by
  simp only [Machine.Body.wellFormed, Machine.Point.wellFormed, Bool.and_eq_true, decide_eq_true_eq] at h
  obtain ⟨⟨⟨⟨⟨hjob, heast, hnorth⟩, hzone⟩, hwindow⟩, hnote⟩, htext⟩ := h
  obtain ⟨hmask, hm⟩ := mask_readback o.mask
  obtain ⟨hacc, ha⟩ := bool_testBit o.account
  have hz : o.zone ≤ 255 := by
    simp only [zoneOk, Bool.or_eq_true, decide_eq_true_eq, beq_iff_eq] at hzone
    omega
  have hlen : at8 (Body.offer o).bytes 10 = o.note.length := by
    simp only [Body.bytes, putPoint, List.append_assoc, at8_past16, at8_past8, at8_here _ (show o.note.length ≤ 255 by omega)]
  have htotal : (Body.offer o).bytes.length = 11 + o.note.length := by
    simp only [Body.bytes, List.length_append, put16_length, put8_length, putPoint_length]
  refine ⟨?_, ?_, ?_, rfl, by omega⟩
  · have hdrop : (Body.offer o).bytes.drop 11 = o.note := rfl
    have hwin : clampWindow o.window = o.window := Nat.min_eq_left (by omega)
    simp only [readBody, Body.kind, hdrop, map_clampChar htext]
    simp only [Body.bytes, putPoint, List.append_assoc, pointAt, at16_past16, at8_past16, at8_past8,
      Nat.reduceAdd, at16_here _ hjob, at16_here _ heast, at16_here _ hnorth, at8_here _ hwindow, at8_here _ hz, at8_here _ hm,
      at8_here _ ha, hmask, hacc, clampZone_of_ok hzone, hwin]
  · simp only [layoutLength, Body.kind, hlen, htotal]
    exact if_pos (by omega)
  · simp only [variableLengthOk, Body.kind, hlen]
    exact decide_eq_true hnote

theorem score_le {n : Nat} (h : n ≤ 1023) : clampScore n = n ∧ n ≤ 65535 := ⟨Nat.min_eq_left h, by omega⟩

/-- A job key whose base is a base station, read back. -/
theorem key_readsBack {k : JobKey} (h : keyOk k = true) (l : List Byte) : keyAt (putKey k ++ l) 0 = k
    ∧ isBase (atId (putKey k ++ l) 0) = true := by
  simp only [keyOk, Bool.and_eq_true, decide_eq_true_eq] at h
  obtain ⟨hbase, hjob⟩ := h
  have hb : k.base ≤ 31 := by
    simp only [isBase, Bool.and_eq_true, decide_eq_true_eq] at hbase
    exact hbase.2
  have hid : atId (putKey k ++ l) 0 = k.base := by
    refine atId_of ?_ (by omega)
    rw [putKey, List.append_assoc, at16_here _ (by omega)]
  refine ⟨?_, by rw [hid]; exact hbase⟩
  simp only [keyAt, hid]
  simp only [putKey, List.append_assoc, at16_past16, Nat.reduceAdd, at16_here _ hjob]

@[simp] theorem at8_pastKey (k : JobKey) (i : Nat) (l : List Byte) : at8 (putKey k ++ l) (i + 4) = at8 l i := rfl
@[simp] theorem at16_pastKey (k : JobKey) (i : Nat) (l : List Byte) : at16 (putKey k ++ l) (i + 4) = at16 l i := rfl

theorem claim_readsBack {k : JobKey} {score : Nat} {vclass : Option Nat} (h : (Body.claim k score vclass).wellFormed = true) :
    readsBack (.claim k score vclass) := by
  simp only [Machine.Body.wellFormed, Bool.and_eq_true, decide_eq_true_eq] at h
  obtain ⟨⟨hkey, hscore⟩, hclass⟩ := h
  obtain ⟨hclamp, hs⟩ := score_le hscore
  obtain ⟨hk, hbase⟩ := key_readsBack hkey (put16 score ++ put8 (vclass.getD 4))
  refine ⟨?_, rfl, rfl, ?_, by simp [Body.bytes]⟩
  · simp only [readBody, Body.kind, Body.bytes, List.append_assoc, hk, at16_pastKey, at8_pastKey, at8_past16,
      at16_here _ hs, at8_last (class_le hclass), hclamp, clampClass_of_ok hclass]
  · simpa only [bodyFieldsOk, Body.kind, Body.bytes, List.append_assoc] using hbase

theorem take_readsBack {k : JobKey} {score rank : Nat} {rep : Bool} (h : (Body.take k score rank rep).wellFormed = true) :
    readsBack (.take k score rank rep) := by
  simp only [Machine.Body.wellFormed, Bool.and_eq_true, decide_eq_true_eq] at h
  obtain ⟨⟨hkey, hscore⟩, hrank⟩ := h
  obtain ⟨hclamp, hs⟩ := score_le hscore
  obtain ⟨hrep, hr⟩ := bool_testBit rep
  obtain ⟨hk, hbase⟩ := key_readsBack hkey (put16 score ++ (put8 rank ++ put8 rep.toNat))
  refine ⟨?_, rfl, rfl, ?_, by simp [Body.bytes]⟩
  · simp only [readBody, Body.kind, Body.bytes, List.append_assoc, hk, at16_pastKey, at8_pastKey, at8_past16, at8_past8,
      at16_here _ hs, at8_here _ hrank, at8_last hr, hclamp, hrep]
  · simpa only [bodyFieldsOk, Body.kind, Body.bytes, List.append_assoc] using hbase

theorem drop_readsBack {k : JobKey} {reason : Nat} (h : (Body.drop k reason).wellFormed = true) :
    readsBack (.drop k reason) := by
  simp only [Machine.Body.wellFormed, Bool.and_eq_true, decide_eq_true_eq] at h
  obtain ⟨hkey, hreason⟩ := h
  obtain ⟨hk, hbase⟩ := key_readsBack hkey (put8 reason)
  refine ⟨?_, rfl, rfl, hbase, by simp [Body.bytes]⟩
  simp only [readBody, Body.kind, Body.bytes, hk, at8_pastKey, at8_last hreason]

theorem cancel_readsBack {job reason : Nat} (h : (Body.cancel job reason).wellFormed = true) :
    readsBack (.cancel job reason) := by
  simp only [Machine.Body.wellFormed, Bool.and_eq_true, decide_eq_true_eq] at h
  obtain ⟨hjob, hreason⟩ := h
  have hclamp : clampReason reason = reason := Nat.min_eq_left hreason
  refine ⟨?_, rfl, rfl, rfl, by simp [Body.bytes]⟩
  simp only [readBody, Body.kind, Body.bytes, at16_here _ hjob, at8_past16,
    at8_last (show reason ≤ 255 by omega), hclamp]

theorem receipt_readsBack {dest id : Nat} {kind : ReceiptKind} (h : (Body.receipt dest id kind).wellFormed = true) :
    readsBack (.receipt dest id kind) := by
  simp only [Machine.Body.wellFormed, Bool.and_eq_true, decide_eq_true_eq] at h
  obtain ⟨hdest, hid⟩ := h
  have hd : dest ≤ 4094 := by
    simp only [isStation, Bool.and_eq_true, decide_eq_true_eq] at hdest
    exact hdest.2
  have hcode : (ReceiptKind.ofCode kind.code).getD .stored = kind ∧ kind.code ≤ 2 := by cases kind <;> decide
  obtain ⟨hkind, hc⟩ := hcode
  have hat : atId (Body.receipt dest id kind).bytes 0 = dest := by
    refine atId_of ?_ (by omega)
    rw [Body.bytes, List.append_assoc, at16_here _ (by omega)]
  have hk : at8 (Body.receipt dest id kind).bytes 3 = kind.code := by
    simp only [Body.bytes, List.append_assoc, at8_past16, at8_past8, at8_last (show kind.code ≤ 255 by omega)]
  refine ⟨?_, rfl, rfl, ?_, by simp [Body.bytes]⟩
  · simp only [readBody, Body.kind, hat, hk, hkind]
    simp only [Body.bytes, List.append_assoc, at8_past16, at8_here _ hid]
  · simp only [bodyFieldsOk, Body.kind, hat, hk, hdest, Bool.true_and]
    exact decide_eq_true hc

theorem flags2 (a b : Bool) : (flagBits [a, b]).testBit 0 = a ∧ (flagBits [a, b]).testBit 1 = b ∧ flagBits [a, b] ≤ 255 := by
  cases a <;> cases b <;> decide

theorem flags3 (a b c : Bool) : (flagBits [a, b, c]).testBit 0 = a ∧ (flagBits [a, b, c]).testBit 1 = b
    ∧ (flagBits [a, b, c]).testBit 2 = c ∧ flagBits [a, b, c] ≤ 255 := by
  cases a <;> cases b <;> cases c <;> decide

theorem alarm_readsBack {serial count : Nat} {fix duress : Bool} {pos : Point}
    (h : (Body.alarm serial count fix duress pos).wellFormed = true) : readsBack (.alarm serial count fix duress pos) := by
  simp only [Machine.Body.wellFormed, Machine.Point.wellFormed, Bool.and_eq_true, decide_eq_true_eq] at h
  obtain ⟨⟨hserial, hcount⟩, heast, hnorth⟩ := h
  obtain ⟨hfix, hduress, hf⟩ := flags2 fix duress
  refine ⟨?_, rfl, rfl, rfl, by simp [Body.bytes]⟩
  simp only [readBody, Body.kind, Body.bytes, putPoint, putFlags, pointAt, List.append_assoc, at8_past8, at16_past8, at16_past16,
    Nat.reduceAdd, at8_here _ hserial, at8_here _ hcount, at8_here _ hf, at16_here _ heast, at16_last hnorth, hfix, hduress]

theorem alarmEnd_readsBack {serial : Nat} {pos : Point} (h : (Body.alarmEnd serial pos).wellFormed = true) :
    readsBack (.alarmEnd serial pos) := by
  simp only [Machine.Body.wellFormed, Machine.Point.wellFormed, Bool.and_eq_true, decide_eq_true_eq] at h
  obtain ⟨hserial, heast, hnorth⟩ := h
  refine ⟨?_, rfl, rfl, rfl, by simp [Body.bytes]⟩
  simp only [readBody, Body.kind, Body.bytes, putPoint, pointAt, at16_past8, at16_past16, Nat.reduceAdd,
    at8_here _ hserial, at16_here _ heast, at16_last hnorth]

theorem tally_readsBack {t : TallyBody} (h : (Body.tally t).wellFormed = true) : readsBack (.tally t) := by
  simp only [Machine.Body.wellFormed, Bool.and_eq_true, decide_eq_true_eq] at h
  obtain ⟨⟨⟨⟨⟨⟨hdest, htrips⟩, hfare⟩, hextras⟩, hhired⟩, hdist⟩, hlast⟩ := h
  have hd : t.dest ≤ 31 := by
    simp only [isBase, Bool.and_eq_true, decide_eq_true_eq] at hdest
    exact hdest.2
  obtain ⟨hend, he⟩ := bool_testBit t.shiftEnd
  have hat : atId (Body.tally t).bytes 0 = t.dest := by
    refine atId_of ?_ (by omega)
    simp only [Body.bytes, List.append_assoc, at16_here _ (show t.dest ≤ 65535 by omega)]
  refine ⟨?_, rfl, rfl, ?_, by simp [Body.bytes]⟩
  · simp only [readBody, Body.kind, hat]
    simp only [Body.bytes, List.append_assoc, at8_past16, at16_past16, at16_past8, at16_past32, at32_past16, at32_past8,
      at32_past32, at8_here _ he, hend, at16_here _ htrips, at32_here _ hfare, at32_here _ hextras,
      at32_here _ hhired, at32_here _ hdist, at16_last hlast]
  · simpa only [bodyFieldsOk, Body.kind, hat] using hdest

/-! ## NOTE -/

theorem note_flags (n : NoteBody) : at8 (Body.note n).bytes 3 = flagBits [n.wanted, n.urgent, n.ref.isSome] := by
  obtain ⟨-, -, -, hf⟩ := flags3 n.wanted n.urgent n.ref.isSome
  simp only [Body.bytes, putFlags, List.append_assoc, at8_past16, at8_past8, at8_here _ hf]

/-- The parts of a NOTE before the job reference, read back. -/
theorem note_head {n : NoteBody} (hd : n.dest ≤ 4095) (hid : n.id ≤ 255) : atId (Body.note n).bytes 0 = n.dest
    ∧ at8 (Body.note n).bytes 2 = n.id := by
  constructor
  · refine atId_of ?_ hd
    simp only [Body.bytes, List.append_assoc, at16_here _ (show n.dest ≤ 65535 by omega)]
  · simp only [Body.bytes, List.append_assoc, at8_past16, at8_here _ hid]

/-- The tests of R8 on a NOTE whose text length stands at this offset. -/
theorem note_tests {b : List Byte} {at_ n : Nat} {ref : Bool} (href : (at8 b 3).testBit 2 = ref) (hat : at_ = if ref then 8 else 4)
    (hn : at8 b at_ = n) (hl : b.length = at_ + 1 + n) (h1 : 1 ≤ n) (h40 : n ≤ 40) :
    layoutLength .note b = some b.length ∧ variableLengthOk .note b = true ∧ noteLenAt b = at_ := by
  have hlen : noteLenAt b = at_ := by rw [noteLenAt, href, hat]
  refine ⟨?_, ?_, hlen⟩
  · cases ref with
    | false =>
      obtain rfl : at_ = 4 := hat
      simp only [layoutLength, href, hn, Bool.and_false, Bool.false_eq_true, if_false]
      rw [if_pos (by omega), hl]
    | true =>
      obtain rfl : at_ = 8 := hat
      simp only [layoutLength, href, hn, Bool.and_true]
      rw [if_pos (by simp only [decide_eq_true_eq]; omega), if_pos (by omega), hl]
  · simp only [variableLengthOk, hlen, hn, Bool.and_eq_true, decide_eq_true_eq]
    exact ⟨h1, h40⟩

theorem note_readsBack {n : NoteBody} (h : (Body.note n).wellFormed = true) : readsBack (.note n) := by
  simp only [Machine.Body.wellFormed, Bool.and_eq_true, decide_eq_true_eq] at h
  obtain ⟨⟨⟨⟨⟨⟨hd1, hdest⟩, hid⟩, href⟩, ht1⟩, htext⟩, hprint⟩ := h
  obtain ⟨hat, hnid⟩ := note_head hdest hid
  have hflags := note_flags n
  obtain ⟨hwanted, hurgent, hpresent, hf⟩ := flags3 n.wanted n.urgent n.ref.isSome
  rw [← hflags] at hwanted hurgent hpresent hf
  have hfields : bodyFieldsOk .note (Body.note n).bytes = true := by
    simp only [bodyFieldsOk, hat, bne_iff_ne]
    omega
  have htl : n.text.length ≤ 255 := by omega
  obtain ⟨dest, id, wanted, urgent, ref, text⟩ := n
  replace htext : text.length ≤ 40 := htext
  cases ref with
  | none =>
    have hlen : at8 (Body.note ⟨dest, id, wanted, urgent, none, text⟩).bytes 4 = text.length := by
      simp only [Body.bytes, putFlags, Option.map_none, Option.getD_none, List.nil_append, List.append_assoc, at8_past16,
        at8_past8, at8_here _ htl]
    have htotal : (Body.note ⟨dest, id, wanted, urgent, none, text⟩).bytes.length = 4 + 1 + text.length := by
      simp only [Body.bytes, Option.map_none, Option.getD_none, List.length_append, put16_length, put8_length,
        putFlags_length, List.length_nil]
    obtain ⟨hlay, hvar, hoff⟩ := note_tests hpresent rfl hlen htotal ht1 htext
    have hdrop : (Body.note ⟨dest, id, wanted, urgent, none, text⟩).bytes.drop (4 + 1) = text := rfl
    refine ⟨?_, hlay, hvar, hfields, by omega⟩
    simp only [readBody, Body.kind, hat, hnid, hwanted, hurgent, hpresent, hoff, Option.isSome_none,
      Bool.false_eq_true, if_false, hdrop, map_clampChar hprint]
  | some k =>
    simp only [Option.all_some, Bool.and_eq_true, decide_eq_true_eq] at href
    obtain ⟨hbase, hjob⟩ := href
    have hlen : at8 (Body.note ⟨dest, id, wanted, urgent, some k, text⟩).bytes 8 = text.length := by
      simp only [Body.bytes, putFlags, Option.map_some, Option.getD_some, List.append_assoc, at8_past16,
        at8_past8, at8_pastKey, at8_here _ htl]
    have htotal : (Body.note ⟨dest, id, wanted, urgent, some k, text⟩).bytes.length = 8 + 1 + text.length := by
      simp only [Body.bytes, Option.map_some, Option.getD_some, List.length_append, put16_length, put8_length,
        putFlags_length, putKey_length]
    obtain ⟨hlay, hvar, hoff⟩ := note_tests hpresent rfl hlen htotal ht1 htext
    have hdrop : (Body.note ⟨dest, id, wanted, urgent, some k, text⟩).bytes.drop (8 + 1) = text := rfl
    have hkey : keyAt (Body.note ⟨dest, id, wanted, urgent, some k, text⟩).bytes 4 = k := by
      have hb : atId (Body.note ⟨dest, id, wanted, urgent, some k, text⟩).bytes 4 = k.base := by
        refine atId_of ?_ hbase
        simp only [Body.bytes, putFlags, putKey, Option.map_some, Option.getD_some, List.append_assoc, at16_past16,
          at16_past8, at16_here _ (show k.base ≤ 65535 by omega)]
      simp only [keyAt, hb]
      simp only [Body.bytes, putFlags, putKey, Option.map_some, Option.getD_some, List.append_assoc, at16_past16,
          at16_past8, at16_here _ hjob]
    refine ⟨?_, hlay, hvar, hfields, by omega⟩
    simp only [readBody, Body.kind, hat, hnid, hwanted, hurgent, hpresent, hoff, hkey, Option.isSome_some, if_true, hdrop,
      map_clampChar hprint]

/-- Every body that section 1.4 admits. -/
theorem body_readsBack {b : Body} (h : b.wellFormed = true) : readsBack b := by
  cases b with
  | beacon => exact beacon_readsBack h
  | offer => exact offer_readsBack h
  | claim => exact claim_readsBack h
  | take => exact take_readsBack h
  | drop => exact drop_readsBack h
  | cancel => exact cancel_readsBack h
  | note => exact note_readsBack h
  | receipt => exact receipt_readsBack h
  | alarm => exact alarm_readsBack h
  | alarmEnd => exact alarmEnd_readsBack h
  | tally => exact tally_readsBack h

/-! ## The header (section 1.2) -/

section
variable {f : Frame}

theorem originOk_le {k : Kind} {o : Nat} (h : originOk k o = true) : o ≤ 4095 := by
  cases k <;> simp only [originOk, isBase, isStation, isCab, Bool.and_eq_true, decide_eq_true_eq] at h <;> omega

theorem kind_readsBack (k : Kind) : Kind.ofCode k.code = some k ∧ k.code ≤ 255 := by cases k <;> decide

theorem content_eq (f : Frame) : f.content = put8 f.body.kind.code ++ (put8 f.fleet
    ++ (put16 (f.hops * 16384 + f.relayed.toNat * 8192 + f.origin) ++ (put16 f.sender ++ (put8 f.seq
      ++ (put8 f.body.bytes.length ++ f.body.bytes))))) := by
  simp only [Frame.content, Frame.header, List.append_assoc]

theorem content_drop (f : Frame) : f.content.drop 8 = f.body.bytes := rfl

theorem content_length (f : Frame) : f.content.length = 8 + f.body.bytes.length := by
  simp only [Frame.content, Frame.header, List.length_append, put16_length, put8_length]

/-- The two flag bytes of the header: hops, the relayed flag and the origin. -/
theorem origin_word (h o : Nat) (r : Bool) (hh : h ≤ 3) (ho : o ≤ 4095) :
    (h * 16384 + r.toNat * 8192 + o) ≤ 65535 ∧ (h * 16384 + r.toNat * 8192 + o) % 4096 = o
    ∧ (h * 16384 + r.toNat * 8192 + o) / 256 / 64 = h ∧ ((h * 16384 + r.toNat * 8192 + o) / 256).testBit 5 = r := by
  have hr : r.toNat ≤ 1 := r.toNat_le
  refine ⟨by omega, by omega, by omega, ?_⟩
  have hbit : (h * 16384 + r.toNat * 8192 + o) / 256 / 2 ^ 5 % 2 = r.toNat := by omega
  rw [Nat.testBit_eq_decide_div_mod_eq, hbit]
  cases r <;> rfl

/-- Every frame of sections 1.2 and 1.4 is read back from header and body. -/
theorem readFrame_content (h : f.wellFormed = true) : readFrame f.content = some f := by
  simp only [Machine.Frame.wellFormed, Bool.and_eq_true, decide_eq_true_eq] at h
  obtain ⟨⟨⟨⟨⟨hfleet, horigin⟩, hsender⟩, hhops⟩, hseq⟩, hbody⟩ := h
  obtain ⟨hread, hlay, hvar, hfields, hlen⟩ := body_readsBack hbody
  obtain ⟨hkind, hcode⟩ := kind_readsBack f.body.kind
  have ho := originOk_le horigin
  have hs : f.sender ≤ 4095 := by
    simp only [isStation, Bool.and_eq_true, decide_eq_true_eq] at hsender
    omega
  obtain ⟨hw, hid, hhop, hrel⟩ := origin_word f.hops f.origin f.relayed hhops ho
  have c0 : at8 f.content 0 = f.body.kind.code := by rw [content_eq, at8_here _ hcode]
  have c1 : at8 f.content 1 = f.fleet := by rw [content_eq, at8_past8, at8_here _ hfleet]
  have c2 : at16 f.content 2 = f.hops * 16384 + f.relayed.toNat * 8192 + f.origin := by
    rw [content_eq, at16_past8, at16_past8, at16_here _ hw]
  have c2' : at8 f.content 2 = (f.hops * 16384 + f.relayed.toNat * 8192 + f.origin) / 256 := by
    have hlow := at8_lt f.content (2 + 1)
    rw [at16] at c2
    omega
  have c4 : atId f.content 4 = f.sender := by
    refine atId_of ?_ hs
    rw [content_eq, at16_past8, at16_past8, at16_past16, at16_here _ (by omega)]
  have c6 : at8 f.content 6 = f.seq := by
    rw [content_eq, at8_past8, at8_past8, at8_past16, at8_past16, at8_here _ hseq]
  have c2o : atId f.content 2 = f.origin := by rw [atId, c2, hid]
  have htests : (layoutLength f.body.kind f.body.bytes == some f.body.bytes.length && variableLengthOk f.body.kind f.body.bytes
      && originOk f.body.kind f.origin && isStation f.sender && bodyFieldsOk f.body.kind f.body.bytes) = true := by
    simp only [hlay, hvar, horigin, hsender, hfields, beq_self_eq_true, Bool.and_self]
  simp only [readFrame, c0, hkind, c2o, c4, content_drop, Option.bind_eq_bind, Option.bind_some, htests, if_true, c1, c2', hhop,
    hrel, c6, hread]

theorem bytes_whole (h : f.body.wellFormed = true) : frameWhole f.bytes = true := by
  obtain ⟨-, -, -, -, hlen⟩ := body_readsBack h
  have c7 : at8 f.bytes 7 = f.body.bytes.length := by
    rw [Frame.bytes, content_eq]
    simp only [List.append_assoc, at8_past8, at8_past16, at8_here _ (show f.body.bytes.length ≤ 255 by omega)]
  have hl : f.bytes.length = 10 + f.body.bytes.length := by
    rw [Frame.bytes, List.length_append, content_length]
    simp only [crcBytes, List.length_cons, List.length_nil]
    omega
  simp only [frameWhole, hl, c7, maxBody, Bool.and_eq_true, decide_eq_true_eq, beq_self_eq_true, and_true]
  omega

theorem bytes_fleet (h : f.fleet ≤ 255) : at8 f.bytes 1 = f.fleet := by
  rw [Frame.bytes, content_eq]
  simp only [List.append_assoc, at8_past8, at8_here _ h]

end

end Sys2Proof
end

section
/-! PROOFS. Which bytes are read as a frame, and as which (O3). -/

namespace Sys2Proof

open Sys2Proof.Machine

/-! ## Station ids (R8) -/

theorem isBase_iff (n : Nat) : isBase n = true ↔ 1 ≤ n ∧ n ≤ 31 := by
  simp only [isBase, Bool.and_eq_true, decide_eq_true_eq]

theorem isCab_iff (n : Nat) : isCab n = true ↔ 32 ≤ n ∧ n ≤ 4094 := by
  simp only [isCab, Bool.and_eq_true, decide_eq_true_eq]

theorem isStation_iff (n : Nat) : isStation n = true ↔ 1 ≤ n ∧ n ≤ 4094 := by
  simp only [isStation, Bool.and_eq_true, decide_eq_true_eq]

/-! ## Kinds and fields by offset in header and body -/

theorem ofCode_iff (c : Nat) (k : Kind) : Kind.ofCode c = some k ↔ c = k.code := by
  constructor
  · intro h
    exact (beq_iff_eq.1 (List.find?_some (p := fun x : Kind => x.code == c) h)).symm
  · rintro rfl
    exact (kind_readsBack k).1

section
variable (l : List Byte)

theorem at16_drop (n i : Nat) : at16 (l.drop n) i = at16 l (n + i) := by
  rw [at16, at8_drop, at8_drop]
  rfl

theorem atId_drop (n i : Nat) : atId (l.drop n) i = atId l (n + i) := by rw [atId, at16_drop]; rfl

theorem at32_drop (n i : Nat) : at32 (l.drop n) i = at32 l (n + i) := by
  rw [at32, at16_drop, at16_drop]
  rfl

end

/-! ## The tests of R8, kind by kind -/

theorem some_length_iff (l : List Byte) {n : Nat} (h : 0 < n) :
    (some n == some (l.drop 8).length) = true ↔ l.length = 8 + n := by
  rw [beq_iff_eq, Option.some.injEq, List.length_drop]
  omega

section
variable (l : List Byte) (o : Nat)

theorem bodyOk_beacon : bodyOk .beacon o (l.drop 8) = true ↔ l.length = 8 + 7 ∧ 1 ≤ o ∧ o ≤ 4094 := by
  simp only [bodyOk, layoutLength, variableLengthOk, originOk, bodyFieldsOk, Bool.and_eq_true, some_length_iff l (n := 7) (by decide),
    isStation_iff, and_true]

theorem bodyOk_claim : bodyOk .claim o (l.drop 8) = true
    ↔ (l.length = 8 + 7 ∧ 32 ≤ o ∧ o ≤ 4094) ∧ 1 ≤ atId l 8 ∧ atId l 8 ≤ 31 := by
  simp only [bodyOk, layoutLength, variableLengthOk, originOk, bodyFieldsOk, Bool.and_eq_true, some_length_iff l (n := 7) (by decide),
    isCab_iff, isBase_iff, atId_drop, Nat.add_zero, and_true]

theorem bodyOk_take : bodyOk .take o (l.drop 8) = true
    ↔ (l.length = 8 + 8 ∧ 32 ≤ o ∧ o ≤ 4094) ∧ 1 ≤ atId l 8 ∧ atId l 8 ≤ 31 := by
  simp only [bodyOk, layoutLength, variableLengthOk, originOk, bodyFieldsOk, Bool.and_eq_true, some_length_iff l (n := 8) (by decide),
    isCab_iff, isBase_iff, atId_drop, Nat.add_zero, and_true]

theorem bodyOk_drop : bodyOk .drop o (l.drop 8) = true
    ↔ (l.length = 8 + 5 ∧ 32 ≤ o ∧ o ≤ 4094) ∧ 1 ≤ atId l 8 ∧ atId l 8 ≤ 31 := by
  simp only [bodyOk, layoutLength, variableLengthOk, originOk, bodyFieldsOk, Bool.and_eq_true, some_length_iff l (n := 5) (by decide),
    isCab_iff, isBase_iff, atId_drop, Nat.add_zero, and_true]

theorem bodyOk_cancel : bodyOk .cancel o (l.drop 8) = true ↔ l.length = 8 + 3 ∧ 1 ≤ o ∧ o ≤ 31 := by
  simp only [bodyOk, layoutLength, variableLengthOk, originOk, bodyFieldsOk, Bool.and_eq_true, some_length_iff l (n := 3) (by decide),
    isBase_iff, and_true]

theorem bodyOk_receipt : bodyOk .receipt o (l.drop 8) = true
    ↔ (l.length = 8 + 4 ∧ 1 ≤ o ∧ o ≤ 4094) ∧ (1 ≤ atId l 8 ∧ atId l 8 ≤ 4094) ∧ at8 l 11 ≤ 2 := by
  simp only [bodyOk, layoutLength, variableLengthOk, originOk, bodyFieldsOk, Bool.and_eq_true, some_length_iff l (n := 4) (by decide),
    isStation_iff, atId_drop, at8_drop, Nat.add_zero, Nat.reduceAdd, decide_eq_true_eq, and_true]

theorem bodyOk_alarm : bodyOk .alarm o (l.drop 8) = true ↔ l.length = 8 + 7 ∧ 32 ≤ o ∧ o ≤ 4094 := by
  simp only [bodyOk, layoutLength, variableLengthOk, originOk, bodyFieldsOk, Bool.and_eq_true, some_length_iff l (n := 7) (by decide),
    isCab_iff, and_true]

theorem bodyOk_alarmEnd : bodyOk .alarmEnd o (l.drop 8) = true ↔ l.length = 8 + 5 ∧ 32 ≤ o ∧ o ≤ 4094 := by
  simp only [bodyOk, layoutLength, variableLengthOk, originOk, bodyFieldsOk, Bool.and_eq_true, some_length_iff l (n := 5) (by decide),
    isCab_iff, and_true]

theorem bodyOk_tally : bodyOk .tally o (l.drop 8) = true
    ↔ (l.length = 8 + 23 ∧ 32 ≤ o ∧ o ≤ 4094) ∧ 1 ≤ atId l 8 ∧ atId l 8 ≤ 31 := by
  simp only [bodyOk, layoutLength, variableLengthOk, originOk, bodyFieldsOk, Bool.and_eq_true, some_length_iff l (n := 23) (by decide),
    isCab_iff, isBase_iff, atId_drop, Nat.add_zero, and_true]

/-- A body whose length field stands beyond its shortest form. -/
theorem bounded_length_iff {least n : Nat} (h : 0 < least) : ((if least ≤ (l.drop 8).length then some (least + n) else none)
    == some (l.drop 8).length) = true ↔ l.length = 8 + (least + n) := by
  rw [List.length_drop, beq_iff_eq]
  split
  · rw [Option.some.injEq]
    omega
  · refine ⟨nofun, fun hl => ?_⟩
    omega

theorem bodyOk_offer : bodyOk .offer o (l.drop 8) = true
    ↔ (l.length = 8 + (11 + at8 l 18) ∧ 1 ≤ o ∧ o ≤ 31) ∧ at8 l 18 ≤ 24 := by
  simp only [bodyOk, layoutLength, variableLengthOk, originOk, bodyFieldsOk, Bool.and_eq_true, bounded_length_iff l (least := 11) (by decide),
    isBase_iff, at8_drop, Nat.reduceAdd, decide_eq_true_eq, and_true]
  tauto

/-- A NOTE without the job reference. -/
theorem bodyOk_note_plain (h : (at8 l 11).testBit 2 = false) : bodyOk .note o (l.drop 8) = true
    ↔ (l.length = 8 + (5 + at8 l 12) ∧ 1 ≤ o ∧ o ≤ 4094) ∧ atId l 8 ≠ 0 ∧ 1 ≤ at8 l 12 ∧ at8 l 12 ≤ 40 := by
  simp only [bodyOk, layoutLength, variableLengthOk, noteLenAt, originOk, bodyFieldsOk, at8_drop, atId_drop, Nat.reduceAdd, Nat.add_zero, h,
    Bool.and_false, Bool.false_eq_true, if_false, Bool.and_eq_true, bounded_length_iff l (least := 5) (by decide), isStation_iff,
    bne_iff_ne, decide_eq_true_eq]
  tauto

/-- A NOTE with the job reference. -/
theorem bodyOk_note_ref (h : (at8 l 11).testBit 2 = true) : bodyOk .note o (l.drop 8) = true
    ↔ (l.length = 8 + (9 + at8 l 16) ∧ 1 ≤ o ∧ o ≤ 4094) ∧ atId l 8 ≠ 0 ∧ 1 ≤ at8 l 16 ∧ at8 l 16 ≤ 40 := by
  have h4 : 12 ≤ l.length := by
    by_contra hlt
    have h0 : at8 l 11 = 0 := by
      rw [at8, List.getD_eq_default _ _ (by omega)]
      rfl
    rw [h0] at h
    exact absurd h (by decide)
  have hlong : 4 ≤ (l.drop 8).length := by rw [List.length_drop]; omega
  simp only [bodyOk, layoutLength, variableLengthOk, noteLenAt, originOk, bodyFieldsOk, at8_drop, atId_drop, Nat.reduceAdd, Nat.add_zero, h,
    hlong, decide_true, Bool.and_true, if_true, Bool.and_eq_true, bounded_length_iff l (least := 9) (by decide), isStation_iff,
    bne_iff_ne, decide_eq_true_eq]
  tauto

end

/-! ## The values of R9, kind by kind -/

theorem availCodes (n : Nat) : Avail.ofCode (n % 16)
    = [Avail.free, .noFix, .onCall, .hired, .total, .onBreak, .off, .alarm][n % 16]? := by
  have h : ∀ i < 16, Avail.ofCode i = [Avail.free, .noFix, .onCall, .hired, .total, .onBreak, .off, .alarm][i]? := by decide
  exact h _ (Nat.mod_lt _ (by decide))

theorem receiptCodes {n : Nat} (h : n ≤ 2) (kind : ReceiptKind) :
    [ReceiptKind.stored, .read, .refusedFull][n]? = some kind ↔ kind = (ReceiptKind.ofCode n).getD .stored := by
  have h' : ∀ i < 3, ∀ kind, [ReceiptKind.stored, .read, .refusedFull][i]? = some kind
      ↔ kind = (ReceiptKind.ofCode i).getD .stored := by
    intro i hi kind
    interval_cases i <;> cases kind <;> decide
  exact h' n (by omega) kind

theorem clampChar_eq : clampChar = fun x : Byte => if 0x20 ≤ x.toNat ∧ x.toNat ≤ 0x7E then x else 0x3F := by
  funext x
  simp only [clampChar, printable, Bool.and_eq_true, decide_eq_true_eq]

theorem clampZone_eq (z : Nat) : clampZone z = if z ≤ 63 then z else 255 := if_congr (by omega) rfl rfl

section
variable (l : List Byte)

theorem readBody_beacon : readBody .beacon (l.drop 8) = .beacon ⟨at16 l 8, at16 l 10⟩ ((at8 l 12).testBit 7)
    [Avail.free, .noFix, .onCall, .hired, .total, .onBreak, .off, .alarm][at8 l 12 % 16]?
    (if at8 l 13 ≤ 63 then at8 l 13 else 255) (if at8 l 14 ≤ 3 then some (at8 l 14) else none) := by
  simp only [readBody, pointAt, at8_drop, at16_drop, Nat.reduceAdd, Nat.add_zero, availCodes, clampZone_eq, clampClass]

/-- A text from an offset of the body, with the characters of R9. -/
theorem text_drop (n : Nat) : (((l.drop 8).drop n).map clampChar)
    = (l.drop (8 + n)).map fun x => if 0x20 ≤ x.toNat ∧ x.toNat ≤ 0x7E then x else 0x3F := by
  rw [List.drop_drop, clampChar_eq]

theorem readBody_offer : readBody .offer (l.drop 8) = .offer {
    job := at16 l 8, pickup := ⟨at16 l 10, at16 l 12⟩, zone := if at8 l 14 ≤ 63 then at8 l 14 else 255
    window := min (at8 l 15) 300, mask := BitVec.ofNat 4 (at8 l 16), account := (at8 l 17).testBit 0
    note := (l.drop 19).map fun x => if 0x20 ≤ x.toNat ∧ x.toNat ≤ 0x7E then x else 0x3F } := by
  simp only [readBody, pointAt, at8_drop, at16_drop, Nat.reduceAdd, Nat.add_zero, clampZone_eq, clampWindow, text_drop]

theorem readBody_claim : readBody .claim (l.drop 8) = .claim ⟨atId l 8, at16 l 10⟩ (min (at16 l 12) 1023)
    (if at8 l 14 ≤ 3 then some (at8 l 14) else none) := by
  simp only [readBody, keyAt, at8_drop, at16_drop, atId_drop, Nat.reduceAdd, Nat.add_zero, clampClass, clampScore]

theorem readBody_take : readBody .take (l.drop 8) = .take ⟨atId l 8, at16 l 10⟩ (min (at16 l 12) 1023) (at8 l 14)
    ((at8 l 15).testBit 0) := by
  simp only [readBody, keyAt, at8_drop, at16_drop, atId_drop, Nat.reduceAdd, Nat.add_zero, clampScore]

theorem readBody_drop : readBody .drop (l.drop 8) = .drop ⟨atId l 8, at16 l 10⟩ (at8 l 12) := by
  simp only [readBody, keyAt, at8_drop, at16_drop, atId_drop, Nat.reduceAdd, Nat.add_zero]

theorem readBody_cancel : readBody .cancel (l.drop 8) = .cancel (at16 l 8) (min (at8 l 10) 2) := by
  simp only [readBody, at8_drop, at16_drop, Nat.reduceAdd, Nat.add_zero, clampReason]

theorem readBody_note_plain (h : (at8 l 11).testBit 2 = false) : readBody .note (l.drop 8) = .note {
    dest := atId l 8, id := at8 l 10, wanted := (at8 l 11).testBit 0, urgent := (at8 l 11).testBit 1, ref := none
    text := (l.drop 13).map fun x => if 0x20 ≤ x.toNat ∧ x.toNat ≤ 0x7E then x else 0x3F } := by
  simp only [readBody, noteLenAt, at8_drop, atId_drop, Nat.reduceAdd, Nat.add_zero, h, Bool.false_eq_true, if_false, text_drop]

theorem readBody_note_ref (h : (at8 l 11).testBit 2 = true) : readBody .note (l.drop 8) = .note {
    dest := atId l 8, id := at8 l 10, wanted := (at8 l 11).testBit 0, urgent := (at8 l 11).testBit 1
    ref := some ⟨atId l 12, at16 l 14⟩
    text := (l.drop 17).map fun x => if 0x20 ≤ x.toNat ∧ x.toNat ≤ 0x7E then x else 0x3F } := by
  simp only [readBody, noteLenAt, keyAt, at8_drop, at16_drop, atId_drop, Nat.reduceAdd, Nat.add_zero, h, if_true, text_drop]

theorem readBody_receipt : readBody .receipt (l.drop 8)
    = .receipt (atId l 8) (at8 l 10) ((ReceiptKind.ofCode (at8 l 11)).getD .stored) := by
  simp only [readBody, at8_drop, atId_drop, Nat.reduceAdd, Nat.add_zero]

theorem readBody_alarm : readBody .alarm (l.drop 8) = .alarm (at8 l 8) (at8 l 9) ((at8 l 10).testBit 0)
    ((at8 l 10).testBit 1) ⟨at16 l 11, at16 l 13⟩ := by
  simp only [readBody, pointAt, at8_drop, at16_drop, Nat.reduceAdd, Nat.add_zero]

theorem readBody_alarmEnd : readBody .alarmEnd (l.drop 8) = .alarmEnd (at8 l 8) ⟨at16 l 9, at16 l 11⟩ := by
  simp only [readBody, pointAt, at8_drop, at16_drop, Nat.reduceAdd, Nat.add_zero]

theorem readBody_tally : readBody .tally (l.drop 8) = .tally {
    dest := atId l 8, shiftEnd := (at8 l 10).testBit 0, trips := at16 l 11, fare := at32 l 13, extras := at32 l 17
    hired := at32 l 21, dist := at32 l 25, lastTrip := at16 l 29 } := by
  simp only [readBody, at8_drop, at16_drop, at32_drop, atId_drop, Nat.reduceAdd, Nat.add_zero]

end

theorem readFrame_iff (l : List Byte) (f : Frame) : readFrame l = some f ↔
    f.fleet = at8 l 1 ∧ f.origin = atId l 2 ∧ f.hops = at8 l 2 / 64 ∧ f.relayed = (at8 l 2).testBit 5 ∧ f.sender = atId l 4
      ∧ f.seq = at8 l 6 ∧ isStation (atId l 4) = true
      ∧ ∃ k, at8 l 0 = k.code ∧ bodyOk k (atId l 2) (l.drop 8) = true ∧ f.body = readBody k (l.drop 8) := by
  cases hk : Kind.ofCode (at8 l 0) with
  | none =>
    refine ⟨fun h => ?_, fun ⟨_, _, _, _, _, _, _, k, hcode, _⟩ => ?_⟩
    · rw [readFrame, hk] at h
      cases h
    · rw [(ofCode_iff _ k).2 hcode] at hk
      cases hk
  | some k =>
    have hcode := (ofCode_iff _ k).1 hk
    have hread : readFrame l = if bodyOk k (atId l 2) (l.drop 8) && isStation (atId l 4) then some {
        fleet := at8 l 1, origin := atId l 2, hops := at8 l 2 / 64, relayed := (at8 l 2).testBit 5, sender := atId l 4
        seq := at8 l 6, body := readBody k (l.drop 8) } else none := by
      rw [readFrame, hk]
      exact if_congr (by rw [bodyOk, Bool.and_right_comm]) rfl rfl
    rw [hread]
    constructor
    · intro h
      split at h
      · next htests =>
        obtain rfl := Option.some.inj h
        obtain ⟨hbody, hsender⟩ := Bool.and_eq_true_iff.1 htests
        exact ⟨rfl, rfl, rfl, rfl, rfl, rfl, hsender, k, hcode, hbody, rfl⟩
      · cases h
    · rintro ⟨hfleet, horigin, hhops, hrelayed, hsender, hseq, hstation, k', hcode', hbody, hread'⟩
      obtain rfl : k' = k := Option.some.inj (((ofCode_iff _ k').2 hcode').symm.trans hk)
      rw [if_pos (Bool.and_eq_true_iff.2 ⟨hbody, hstation⟩), ← hfleet, ← horigin, ← hhops, ← hrelayed, ← hsender, ← hseq,
        ← hread']

/-- The job reference as the receiver takes it (R9). -/
theorem jobKey_some_iff (x : NoteBody) (k : JobKey) : x.jobKey = some k ↔ x.ref = some k ∧ 1 ≤ k.base ∧ k.base ≤ 31 := by
  rw [NoteBody.jobKey, Option.filter_eq_some_iff, isBase_iff]

/-- Settles O3: the fields are written and read at the same offsets, and the kinds' codes tell the layouts apart. -/
theorem frameBytesReadBack : Obligations.FrameBytesReadBack := by
  refine ⟨fun f h => ?_, ⟨fun l f => ?_, jobKey_some_iff⟩, crc16_crcBytes⟩
  · have hf := h
    simp only [Machine.Frame.wellFormed, Bool.and_eq_true, decide_eq_true_eq] at hf
    exact ⟨readFrame_content h, bytes_whole hf.2, checkGood_bytes f, bytes_fleet hf.1.1.1.1.1⟩
  intro c n w d id key point text base cab station zone vclass avail receipt reads
  refine (readFrame_iff l f).trans (and_congr Iff.rfl (and_congr Iff.rfl (and_congr Iff.rfl (and_congr Iff.rfl
    (and_congr Iff.rfl (and_congr Iff.rfl (and_congr (isStation_iff _) ⟨?_, ?_⟩)))))))
  · rintro ⟨k, hc, hok, hb⟩
    cases k with
    | beacon =>
      obtain ⟨hl, ho⟩ := (bodyOk_beacon l _).1 hok
      exact .inl ⟨hc, hl, ho, hb.trans (readBody_beacon l)⟩
    | offer =>
      obtain ⟨⟨hl, ho⟩, hside⟩ := (bodyOk_offer l _).1 hok
      exact .inr (.inl ⟨⟨hc, hl, ho, hb.trans (readBody_offer l)⟩, hside⟩)
    | claim =>
      obtain ⟨⟨hl, ho⟩, hside⟩ := (bodyOk_claim l _).1 hok
      exact .inr (.inr (.inl ⟨⟨hc, hl, ho, hb.trans (readBody_claim l)⟩, hside⟩))
    | take =>
      obtain ⟨⟨hl, ho⟩, hside⟩ := (bodyOk_take l _).1 hok
      exact .inr (.inr (.inr (.inl ⟨⟨hc, hl, ho, hb.trans (readBody_take l)⟩, hside⟩)))
    | drop =>
      obtain ⟨⟨hl, ho⟩, hside⟩ := (bodyOk_drop l _).1 hok
      exact .inr (.inr (.inr (.inr (.inl ⟨⟨hc, hl, ho, hb.trans (readBody_drop l)⟩, hside⟩))))
    | cancel =>
      obtain ⟨hl, ho⟩ := (bodyOk_cancel l _).1 hok
      exact .inr (.inr (.inr (.inr (.inr (.inl ⟨hc, hl, ho, hb.trans (readBody_cancel l)⟩)))))
    | alarm =>
      obtain ⟨hl, ho⟩ := (bodyOk_alarm l _).1 hok
      exact .inr (.inr (.inr (.inr (.inr (.inr (.inr (.inr (.inr (.inl ⟨hc, hl, ho, hb.trans (readBody_alarm l)⟩)))))))))
    | alarmEnd =>
      obtain ⟨hl, ho⟩ := (bodyOk_alarmEnd l _).1 hok
      exact .inr (.inr (.inr (.inr (.inr (.inr (.inr (.inr (.inr (.inr (.inl ⟨hc, hl, ho, hb.trans (readBody_alarmEnd l)⟩))))))))))
    | tally =>
      obtain ⟨⟨hl, ho⟩, hside⟩ := (bodyOk_tally l _).1 hok
      exact .inr (.inr (.inr (.inr (.inr (.inr (.inr (.inr (.inr (.inr (.inr ⟨⟨hc, hl, ho, hb.trans (readBody_tally l)⟩, hside⟩))))))))))
    | note =>
      cases href : (at8 l 11).testBit 2 with
      | false =>
        obtain ⟨⟨hl, ho⟩, hside⟩ := (bodyOk_note_plain l _ href).1 hok
        exact .inr (.inr (.inr (.inr (.inr (.inr (.inl ⟨⟨hc, hl, ho, hb.trans (readBody_note_plain l href)⟩, href, hside⟩))))))
      | true =>
        obtain ⟨⟨hl, ho⟩, hside⟩ := (bodyOk_note_ref l _ href).1 hok
        exact .inr (.inr (.inr (.inr (.inr (.inr (.inr (.inl ⟨⟨hc, hl, ho, hb.trans (readBody_note_ref l href)⟩, href, hside⟩)))))))
    | receipt =>
      obtain ⟨⟨hl, ho⟩, hdest, hkind⟩ := (bodyOk_receipt l _).1 hok
      exact .inr (.inr (.inr (.inr (.inr (.inr (.inr (.inr (.inl ⟨_, (receiptCodes hkind _).2 rfl, ⟨hc, hl, ho, hb.trans (readBody_receipt l)⟩, hdest⟩))))))))
  · rintro (⟨hc, hl, ho, hb⟩ | ⟨⟨hc, hl, ho, hb⟩, hside⟩ | ⟨⟨hc, hl, ho, hb⟩, hside⟩ | ⟨⟨hc, hl, ho, hb⟩, hside⟩ |
      ⟨⟨hc, hl, ho, hb⟩, hside⟩ | ⟨hc, hl, ho, hb⟩ | ⟨⟨hc, hl, ho, hb⟩, href, hside⟩ |
      ⟨⟨hc, hl, ho, hb⟩, href, hside⟩ | ⟨kind, hkind, ⟨hc, hl, ho, hb⟩, hdest⟩ | ⟨hc, hl, ho, hb⟩ |
      ⟨hc, hl, ho, hb⟩ | ⟨⟨hc, hl, ho, hb⟩, hside⟩)
    · exact ⟨.beacon, hc, (bodyOk_beacon l _).2 ⟨hl, ho⟩, hb.trans (readBody_beacon l).symm⟩
    · exact ⟨.offer, hc, (bodyOk_offer l _).2 ⟨⟨hl, ho⟩, hside⟩, hb.trans (readBody_offer l).symm⟩
    · exact ⟨.claim, hc, (bodyOk_claim l _).2 ⟨⟨hl, ho⟩, hside⟩, hb.trans (readBody_claim l).symm⟩
    · exact ⟨.take, hc, (bodyOk_take l _).2 ⟨⟨hl, ho⟩, hside⟩, hb.trans (readBody_take l).symm⟩
    · exact ⟨.drop, hc, (bodyOk_drop l _).2 ⟨⟨hl, ho⟩, hside⟩, hb.trans (readBody_drop l).symm⟩
    · exact ⟨.cancel, hc, (bodyOk_cancel l _).2 ⟨hl, ho⟩, hb.trans (readBody_cancel l).symm⟩
    · exact ⟨.note, hc, (bodyOk_note_plain l _ href).2 ⟨⟨hl, ho⟩, hside⟩, hb.trans (readBody_note_plain l href).symm⟩
    · exact ⟨.note, hc, (bodyOk_note_ref l _ href).2 ⟨⟨hl, ho⟩, hside⟩, hb.trans (readBody_note_ref l href).symm⟩
    · have hle : at8 l 11 ≤ 2 := Nat.lt_succ_iff.1 (List.getElem?_eq_some_iff.1 hkind).1
      obtain rfl := (receiptCodes hle kind).1 hkind
      exact ⟨.receipt, hc, (bodyOk_receipt l _).2 ⟨⟨hl, ho⟩, hdest, hle⟩, hb.trans (readBody_receipt l).symm⟩
    · exact ⟨.alarm, hc, (bodyOk_alarm l _).2 ⟨hl, ho⟩, hb.trans (readBody_alarm l).symm⟩
    · exact ⟨.alarmEnd, hc, (bodyOk_alarmEnd l _).2 ⟨hl, ho⟩, hb.trans (readBody_alarmEnd l).symm⟩
    · exact ⟨.tally, hc, (bodyOk_tally l _).2 ⟨⟨hl, ho⟩, hside⟩, hb.trans (readBody_tally l).symm⟩

end Sys2Proof
end

section
/-! PROOFS. The peer table as frames are heard (O5). -/

namespace Sys2Proof

open Sys2Proof.Machine

/-! ## What a search finds after a slot is written -/

section
variable {α : Type} {p : α → Bool} {y : α}

/-- A record without the property, written over one without it, is passed over. -/
theorem slotFind_put_other (l : List (Option α)) (k i : Nat) (hold : ∀ x, slotGet l i = some x → p x = false)
    (hy : p y = false) : slotFind p (slotPut l i y) k = slotFind p l k := by
  induction l generalizing k i with
  | nil => rfl
  | cons o l ih =>
    cases i with
    | zero =>
      have hput : slotPut (o :: l) 0 y = some y :: l := rfl
      rw [hput, slotFind, if_neg (by rw [hy]; exact Bool.false_ne_true)]
      cases o with
      | none => rfl
      | some z => rw [slotFind, if_neg (by rw [hold z rfl]; exact Bool.false_ne_true)]
    | succ i =>
      have hput : slotPut (o :: l) (i + 1) y = o :: slotPut l i y := rfl
      have hrest := ih (k + 1) i hold
      rw [hput]
      cases o with
      | none => exact hrest
      | some z => rw [slotFind, slotFind, hrest]

/-- A record with the property, written where no record has it, is the one found. -/
theorem slotFind_put_new (l : List (Option α)) (k i : Nat) (h : slotFind p l k = none) (hi : i < l.length)
    (hy : p y = true) : slotFind p (slotPut l i y) k = some (k + i, y) := by
  induction l generalizing k i with
  | nil => cases hi
  | cons o l ih =>
    cases i with
    | zero =>
      have hput : slotPut (o :: l) 0 y = some y :: l := rfl
      rw [hput, slotFind, if_pos hy]
      rfl
    | succ i =>
      have hput : slotPut (o :: l) (i + 1) y = o :: slotPut l i y := rfl
      have hlt := Nat.lt_of_succ_lt_succ hi
      rw [hput, show k + (i + 1) = k + 1 + i by omega]
      cases o with
      | none => exact ih (k + 1) i h hlt
      | some z =>
        rw [slotFind] at h ⊢
        split at h
        · cases h
        · next hz => rw [if_neg hz, ih (k + 1) i h hlt]

/-- An occupied slot written again leaves the lowest free one. -/
theorem lowestFree_put {l : List (Option α)} {i : Nat} {x : α} (h : slotGet l i = some x) :
    lowestFree (slotPut l i y) = lowestFree l := by
  induction l generalizing i with
  | nil => rfl
  | cons o l ih =>
    cases i with
    | zero =>
      obtain rfl : o = some x := h
      have hput : slotPut (some x :: l) 0 y = some y :: l := rfl
      rw [hput, lowestFree, lowestFree, List.findIdx?_cons, List.findIdx?_cons]
      rfl
    | succ i =>
      have hput : slotPut (o :: l) (i + 1) y = o :: slotPut l i y := rfl
      have hrest := ih (i := i) h
      rw [lowestFree] at hrest ⊢
      rw [hput, List.findIdx?_cons, hrest, lowestFree, lowestFree, List.findIdx?_cons]

end

section
variable {s : State} {f : Frame} {t id i j : Nat} {p q : Peer}

/-! ## The peer of a station after a write -/

theorem peer_put_same (h : s.peer id = some (i, p)) (hq : q.id = id) : (s.putPeer i q).peer id = some (i, q) := by
  have := slotFind_slotPut (fun x : Peer => x.id == id) s.ppu.peers 0 i p q (by rw [Nat.zero_add]; exact h) (by simpa using hq)
  rwa [Nat.zero_add] at this

theorem peer_put_other (hold : ∀ x, slotGet s.ppu.peers i = some x → x.id ≠ id) (hq : q.id ≠ id) :
    (s.putPeer i q).peer id = s.peer id :=
  slotFind_put_other s.ppu.peers 0 i (fun x hx => by simpa using hold x hx) (by simpa using hq)

theorem peer_put_new (h : s.peer id = none) (hi : i < s.ppu.peers.length) (hq : q.id = id) :
    (s.putPeer i q).peer id = some (i, q) := by
  have := slotFind_put_new (y := q) s.ppu.peers 0 i h hi (by simpa using hq)
  rwa [Nat.zero_add] at this

theorem putPeer_putPeer (s : State) (i : Nat) (x y : Peer) : (s.putPeer i x).putPeer i y = s.putPeer i y := by
  simp only [State.putPeer, State.setPpu, slotPut, List.set_set]

/-! ## The slot of a new peer (R59, R63) -/

/-- No alarm ACTIVE or SILENT stands for the station. -/
def unprotected (s : State) (x : Peer) : Prop :=
  ∀ a ∈ slotEntries s.emu.table, a.origin = x.id → a.state ≠ .active ∧ a.state ≠ .silent

theorem unprotected_iff (x : Peer) : (!s.alarmProtects x.id) = true ↔ unprotected s x := by
  rw [Bool.not_eq_true', State.alarmProtects, List.any_eq_false, unprotected]
  refine forall₂_congr fun a _ => ?_
  simp only [Bool.and_eq_true, Bool.or_eq_true, beq_iff_eq, not_and, not_or]

theorem peerSlot_free (h : lowestFree s.ppu.peers = some i) : s.peerSlot = some i := by
  unfold State.peerSlot
  rw [h]

theorem peerSlot_first (h : lowestFree s.ppu.peers = none) (hf : firstSlot s.ppu.peers (unprotected s) (·.lastHeard) i) :
    s.peerSlot = some i := by
  unfold State.peerSlot
  rw [h]
  exact pickLeast_firstSlot s s.ppu.peers (fun x => !s.alarmProtects x.id) (·.lastHeard) i
    (by simpa only [unprotected_iff] using hf)

theorem peerSlot_none (h : lowestFree s.ppu.peers = none) (hn : noSlot s.ppu.peers (unprotected s)) : s.peerSlot = none := by
  unfold State.peerSlot
  rw [h]
  exact pickLeast_noSlot s s.ppu.peers (fun x => !s.alarmProtects x.id) (·.lastHeard)
    (by simpa only [unprotected_iff] using hn)

/-! ## The updates (R60 to R62) -/

theorem updatePeer_known {new : Peer} {g : Peer → Peer} (h : s.peer id = some (i, p)) :
    s.updatePeer id new g = s.putPeer i (g p) := by
  unfold State.updatePeer
  rw [h]

theorem updatePeer_new {new : Peer} {g : Peer → Peer} (h : s.peer id = none) (hs : s.peerSlot = some i) :
    s.updatePeer id new g = s.nextDraw.putPeer i (g new) := by
  unfold State.updatePeer
  rw [h, hs]

theorem updatePeer_none {new : Peer} {g : Peer → Peer} (h : s.peer id = none) (hs : s.peerSlot = none) :
    s.updatePeer id new g = s := by
  unfold State.updatePeer
  rw [h, hs]

/-- The hop of an origin whose copy another station sent (R61). -/
def originHop (p : Peer) (t : Nat) : Nat :=
  match p.lastDirect with
  | some d => if p.hop = 0 ∧ t ≤ d + 60000 * ms then 0 else 1
  | none => 1

theorem asOrigin_eq (p : Peer) (t : Nat) :
    p.asOrigin t = { p with hop := originHop p t, lastHeard := t, frames := min 65535 (p.frames + 1) } := by
  obtain ⟨id, hop, heard, direct, frames, position, report⟩ := p
  cases direct with
  | none => simp [Peer.asOrigin, originHop, inc16, satAdd]
  | some d => simp [Peer.asOrigin, originHop, inc16, satAdd]

/-- The reports of the body, written over the origin's entry when there is one. -/
def reported (s : State) (f : Frame) : State :=
  match s.peer f.origin with
  | some (i, p) => s.putPeer i (p.withReports f.body)
  | none => s

theorem reported_put (h : s.peer f.origin = some (i, p)) : reported s f = s.putPeer i (p.withReports f.body) := by
  unfold reported
  rw [h]

theorem peerNotice_direct (h : f.sender = f.origin) : s.peerNotice f t
    = reported (s.updatePeer f.sender (.fresh f.sender 0) (·.asSender t)) f := by
  show reported (if f.origin == f.sender then _ else _) f = _
  rw [if_pos (beq_iff_eq.2 h.symm)]

theorem peerNotice_relayed (h : f.sender ≠ f.origin) : s.peerNotice f t
    = reported ((s.updatePeer f.sender (.fresh f.sender 0) (·.asSender t)).updatePeer f.origin (.fresh f.origin 1)
        (·.asOrigin t)) f := by
  show reported (if f.origin == f.sender then _ else _) f = _
  rw [if_neg (by simpa using h.symm)]

theorem notice_both (hne : f.sender ≠ f.origin) (hp : s.peer f.sender = some (i, p)) (hq : s.peer f.origin = some (j, q)) :
    s.peerNotice f t = (s.putPeer i (p.asSender t)).putPeer j ((q.asOrigin t).withReports f.body) := by
  obtain ⟨hi, hpid⟩ := peer_slot hp
  obtain ⟨-, hqid⟩ := peer_slot hq
  have hkeep : (s.putPeer i (p.asSender t)).peer f.origin = some (j, q) := by
    rw [peer_put_other (fun x hx => ?_) (show (p.asSender t).id ≠ f.origin from hpid ▸ hne), hq]
    obtain rfl := Option.some.inj (hi.symm.trans hx)
    exact hpid ▸ hne
  rw [peerNotice_relayed hne, updatePeer_known hp, updatePeer_known hkeep,
    reported_put (peer_put_same hkeep (show (q.asOrigin t).id = f.origin from hqid)), putPeer_putPeer]

theorem notice_newOrigin (hne : f.sender ≠ f.origin) (hp : s.peer f.sender = some (i, p)) (hq : s.peer f.origin = none)
    (hj : lowestFree s.ppu.peers = some j) : s.peerNotice f t
      = (s.putPeer i (p.asSender t)).nextDraw.putPeer j (((Peer.fresh f.origin 1).asOrigin t).withReports f.body) := by
  obtain ⟨hi, hpid⟩ := peer_slot hp
  obtain ⟨hlt, -, -⟩ := lowestFree_spec _ _ hj
  have hkeep : (s.putPeer i (p.asSender t)).peer f.origin = none := by
    rw [peer_put_other (fun x hx => ?_) (show (p.asSender t).id ≠ f.origin from hpid ▸ hne), hq]
    obtain rfl := Option.some.inj (hi.symm.trans hx)
    exact hpid ▸ hne
  have hslot : (s.putPeer i (p.asSender t)).peerSlot = some j := peerSlot_free ((lowestFree_put hi).trans hj)
  have hnew := peer_put_new (s := (s.putPeer i (p.asSender t)).nextDraw) (i := j) (q := (Peer.fresh f.origin 1).asOrigin t)
    hkeep ((slotPut_length s.ppu.peers i _).symm ▸ hlt) rfl
  rw [peerNotice_relayed hne, updatePeer_known hp, updatePeer_new hkeep hslot, reported_put hnew, putPeer_putPeer]

theorem notice_known (he : f.sender = f.origin) (hp : s.peer f.sender = some (i, p)) :
    s.peerNotice f t = s.putPeer i ((p.asSender t).withReports f.body) := by
  obtain ⟨-, hpid⟩ := peer_slot hp
  have hnew := peer_put_same (q := p.asSender t) hp hpid
  rw [he] at hnew
  rw [peerNotice_direct he, updatePeer_known hp, reported_put hnew, putPeer_putPeer]

theorem notice_new (he : f.sender = f.origin) (hp : s.peer f.sender = none) (hs : s.peerSlot = some i)
    (hi : i < s.ppu.peers.length) : s.peerNotice f t
      = s.nextDraw.putPeer i (((Peer.fresh f.sender 0).asSender t).withReports f.body) := by
  have hnew := peer_put_new (s := s.nextDraw) (q := (Peer.fresh f.sender 0).asSender t) hp hi rfl
  rw [he] at hnew
  rw [peerNotice_direct he, updatePeer_new hp hs]
  rw [he, reported_put hnew, putPeer_putPeer]

theorem notice_refused (he : f.sender = f.origin) (hp : s.peer f.sender = none) (hs : s.peerSlot = none) :
    s.peerNotice f t = s := by
  rw [peerNotice_direct he, updatePeer_none hp hs, reported, ← he, hp]

end

/-! ## A frame that passes every filter (R33, R36) -/

section
variable {s : State} {f : Frame} {further : Nat}

/-- A frame of the own fleet from another station, whole and good, with nothing of another frame behind it. -/
structure Accepted (s : State) (f : Frame) (further : Nat) : Prop where
  formed : f.wellFormed = true
  sender : f.sender ≠ s.ownId
  origin : f.origin ≠ s.ownId
  fleet : f.fleet = s.ownFleet
  taking : s.rru.rx = .taking
  extent : further < 8

theorem bytes_content (f : Frame) : f.bytes.take (f.bytes.length - 2) = f.content := by
  have hlen : f.bytes.length - 2 = f.content.length := by
    rw [Frame.bytes, List.length_append]
    exact Nat.add_sub_cancel f.content.length 2
  rw [hlen, Frame.bytes, List.take_left]

theorem Accepted.exec (h : Accepted s f further) : exec (.frameReceived f.bytes further) s
    = .next (s.acceptFrame f (min s.now (s.rru.syncAt + f.bytes.length * 8 * bitPeriod))).resumeHunt := by
  obtain ⟨hf, hsender, horigin, hfleet, hx, hfur⟩ := h
  have hread := readFrame_content hf
  simp only [Machine.Frame.wellFormed, Bool.and_eq_true, decide_eq_true_eq] at hf
  obtain ⟨⟨⟨⟨⟨hfl, -⟩, -⟩, -⟩, -⟩, hbody⟩ := hf
  have hown : ¬ (at8 f.bytes 1 != s.ownFleet) = true := by rw [bytes_fleet hfl, hfleet]; simp
  have hjudge (t : Nat) : s.judgeFrame f.bytes (8 ≤ further) t = s.acceptFrame f t := by
    unfold State.judgeFrame
    rw [checkGood_bytes, if_neg (by simp), if_neg (by simpa using hfur), if_neg hown, bytes_content, hread]
    show s.filterOwn f t = _
    rw [State.filterOwn, if_neg (by simpa using hsender), if_neg (by simpa using horigin)]
  rw [exec_frameReceived hx (bytes_whole hbody), hjudge]
  rfl

/-- One good frame more. -/
def goodFrame (s : State) : State := s.setStats { s.rru.stats with good := inc16 s.rru.stats.good }

theorem acceptFrame_unrelayed (t : Nat) (h : f.body.kind.relayable = false) :
    s.acceptFrame f t = ((goodFrame s).peerNotice f t).deliver f t := by
  show (if f.body.kind.relayable then _ else _) = _
  rw [if_neg (by rw [h]; exact Bool.false_ne_true)]
  rfl

end

/-- Settles O5: a search of the table finds again what was written, and passes over what belongs to another station. -/
theorem beaconHeardUpdatesThePeerTable : Obligations.BeaconHeardUpdatesThePeerTable := by
  refine ⟨fun f further s pos fix status zone vclass hf hb he hs hfl hx hfur => ?_, fun s f t => ?_⟩
  · intro ended rru
    have hacc : Accepted s f further := ⟨hf, hs, he ▸ hs, hfl, hx, hfur⟩
    have hrel : f.body.kind.relayable = false := by rw [hb]; rfl
    have hdel (u : State) : u.deliver f ended = u := by rw [State.deliver, hb]
    have hrep (p : Peer) : p.withReports f.body = { p with position := some ⟨pos, fix⟩, report := some ⟨status, zone, vclass⟩ } := by
      rw [hb]
      rfl
    refine ⟨fun slot p hp => ?_, fun slot hp hfree => ?_⟩
    · rw [hacc.exec, acceptFrame_unrelayed _ hrel, notice_known (s := goodFrame s) he hp, hrep]
      exact congrArg (fun u : State => Host.Outcome.next u.resumeHunt) (hdel _)
    · have hlt := (lowestFree_spec _ _ hfree).1
      rw [hacc.exec, acceptFrame_unrelayed _ hrel, notice_new (s := goodFrame s) he hp (peerSlot_free hfree) hlt, hrep]
      exact congrArg (fun u : State => Host.Outcome.next u.resumeHunt) (hdel _)
  · intro sender hop origin reports fresh put free
    have hreports (p : Peer) : p.withReports f.body = reports p := by
      simp only [reports]
      cases f.body <;> rfl
    have horigin (p : Peer) : p.asOrigin t = origin p := asOrigin_eq p t
    refine ⟨fun i p j q hne hp hq => ?_, fun i p j hne hp hq hj => ?_, fun j he hq hfull hj => ?_, fun he hq hfull hno => ?_⟩
    · rw [notice_both hne hp hq, hreports, horigin]
      rfl
    · rw [notice_newOrigin hne hp hq hj, hreports, horigin]
      rfl
    · obtain ⟨x, hx, -⟩ := id hj
      rw [notice_new he (he ▸ hq) (peerSlot_first hfull hj) (slotGet_lt hx), hreports, he]
      rfl
    · exact notice_refused he (he ▸ hq) (peerSlot_none hfull hno)

end Sys2Proof
end

section
/-! PROOFS. Received frames are filtered, cached and delivered (O4). -/

namespace Sys2Proof

open Sys2Proof.Machine

/-! ## The filters of R33 -/

section
variable {s : State} {bytes : List Byte} {f : Frame} {t : Nat}

theorem judgeFrame_bad (overrun : Bool) (h : checkGood bytes = false) : s.judgeFrame bytes overrun t
    = s.setStats { s.rru.stats with checkFailures := inc16 s.rru.stats.checkFailures } := by
  unfold State.judgeFrame
  exact if_pos (by rw [h]; rfl)

theorem judgeFrame_over (h : checkGood bytes = true) : s.judgeFrame bytes true t = s.countMalformed := by
  unfold State.judgeFrame
  rw [if_neg (by simp [h]), if_pos rfl]

theorem judgeFrame_foreign (h : checkGood bytes = true) (hf : at8 bytes 1 ≠ s.ownFleet) :
    s.judgeFrame bytes false t = s := by
  unfold State.judgeFrame
  rw [if_neg (by simp [h]), if_neg Bool.false_ne_true, if_pos (by simpa using hf)]

theorem judgeFrame_invalid (h : checkGood bytes = true) (hf : at8 bytes 1 = s.ownFleet)
    (hr : readFrame (bytes.take (bytes.length - 2)) = none) : s.judgeFrame bytes false t = s.countMalformed := by
  unfold State.judgeFrame
  rw [if_neg (by simp [h]), if_neg Bool.false_ne_true, if_neg (by simp [hf]), hr]

theorem judgeFrame_valid (h : checkGood bytes = true) (hf : at8 bytes 1 = s.ownFleet)
    (hr : readFrame (bytes.take (bytes.length - 2)) = some f) : s.judgeFrame bytes false t = s.filterOwn f t := by
  unfold State.judgeFrame
  rw [if_neg (by simp [h]), if_neg Bool.false_ne_true, if_neg (by simp [hf]), hr]

theorem filterOwn_sender (h : f.sender = s.ownId) : s.filterOwn f t = s.idClash f.origin := if_pos (by simp [h])

theorem filterOwn_origin (h : f.sender ≠ s.ownId) (ho : f.origin = s.ownId) : s.filterOwn f t = s := by
  rw [State.filterOwn, if_neg (by simpa using h), if_pos (by simp [ho])]

theorem idClash_eq (s : State) (origin : Nat) : s.idClash origin = { s with
    rru := { s.rru with stats := { s.rru.stats with idClashes := inc16 s.rru.stats.idClashes }, clashReported := true }
    cpt := if s.rru.clashReported then s.cpt else { s.cpt with
      events := (raiseIn s.cpt.events s.cpt.overflow .idClash origin 0).1
      overflow := (raiseIn s.cpt.events s.cpt.overflow .idClash origin 0).2 } } := by
  show (if s.rru.clashReported then _ else _) = _
  cases h : s.rru.clashReported with
  | true =>
    rw [if_pos rfl, if_pos rfl]
    exact congrArg (fun b => ({ s with rru := { s.rru with
      stats := { s.rru.stats with idClashes := inc16 s.rru.stats.idClashes }, clashReported := b } } : State)) h
  | false =>
    rw [if_neg Bool.false_ne_true, if_neg Bool.false_ne_true]
    rfl

theorem idClash_resumeHunt (s : State) (origin : Nat) : (s.idClash origin).resumeHunt = { s with
    rru := { s.rru with
      rx := s.rxOpen s.pins.cd, stats := { s.rru.stats with idClashes := inc16 s.rru.stats.idClashes }, clashReported := true }
    cpt := if s.rru.clashReported then s.cpt else { s.cpt with
      events := (raiseIn s.cpt.events s.cpt.overflow .idClash origin 0).1
      overflow := (raiseIn s.cpt.events s.cpt.overflow .idClash origin 0).2 } } := by
  rw [resumeHunt_eq, idClash_eq]
  cases s.rru.clashReported <;> rfl

/-! ## What the peer notice leaves alone -/

/-- Only the peer table and the use of free values change. -/
def PeersOnly (s u : State) : Prop := ∃ d peers, u = { s with draws := d, ppu := { s.ppu with peers := peers } }

theorem PeersOnly.refl (s : State) : PeersOnly s s := ⟨_, _, rfl⟩

theorem PeersOnly.trans {s u v : State} (h : PeersOnly s u) (h' : PeersOnly u v) : PeersOnly s v := by
  obtain ⟨d, peers, rfl⟩ := h
  obtain ⟨d', peers', rfl⟩ := h'
  exact ⟨d', peers', rfl⟩

theorem updatePeer_only (s : State) (id : Nat) (new : Peer) (g : Peer → Peer) : PeersOnly s (s.updatePeer id new g) := by
  unfold State.updatePeer
  split
  · exact ⟨_, _, rfl⟩
  · split
    · exact ⟨_, _, rfl⟩
    · exact .refl s

theorem reported_only (s : State) (f : Frame) : PeersOnly s (reported s f) := by
  unfold reported
  split
  · exact ⟨_, _, rfl⟩
  · exact .refl s

theorem peerNotice_only (s : State) (f : Frame) (t : Nat) : PeersOnly s (s.peerNotice f t) := by
  by_cases h : f.sender = f.origin
  · rw [peerNotice_direct h]
    exact (updatePeer_only s _ _ _).trans (reported_only _ f)
  · rw [peerNotice_relayed h]
    exact ((updatePeer_only s _ _ _).trans (updatePeer_only _ _ _ _)).trans (reported_only _ f)

/-! ## The cache (R38 to R41) -/

variable {before after : List CacheEntry} {c : CacheEntry}

theorem cached_none (h : ∀ x ∈ s.rru.cache, x.key ≠ f.key) : s.cached f.key = none :=
  List.find?_eq_none.2 fun x hx => by simpa using h x hx

theorem cached_some {k : FrameKey} (hc : s.rru.cache = before ++ c :: after) (hk : c.key = k)
    (hne : ∀ x ∈ before ++ after, x.key ≠ k) : s.cached k = some c := by
  have hb : before.find? (·.key == k) = none :=
    List.find?_eq_none.2 fun x hx => by simpa using hne x (List.mem_append_left _ hx)
  rw [State.cached, hc, List.find?_append, hb, Option.none_or, List.find?_cons_of_pos (by simpa using hk)]

/-- A change of the entry of one key leaves the others. -/
theorem map_at_key {k : FrameKey} (g : CacheEntry → CacheEntry) (hk : c.key = k) (hne : ∀ x ∈ before ++ after, x.key ≠ k) :
    ((before ++ c :: after).map fun x => if x.key == k then g x else x) = before ++ g c :: after := by
  have hrest (l : List CacheEntry) (hl : ∀ x ∈ l, x.key ≠ k) : l.map (fun x => if x.key == k then g x else x) = l := by
    refine (List.map_congr_left fun x hx => ?_).trans (List.map_id l)
    exact if_neg (by simpa using hl x hx)
  rw [List.map_append, List.map_cons, hrest before fun x hx => hne x (List.mem_append_left _ hx),
    hrest after fun x hx => hne x (List.mem_append_right _ hx), if_pos (by simpa using hk)]

/-! ## Copies (R40) -/

/-- The counts of one more good frame and of one more copy. -/
def copyStats (x : Stats) : Stats := { x with good := inc16 x.good, copies := inc16 x.copies }

theorem copyHeard_counts (hc : s.rru.cache = before ++ c :: after) (hne : ∀ x ∈ before ++ after, x.key ≠ c.key)
    (h : c.mark = .none ∨ c.copies ≠ 2) : s.copyHeard c = { s with rru := { s.rru with
      stats := { s.rru.stats with copies := inc16 s.rru.stats.copies }
      cache := before ++ { c with copies := min 15 (c.copies + 1) } :: after } } := by
  have hstay : ¬ (c.mark != .none && min 15 (c.copies + 1) == 3 && c.copies == 2) = true := by
    rcases h with h | h <;> simp [h]
  show (if (c.mark != .none && min 15 (c.copies + 1) == 3 && c.copies == 2) = true then _ else _) = _
  rw [if_neg hstay]
  have hmap := map_at_key (fun x => { x with copies := min 15 (c.copies + 1) }) rfl hne
  rw [← hc] at hmap
  exact congrArg (fun l => ({ s with rru := { s.rru with
    stats := { s.rru.stats with copies := inc16 s.rru.stats.copies }, cache := l } } : State)) hmap

/-- The state in which the second further copy has been counted. -/
def copiedTwice (s : State) (before after : List CacheEntry) (c : CacheEntry) : State := { s with rru := { s.rru with
  stats := { s.rru.stats with copies := inc16 s.rru.stats.copies }
  cache := before ++ { c with copies := 3 } :: after } }

theorem copyHeard_cancels (hc : s.rru.cache = before ++ c :: after) (hne : ∀ x ∈ before ++ after, x.key ≠ c.key)
    (hm : c.mark ≠ .none) (h2 : c.copies = 2) :
    s.copyHeard c = (copiedTwice s before after c).cancelRelay c.key c.mark := by
  have hgo : (c.mark != .none && min 15 (c.copies + 1) == 3 && c.copies == 2) = true := by simp [hm, h2]
  show (if (c.mark != .none && min 15 (c.copies + 1) == 3 && c.copies == 2) = true then _ else _) = _
  rw [if_pos hgo]
  have hmap := map_at_key (fun x => { x with copies := min 15 (c.copies + 1) }) rfl hne
  rw [← hc, h2] at hmap
  refine congrArg (fun u : State => u.cancelRelay c.key c.mark) ?_
  rw [h2]
  exact congrArg (fun l => ({ s with rru := { s.rru with
    stats := { s.rru.stats with copies := inc16 s.rru.stats.copies }, cache := l } } : State)) hmap

/-- An entry that has not expired when its mark ends keeps its place. -/
theorem endMark_at (hc : s.rru.cache = before ++ c :: after) (hne : ∀ x ∈ before ++ after, x.key ≠ c.key)
    (hlive : s.now < c.firstHeard + 60000 * ms) :
    s.endMark c.key = { s with rru := { s.rru with cache := before ++ { c with mark := .none } :: after } } := by
  have hmap := map_at_key (fun x => { x with mark := .none }) rfl hne
  simp only [beq_iff_eq] at hmap
  have hall : (before ++ { c with mark := .none } :: after).filter (fun x => !decide (x.key = c.key
      ∧ x.firstHeard + 60000 * ms ≤ s.now)) = before ++ { c with mark := .none } :: after := by
    refine List.filter_eq_self.2 fun x hx => ?_
    rcases List.mem_append.1 hx with hx | hx
    · simp [hne x (List.mem_append_left _ hx)]
    · rcases List.mem_cons.1 hx with rfl | hx
      · simpa using hlive
      · simp [hne x (List.mem_append_right _ hx)]
  rw [endMark_eq, hc, hmap, hall]

/-- The second further copy of a frame in a hold: the hold is free, and the relay cancelled. -/
theorem copyHeard_hold {i : Nat} (hc : s.rru.cache = before ++ c :: after) (hne : ∀ x ∈ before ++ after, x.key ≠ c.key)
    (hm : c.mark = .hold i) (h2 : c.copies = 2) (hlive : s.now < c.firstHeard + 60000 * ms) :
    s.copyHeard c = { s with rru := { s.rru with
      stats := { s.rru.stats with copies := inc16 s.rru.stats.copies, relaysCancelled := inc16 s.rru.stats.relaysCancelled }
      cache := before ++ { c with copies := 3, mark := .none } :: after
      holds := s.rru.holds.set i none } } := by
  have hmark : c.mark ≠ .none := by rw [hm]; nofun
  let u := copiedTwice s before after c
  rw [copyHeard_cancels hc hne hmark h2, hm]
  exact endMark_at (s := { u with rru := { u.rru with
    stats := { u.rru.stats with relaysCancelled := inc16 u.rru.stats.relaysCancelled }, holds := u.rru.holds.set i none } })
    (c := { c with copies := 3, mark := .hold i }) (by rw [← hm]; rfl) hne hlive

theorem evictCache_room (h : s.rru.cache.length < 16) : s.evictCache = s.rru.cache := if_pos h

/-- The least element, when every other is greater. -/
theorem leastBy_unique {α : Type} (key : α → Nat) (a b : List α) (x : α) (h : ∀ y ∈ a ++ b, key x < key y) :
    leastBy key (a ++ x :: b) = [x] := by
  have hgone (l : List α) (hl : ∀ y ∈ l, key x < key y) :
      l.filter (fun y => (a ++ x :: b).all fun z => key y ≤ key z) = [] := by
    refine List.filter_eq_nil_iff.2 fun y hy hall => ?_
    have := of_decide_eq_true (List.all_eq_true.1 hall x (List.mem_append_right _ (List.mem_cons_self ..)))
    have := hl y hy
    omega
  have hx : ((a ++ x :: b).all fun z => decide (key x ≤ key z)) = true := by
    refine List.all_eq_true.2 fun z hz => decide_eq_true ?_
    rcases List.mem_append.1 hz with hz | hz
    · exact Nat.le_of_lt (h z (List.mem_append_left _ hz))
    · rcases List.mem_cons.1 hz with rfl | hz
      · exact Nat.le_refl _
      · exact Nat.le_of_lt (h z (List.mem_append_right _ hz))
  rw [leastBy, List.filter_append, hgone a fun y hy => h y (List.mem_append_left _ hy), List.nil_append,
    List.filter_cons_of_pos (p := fun y => (a ++ x :: b).all fun z => decide (key y ≤ key z)) hx, hgone b fun y hy => h y (List.mem_append_right _ hy)]

theorem evictCache_full (hl : s.rru.cache.length = 16) (hc : s.rru.cache = before ++ c :: after) (hm : c.mark = .none)
    (hlt : ∀ x ∈ before ++ after, x.mark = .none → c.firstHeard < x.firstHeard) : s.evictCache = before ++ after := by
  have hpick : s.pickLeast (·.firstHeard) (s.rru.cache.filter fun x => x.mark == .none) = some c := by
    have hleast := leastBy_unique CacheEntry.firstHeard (before.filter fun x => x.mark == .none)
      (after.filter fun x => x.mark == .none) c fun y hy => by
        rw [← List.filter_append, List.mem_filter] at hy
        exact hlt y hy.1 (by simpa using hy.2)
    rw [State.pickLeast, hc, List.filter_append, List.filter_cons_of_pos (by simpa using hm), hleast]
  have hnot : c ∉ before := fun hin => absurd (hlt c (List.mem_append_left _ hin) hm) (Nat.lt_irrefl _)
  unfold State.evictCache
  rw [if_neg (by omega), hpick, hc]
  show (before ++ c :: after).erase c = _
  rw [List.erase_append_right _ hnot, List.erase_cons_head]

/-! ## Frames that pass every filter (R36, R39) -/

/-- One good frame more, with the peer table and the free values as the peer notice leaves them. -/
def noticed (s : State) (d : Nat) (peers : List (Option Peer)) : State :=
  { goodFrame s with draws := d, ppu := { s.ppu with peers := peers } }

theorem peerNotice_noticed (s : State) (f : Frame) (t : Nat) :
    ∃ d peers, (goodFrame s).peerNotice f t = noticed s d peers := peerNotice_only (goodFrame s) f t

theorem relayable_of (hb : f.body.kind ≠ .beacon) (hc : f.body.kind ≠ .claim) : f.body.kind.relayable = true := by
  cases h : f.body.kind
  case beacon => exact absurd h hb
  case claim => exact absurd h hc
  all_goals rfl

theorem acceptFrame_new (hr : f.body.kind.relayable = true) (h : ((goodFrame s).peerNotice f t).cached f.key = none) :
    s.acceptFrame f t = ((goodFrame s).peerNotice f t).newFrame f t := by
  unfold State.acceptFrame
  rw [hr, if_pos rfl]
  rw [goodFrame] at h ⊢
  rw [h]

theorem acceptFrame_copy (hr : f.body.kind.relayable = true) (h : ((goodFrame s).peerNotice f t).cached f.key = some c) :
    s.acceptFrame f t = ((goodFrame s).peerNotice f t).copyHeard c := by
  unfold State.acceptFrame
  rw [hr, if_pos rfl]
  rw [goodFrame] at h ⊢
  rw [h]

/-- The new entry stands last in the cache, behind what the eviction leaves. -/
theorem cacheNew_eq {l : List CacheEntry} (k : FrameKey) (h : s.evictCache = l) : s.cacheNew k t = { s with
    draws := s.draws + 1, rru := { s.rru with cache := l ++ [(⟨k, t, 1, .none⟩ : CacheEntry)] } } := by
  rw [State.cacheNew, h]
  rfl

/-- A new frame is cached and delivered, and judged for relay. -/
theorem newFrame_eq {v : State} (h : (s.cacheNew f.key t).deliver f t = v) :
    s.newFrame f t = if v.shouldRelay f then v.holdFrame f t else v := by
  rw [State.newFrame, h]

end

/-- Settles O4: the filters are made in their order, and the peer notice leaves the cache to the decision on the copy. -/
theorem receivedFramesAreFilteredAndDelivered : Obligations.ReceivedFramesAreFilteredAndDelivered := by
  refine ⟨fun bytes further s hx hw => ?_, fun f further s hf hs ho hfl hx hfur => ?_,
    fun f further s hf hs ho hfl hx hfur hnb hnc => ?_⟩
  · intro rx malformed
    have hjudged (u : State) (x : Bool) (hfurther : decide (8 ≤ further) = x)
        (h : s.judgeFrame bytes x (s.lastBit bytes) = u) : exec (.frameReceived bytes further) s = .next u.resumeHunt := by
      rw [exec_frameReceived hx hw, hfurther, h]
    refine ⟨fun h => hjudged _ _ rfl (judgeFrame_bad _ h), fun h h8 => hjudged _ _ (decide_eq_true h8) (judgeFrame_over h),
      fun h h8 hf => hjudged _ _ (decide_eq_false (by omega)) (judgeFrame_foreign h hf),
      fun h h8 hf hr => hjudged _ _ (decide_eq_false (by omega)) (judgeFrame_invalid h hf hr),
      fun f h h8 hf hr => ⟨fun hs => ?_, fun hs ho => ?_⟩⟩
    · exact (hjudged _ _ (decide_eq_false (by omega)) ((judgeFrame_valid h hf hr).trans (filterOwn_sender hs))).trans
        (congrArg _ (idClash_resumeHunt s f.origin))
    · exact hjudged _ _ (decide_eq_false (by omega)) ((judgeFrame_valid h hf hr).trans (filterOwn_origin hs ho))
  · intro ended u
    have hacc : Accepted s f further := ⟨hf, hs, ho, hfl, hx, hfur⟩
    obtain ⟨d, peers, hu⟩ := peerNotice_noticed s f ended
    refine ⟨fun hk => ?_, fun hnb hnc hnew hlen => ?_⟩
    · have hrel : f.body.kind.relayable = false := by rcases hk with hk | hk <;> rw [hk] <;> rfl
      rw [hacc.exec, acceptFrame_unrelayed _ hrel]
      rfl
    · intro v
      have hcache : u.rru.cache = s.rru.cache := by
        show ((goodFrame s).peerNotice f ended).rru.cache = _
        rw [hu]
        rfl
      have hv : (u.cacheNew f.key ended).deliver f ended = v := by
        rw [cacheNew_eq _ ((evictCache_room (by rwa [hcache])).trans hcache)]
      rw [hacc.exec, acceptFrame_new (relayable_of hnb hnc) (cached_none (s := u) (by rwa [hcache]))]
      exact congrArg (fun x : State => Host.Outcome.next x.resumeHunt) (newFrame_eq hv)
  · intro ended stats u rru
    have hacc : Accepted s f further := ⟨hf, hs, ho, hfl, hx, hfur⟩
    have hrel := relayable_of hnb hnc
    obtain ⟨d, peers, hu⟩ := peerNotice_noticed s f ended
    have hu' : u = noticed s d peers := hu
    refine ⟨fun before c after hc hk hne => ⟨fun h => ?_, fun i hm h2 hlive => ?_⟩, fun before c after hnew hl hc hm hlt => ?_⟩
    · have hne' : ∀ x ∈ before ++ after, x.key ≠ c.key := by rwa [hk]
      rw [hacc.exec, acceptFrame_copy hrel (cached_some (by rw [hu]; exact hc) hk hne), hu,
        copyHeard_counts (s := noticed s d peers) hc hne' h, hu']
      rfl
    · have hne' : ∀ x ∈ before ++ after, x.key ≠ c.key := by rwa [hk]
      rw [hacc.exec, acceptFrame_copy hrel (cached_some (by rw [hu]; exact hc) hk hne), hu,
        copyHeard_hold (s := noticed s d peers) hc hne' hm h2 hlive, hu']
      rfl
    · intro v
      have hcache : u.rru.cache = s.rru.cache := by rw [hu']; rfl
      have hv : (u.cacheNew f.key ended).deliver f ended = v := by
        rw [cacheNew_eq _ (evictCache_full (by rwa [hcache]) (by rwa [hcache]) hm hlt)]
      rw [hacc.exec, acceptFrame_new hrel (cached_none (s := u) (by rwa [hcache]))]
      exact congrArg (fun x : State => Host.Outcome.next x.resumeHunt) (newFrame_eq hv)

end Sys2Proof
end

section
/-! PROOFS. New frames are held, released to the queue, or cancelled by copies (O6). -/

namespace Sys2Proof

open Sys2Proof.Machine

/-! ## The relay decision (R42) -/

theorem relayDest_iff (s : State) (id : Nat) :
    s.relayDest id = true ↔ id ≠ s.ownId ∧ ∃ p ∈ slotEntries s.ppu.peers, p.id = id := by
  have hknows : s.knowsPeer id = true ↔ ∃ p ∈ slotEntries s.ppu.peers, p.id = id := by
    rw [State.knowsPeer, Option.isSome_iff_ne_none, State.peer, ne_eq, slotFind_none]
    simp
  rw [State.relayDest, Bool.and_eq_true, hknows, bne_iff_ne]

theorem shouldRelay_iff (s : State) (f : Frame) : s.shouldRelay f = true
    ↔ f.body.kind.relayable = true ∧ 1 ≤ f.hops ∧ s.relayBody f.body = true := by
  rw [State.shouldRelay, Bool.and_eq_true, Bool.and_eq_true, decide_eq_true_eq, and_assoc]

/-! ## The hold (R43) -/

section
variable {s : State} {f : Frame} {t i : Nat} {before after : List CacheEntry} {c : CacheEntry}

/-- The state in which the frame stands in a hold and its entry in the cache bears the mark. -/
def inHold (s : State) (f : Frame) (t i delay : Nat) (cache : List CacheEntry) : State := { s with
  draws := s.draws + 1
  rru := { s.rru with holds := s.rru.holds.set i (some ⟨f, t, s.now + delay⟩), cache := cache } }

theorem holdFrame_takes (hf : lowestFree s.rru.holds = some i) (hc : s.rru.cache = before ++ c :: after) (hk : c.key = f.key)
    (hne : ∀ x ∈ before ++ after, x.key ≠ f.key) :
    s.holdFrame f t = inHold s f t i (s.holdDelay f.body.kind) (before ++ { c with mark := .hold i } :: after) := by
  have hmap := map_at_key (fun x => { x with mark := .hold i }) hk hne
  rw [← hc] at hmap
  unfold State.holdFrame
  rw [hf]
  exact congrArg (inHold s f t i (s.holdDelay f.body.kind)) hmap

theorem holdDelay_class2 {k : Kind} (h : k.relayCls ≠ 0) : s.holdDelay k = s.randomIn 40 400 * ms := by
  rw [State.holdDelay, if_neg (by simpa using h)]

/-! ## Cancellation of a relayed copy that waits in the queue (R21, R40) -/

/-- The queue without the relayed copy of a frame. -/
def withoutRelay (q : List QEntry) (k : FrameKey) : List QEntry :=
  q.filter fun e => !decide (e.owner = Owner.relay ∧ e.frame.key = k)

theorem relay_test (e : QEntry) (k : FrameKey) :
    (e.owner == .relay && e.frame.key == k) = decide (e.owner = Owner.relay ∧ e.frame.key = k) := by
  simp [beq_eq_decide]

theorem removeRelay_eq (k : FrameKey) (hm : s.standingMarks = []) : s.removeRelay k = s.setQueue (withoutRelay s.cau.queue k) := by
  unfold State.removeRelay
  simp only [relay_test]
  split
  next => exact spaceThen_of_no_marks (s := s.setQueue (withoutRelay s.cau.queue k)) State.kick hm
  next hnone =>
    have hall : withoutRelay s.cau.queue k = s.cau.queue :=
      List.filter_eq_self.2 fun e he => by
        simp only [Bool.not_eq_true, List.any_eq_false] at hnone
        simpa [not_and_or, imp_iff_not_or] using hnone e he
    rw [hall]
    rfl

theorem copyHeard_queued (hc : s.rru.cache = before ++ c :: after) (hne : ∀ x ∈ before ++ after, x.key ≠ c.key)
    (hm : c.mark = .queued) (h2 : c.copies = 2) (hlive : s.now < c.firstHeard + 60000 * ms) (hs : s.standingMarks = []) :
    s.copyHeard c = { s with
      cau := { s.cau with queue := withoutRelay s.cau.queue c.key }
      rru := { s.rru with
        stats := { s.rru.stats with copies := inc16 s.rru.stats.copies, relaysCancelled := inc16 s.rru.stats.relaysCancelled }
        cache := before ++ { c with copies := 3, mark := .none } :: after } } := by
  have hmark : c.mark ≠ .none := by rw [hm]; nofun
  let u := copiedTwice s before after c
  let v : State := { u with rru := { u.rru with
    stats := { u.rru.stats with relaysCancelled := inc16 u.rru.stats.relaysCancelled } } }
  let w : State := { v with rru := { v.rru with cache := before ++ { c with copies := 3, mark := .none } :: after } }
  have hend : v.endMark c.key = w :=
    endMark_at (s := v) (c := { c with copies := 3, mark := .queued }) (by rw [← hm]; rfl) hne hlive
  have hstep : u.cancelRelay c.key .queued = (v.endMark c.key).removeRelay c.key := rfl
  rw [copyHeard_cancels hc hne hmark h2, hm, hstep, hend]
  exact removeRelay_eq (s := w) c.key hs

/-! ## The release of a hold (R43 to R45) -/

/-- A relayed copy as an entry of the queue. -/
def relayEntry (s : State) (h : Hold) : QEntry where
  frame := h.frame.relayCopy s.ownId
  cls := h.frame.body.kind.relayCls
  enq := s.now
  owner := .relay
  endOfCopy := if h.frame.body.kind = .offer then some h.endOfCopy else none
  mark := none

/-- The hold is free, and the cache entry of its frame bears the mark of a relay in the queue. -/
def freedHold (s : State) (i : Nat) (h : Hold) : State := { s with rru := { s.rru with
  holds := s.rru.holds.set i none
  cache := s.rru.cache.map fun c => if c.key = h.frame.key then { c with mark := .queued } else c } }

/-- The released copy behind the other entries of the queue. -/
def queuedCopy (s : State) (i : Nat) (h : Hold) : State :=
  { freedHold s i h with cau := { s.cau with queue := s.cau.queue ++ [relayEntry s h] } }

theorem relayCls_eq (k : Kind) : k.relayCls = if k = .alarm ∨ k = .alarmEnd then 0 else 2 := by cases k <;> rfl

variable {h : Hold}

theorem exec_relayHoldRelease (hh : slotGet s.rru.holds i = some h) (hr : h.release ≤ s.now) :
    exec (.relayHoldRelease i) s = .next (s.releaseHold i h) := by
  show execRelayHoldRelease i s = _
  rw [execRelayHoldRelease, hh]
  exact congrArg _ (if_pos hr)

theorem releaseHold_room (hc : s.cau.count < 8) : s.releaseHold i h = (queuedCopy s i h).kick := by
  have hgo : s.releaseHold i h
      = ((s.setRru { s.rru with holds := slotFree s.rru.holds i }).acceptRelay (h.frame.relayCopy s.ownId) h.endOfCopy).kick :=
    if_pos hc
  rw [hgo, State.acceptRelay]
  simp only [beq_iff_eq]
  rfl

theorem victim_relay_none {cls : Nat} {q : List QEntry} (hle : ∀ x ∈ q, x.cls ≤ cls) : victim cls false q = none := by
  cases hv : victim cls false q with
  | none => rfl
  | some e =>
    rcases (victim_spec cls false q).1 e hv with ⟨hlt, -⟩ | ⟨-, hown, -⟩
    · exact absurd (hle e (victim_mem hv)) (by omega)
    · cases hown

theorem releaseHold_full (hc : 8 ≤ s.cau.count) (hle : ∀ x ∈ s.cau.queue, x.cls ≤ h.frame.body.kind.relayCls) :
    s.releaseHold i h = (s.setRru { s.rru with holds := slotFree s.rru.holds i }).relayNotSent h.frame.key := by
  have hfull : ¬ (s.setRru { s.rru with holds := slotFree s.rru.holds i }).cau.count < queueMax := Nat.not_lt.mpr hc
  rw [State.releaseHold, State.offerRelay, if_neg hfull]
  show (match victim h.frame.body.kind.relayCls false s.cau.queue with | some e => _ | none => _) = _
  rw [victim_relay_none hle]
  rfl

/-- A resting access unit decides at once on a copy released to an empty queue (R23, R24). -/
theorem releaseHold_rest (ha : s.cau.onAir = none) (hq : s.cau.queue = []) (hu : s.cau.au = .rest) :
    s.releaseHold i h = (queuedCopy s i h).decide false ∧ (queuedCopy s i h).cau.queue = [relayEntry s h] := by
  have hqueue : (queuedCopy s i h).cau.queue = [relayEntry s h] := by
    show s.cau.queue ++ _ = _
    rw [hq, List.nil_append]
  have hhead : headOf (queuedCopy s i h).cau.queue = some (relayEntry s h) := by rw [hqueue]; rfl
  exact ⟨(releaseHold_room (count_of_empty ha hq)).trans (kick_of_rest ha hu hhead), hqueue⟩

end

/-- Settles O6: the relay decision, the hold, its release, and the cancellation, each in its cases. -/
theorem newFramesAreHeldReleasedOrCancelled : Obligations.NewFramesAreHeldReleasedOrCancelled := by
  refine ⟨fun f further s job reason hf hb hs ho hfl hx hfur => ?_,
    fun f further s c before after hf hs ho hfl hx hfur hnb hnc hc hk hne hm h2 hlive hw hmarks => ?_,
    fun s i h hh hrel => ?_, fun s f => ?_⟩
  · intro ended with_ stats rru
    have hacc : Accepted s f further := ⟨hf, hs, ho, hfl, hx, hfur⟩
    have hkind : f.body.kind = .cancel := by rw [hb]; rfl
    have hrel : f.body.kind.relayable = true := by rw [hkind]; rfl
    obtain ⟨d, peers, hu⟩ := peerNotice_noticed s f ended
    refine ⟨fun i hnew hlen hentry hhops hfree => ?_, fun before after c hc hk hne => ⟨fun h => ?_, fun i hm h2 hlive => ?_⟩⟩
    · let v : State := { noticed s d peers with
        draws := d + 1, rru := { (noticed s d peers).rru with cache := s.rru.cache ++ [⟨f.key, ended, 1, .none⟩] } }
      have hdeliver : ((noticed s d peers).cacheNew f.key ended).deliver f ended = v := by
        rw [cacheNew_eq (s := noticed s d peers) _ (evictCache_room hlen)]
        show v.deliver f ended = v
        have hnone : v.entry ⟨f.origin, job⟩ = none := hentry
        rw [State.deliver, hb]
        show v.cancelHeard _ _ = v
        rw [State.cancelHeard, hnone]
      have hshould : v.shouldRelay f = true := (shouldRelay_iff v f).mpr ⟨hrel, hhops, by rw [hb]; rfl⟩
      have hhold := holdFrame_takes (s := v) (t := ended) (f := f) (c := ⟨f.key, ended, 1, .none⟩) (after := []) hfree rfl rfl
        (by rwa [List.append_nil])
      have hdelay := randomIn_mem v (show 40 ≤ 400 by omega)
      refine ⟨v.randomIn 40 400, hdelay.1, hdelay.2,
        (inHold v f ended i (v.randomIn 40 400 * ms) (s.rru.cache ++ [⟨f.key, ended, 1, .hold i⟩])).resumeHunt, ?_, ?_⟩
      · rw [hacc.exec, acceptFrame_new hrel (cached_none (by rw [hu]; exact hnew)), hu,
          newFrame_eq (s := noticed s d peers) hdeliver, if_pos hshould, hhold, hkind, holdDelay_class2 (by decide)]
      · rfl
    · have hne' : ∀ x ∈ before ++ after, x.key ≠ c.key := by rwa [hk]
      exact ⟨_, by rw [hacc.exec, acceptFrame_copy hrel (cached_some (by rw [hu]; exact hc) hk hne), hu,
        copyHeard_counts (s := noticed s d peers) hc hne' h], rfl⟩
    · have hne' : ∀ x ∈ before ++ after, x.key ≠ c.key := by rwa [hk]
      exact ⟨_, by rw [hacc.exec, acceptFrame_copy hrel (cached_some (by rw [hu]; exact hc) hk hne), hu,
        copyHeard_hold (s := noticed s d peers) hc hne' hm h2 hlive], rfl⟩
  · intro stats u
    have hacc : Accepted s f further := ⟨hf, hs, ho, hfl, hx, hfur⟩
    obtain ⟨d, peers, hu⟩ := peerNotice_noticed s f (min s.now (s.rru.syncAt + f.bytes.length * 8 * bitPeriod))
    have hu' : u = noticed s d peers := hu
    have hne' : ∀ x ∈ before ++ after, x.key ≠ c.key := by rwa [hk]
    rw [hacc.exec, acceptFrame_copy (relayable_of hnb hnc) (cached_some (by rw [hu]; exact hc) hk hne), hu,
      copyHeard_queued (s := noticed s d peers) hc hne' hm h2 hlive hmarks, hu', hk]
    rfl
  · intro cls e released'
    have he : e = relayEntry s h := congrArg (fun n => { relayEntry s h with cls := n }) (relayCls_eq _).symm
    have hcls : cls = h.frame.body.kind.relayCls := (relayCls_eq _).symm
    rw [he, hcls, exec_relayHoldRelease hh hrel]
    refine ⟨fun hc hw => ?_, fun hq ha hu hl => ?_, fun hc hle => ?_⟩
    · have hstay : (queuedCopy s i h).cau.waits := hw
      rw [releaseHold_room hc, kick_of_waits hstay]
      rfl
    · obtain ⟨hdecide, hqueue⟩ := releaseHold_rest (i := i) (h := h) ha hq hu
      have hhead : headOf (queuedCopy s i h).cau.queue = some (relayEntry s h) := by rw [hqueue]; rfl
      have hmay : (queuedCopy s i h).mayKey (relayEntry s h) = true ↔ s.clearFor h.frame.body.kind.relayCls := mayKey_iff _ _
      rw [hdecide]
      refine ⟨fun hclear hoffer => ?_, fun hclear => ?_⟩
      · rw [decide_keys false hhead (hmay.mpr hclear) (keyed_of_no_copy (if_neg hoffer)), hqueue, List.erase_cons_head]
        rfl
      · obtain ⟨slots, h1, h2, heq⟩ := drawBackoff_cases (queuedCopy s i h) (relayEntry s h) hl
        refine ⟨slots, h1, h2, ?_⟩
        rw [decide_waits false hhead fun hm => hclear (hmay.mp hm), ← hqueue]
        exact congrArg _ heq
    · rw [releaseHold_full hc hle, State.relayNotSent, endMark_eq]
      rfl
  · intro known
    rw [shouldRelay_iff]
    have hdest (id : Nat) : s.relayDest id = true ↔ known id := relayDest_iff s id
    cases hb : f.body
    case take k score rank rep =>
      have hall : (∀ k' score' rank' rep', Body.take k score rank rep = .take k' score' rank' rep' → known k'.base) ↔ known k.base :=
        ⟨fun h => h k score rank rep rfl, fun h k' _ _ _ heq => by cases heq; exact h⟩
      simp [State.relayBody, hdest, Body.kind, Kind.relayable, -Body.take.injEq, -Bool.forall_bool, hall]
    all_goals simp [State.relayBody, hdest, Body.kind, Kind.relayable]

end Sys2Proof
end

section
/-! PROOFS. Availability, the job in hand, open claims and ALERTING: the law and the acts that leave its inputs alone (O56). -/

namespace Sys2Proof

open Sys2Proof.Machine

/-! ## The law -/

/-- The availabilities held, and the inputs they are derived from (R109, R110). -/
structure Link where
  powered : Bool
  alarm : AlarmState
  fare : FareState
  stale : Bool
  shiftOpen : Bool
  driver : DriverStatus
  known : Option Avail
  board : Option Avail
  ppu : Option Avail

def linkOf (s : State) : Link where
  powered := s.powered
  alarm := s.ret.alarm
  fare := s.ret.fare
  stale := s.ppu.stale
  shiftOpen := s.ret.shiftOpen
  driver := s.fre.driver
  known := s.fre.avail
  board := s.ofb.avail
  ppu := s.ppu.avail

/-- An entry past its retention is terminal (R73). -/
def pastFits (e : BoardEntry) : Prop := e.retentionPassed = true → e.state.live = false

/-- The entry may still claim: OPEN or CLAIM-PENDING. -/
def bidding (e : BoardEntry) : Prop := e.state = .opened ∨ e.state = .claimPending

def pastLaw (s : State) : Prop := ∀ e ∈ slotEntries s.ofb.slots, pastFits e

def noBids (s : State) : Prop := ∀ e ∈ slotEntries s.ofb.slots, ¬ bidding e

/-- Entries may claim only while the board was told FREE (R78, R90). -/
def bidLaw (s : State) : Prop := s.ofb.avail ≠ some .free → noBids s

/-- ALERTING leaves nothing hired and nothing on call (R127). -/
def heldLaw (s : State) : Prop := s.ret.alarm = .alerting → s.ret.fare ≠ .hired ∧ s.ret.fare ≠ .onCall

/-- Board and PPU know the availability that the fare engine holds, and the board keeps its laws; the availability held need
not be the one of this moment. -/
structure Tied (s : State) : Prop where
  board : s.ofb.avail = s.fre.avail
  ppu : s.ppu.avail = s.fre.avail
  jobs : s.ofb.jobs.length = if s.ret.fare = .onCall then 1 else 0
  past : pastLaw s
  bids : bidLaw s

/-- The law of a part with its supply, in the form the acts keep. -/
structure Agrees (s : State) : Prop extends Tied s where
  current : s.fre.avail = some s.availNow
  held : heldLaw s

theorem noBids_iff {s : State} :
    noBids s ↔ ∀ e ∈ slotEntries s.ofb.slots, e.state ≠ .opened ∧ e.state ≠ .claimPending := by
  simp only [noBids, bidding, not_or, ne_eq]

theorem availNow_of_alarm {s : State} (h : s.ret.alarm ≠ .quiet) : s.availNow = .alarm :=
  if_pos (bne_iff_ne.mpr h)

theorem job_mem {s : State} {e : BoardEntry} (h : e ∈ slotEntries s.ofb.slots) (hj : e.state.holdsJob = true) :
    0 < s.ofb.jobs.length :=
  List.length_pos_of_mem (List.mem_filter.mpr ⟨h, hj⟩)

/-- What the law says of an alarm in ALERTING follows: the availability is ALARM, so nothing may claim, and no job is in hand. -/
theorem Agrees.alarm {s : State} (h : Agrees s) : s.alarmLaw := by
  intro ha
  obtain ⟨hh, hc⟩ := h.held ha
  have havail : s.ofb.avail ≠ some .free := by
    rw [h.board, h.current, availNow_of_alarm (by rw [ha]; nofun)]
    nofun
  have hjobs : s.ofb.jobs.length = 0 := by rw [h.jobs, if_neg hc]
  refine ⟨hh, hc, fun e he => ?_⟩
  obtain ⟨h1, h2⟩ := noBids_iff.mp (h.bids havail) e he
  have hno : ¬ e.state.holdsJob = true := fun hj => by
    have := job_mem he hj
    omega
  exact ⟨h1, h2, fun hs => hno (by rw [hs]; rfl), fun hs => hno (by rw [hs]; rfl)⟩

theorem deviceLaw_iff {s : State} : s.deviceLaw ↔ (s.powered = true → Agrees s) := by
  constructor
  · intro h hp
    obtain ⟨⟨hk, hb, hq⟩, ⟨hj, hr⟩, ho, ha⟩ := h hp
    exact {
      board := hb.trans hk.symm
      ppu := hq.trans hk.symm
      jobs := hj
      past := hr
      bids := fun hf => noBids_iff.mpr (ho hf)
      current := hk
      held := fun hx => ⟨(ha hx).1, (ha hx).2.1⟩ }
  · intro h hp
    have k := h hp
    exact ⟨⟨k.current, k.board.trans k.current, k.ppu.trans k.current⟩, ⟨k.jobs, k.past⟩,
      fun hf => noBids_iff.mp (k.bids hf), k.alarm⟩

/-! ## Acts that leave the inputs and the count of jobs alone -/

/-- The inputs of the availability and those told of it are left alone, and the board keeps its laws and its count of jobs. -/
structure Aside (s t : State) : Prop where
  link : linkOf t = linkOf s
  past : pastLaw s → pastLaw t
  jobs : pastLaw s → t.ofb.jobs.length = s.ofb.jobs.length
  bids : bidLaw s → bidLaw t

theorem Aside.refl (s : State) : Aside s s := ⟨rfl, id, fun _ => rfl, id⟩

theorem Aside.trans {s t u : State} (h : Aside s t) (k : Aside t u) : Aside s u where
  link := k.link.trans h.link
  past := k.past ∘ h.past
  jobs := fun hp => (k.jobs (h.past hp)).trans (h.jobs hp)
  bids := k.bids ∘ h.bids

/-- The same as `trans`, the later act first. -/
theorem Aside.after {s t u : State} (k : Aside t u) (h : Aside s t) : Aside s u := h.trans k

/-- A state whose inputs and whose board are the same. -/
theorem aside_rest {s t : State} (hl : linkOf t = linkOf s) (ho : t.ofb.slots = s.ofb.slots) : Aside s t where
  link := hl
  past := by
    unfold pastLaw
    rw [ho]
    exact id
  jobs := fun _ => by rw [Ofb.jobs, ho]; rfl
  bids := by
    have hb : t.ofb.avail = s.ofb.avail := congrArg Link.board hl
    unfold bidLaw noBids
    rw [hb, ho]
    exact id

theorem availNow_of_link {s t : State} (h : linkOf t = linkOf s) : t.availNow = s.availNow :=
  congrArg (fun l : Link => availability l.alarm l.fare l.stale l.shiftOpen l.driver) h

theorem Aside.tied {s t : State} (h : Aside s t) (k : Tied s) : Tied t where
  board := by
    rw [show t.ofb.avail = s.ofb.avail from congrArg Link.board h.link, k.board]
    exact (congrArg Link.known h.link).symm
  ppu := by
    rw [show t.ppu.avail = s.ppu.avail from congrArg Link.ppu h.link, k.ppu]
    exact (congrArg Link.known h.link).symm
  jobs := by rw [h.jobs k.past, k.jobs, show t.ret.fare = s.ret.fare from congrArg Link.fare h.link]
  past := h.past k.past
  bids := h.bids k.bids

theorem heldLaw_of_link {s t : State} (h : linkOf t = linkOf s) (k : heldLaw s) : heldLaw t := by
  unfold heldLaw
  rw [show t.ret.alarm = s.ret.alarm from congrArg Link.alarm h, show t.ret.fare = s.ret.fare from congrArg Link.fare h]
  exact k

theorem Aside.agrees {s t : State} (h : Aside s t) (k : Agrees s) : Agrees t where
  toTied := h.tied k.toTied
  current := by
    rw [show t.fre.avail = s.fre.avail from congrArg Link.known h.link, k.current, availNow_of_link h.link]
  held := heldLaw_of_link h.link k.held

/-! ## The board -/

/-- The number of entries with a property does not see the marks of the queue. -/
theorem filter_length_of_map_eq {α : Type} {g : α → α} {p : α → Bool} (hp : ∀ x, p (g x) = p x) {l m : List (Option α)}
    (h : m.map (·.map g) = l.map (·.map g)) : ((slotEntries m).filter p).length = ((slotEntries l).filter p).length := by
  have hkey (n : List (Option α)) : ((slotEntries (n.map (·.map g))).filter p).length = ((slotEntries n).filter p).length := by
    rw [slotEntries_map, List.filter_map, List.length_map]
    exact congrArg (fun q => ((slotEntries n).filter q).length) (funext hp)
  rw [← hkey m, h, hkey l]

theorem noBids_of_frame {s t : State} (h : QueueFrame s t) (k : noBids s) : noBids t :=
  forall_slotEntries_of_map_eq (g := BoardEntry.unmark) (p := fun e => ¬ bidding e) (fun e => ¬ bidding e) (fun _ => .rfl) h.board k

/-- A queue operation changes no more of the board than its marks. -/
theorem aside_queue {s t : State} (h : QueueFrame s t) : Aside s t where
  link := by
    rw [linkOf, h.ret, h.ppu, h.fre, h.boardAvail, h.powered]
    rfl
  past := forall_slotEntries_of_map_eq (g := BoardEntry.unmark) (p := pastFits) pastFits (fun _ => .rfl) h.board
  jobs := fun _ => filter_length_of_map_eq (g := BoardEntry.unmark) (fun _ => rfl) h.board
  bids := fun k => by
    unfold bidLaw
    rw [h.boardAvail]
    exact fun hf => noBids_of_frame h (k hf)

/-- The entries of a table around one of its slots. -/
theorem slotEntries_set {α : Type} {l : List (Option α)} {i : Nat} (hi : i < l.length) :
    ∃ a b, slotEntries l = a ++ (slotGet l i).toList ++ b ∧ ∀ o : Option α, slotEntries (l.set i o) = a ++ o.toList ++ b := by
  have hone (o : Option α) : slotEntries [o] = o.toList := by cases o <;> rfl
  have happ (a b : List (Option α)) : slotEntries (a ++ b) = slotEntries a ++ slotEntries b := List.filterMap_append
  have hset (o : Option α) : slotEntries (l.set i o) = slotEntries (l.take i) ++ o.toList ++ slotEntries (l.drop (i + 1)) := by
    rw [List.set_eq_take_append_cons_drop, if_pos hi, happ, ← List.singleton_append, happ, hone, List.append_assoc]
  refine ⟨slotEntries (l.take i), slotEntries (l.drop (i + 1)), ?_, hset⟩
  have hget : slotGet l i = l[i] := by rw [slotGet, List.getElem?_eq_getElem hi, Option.join_some]
  rw [hget, ← hset, List.set_getElem_self]

/-- A slot of the board written or freed. -/
theorem setSlot_aside (s : State) (slot : Nat) (o : Option BoardEntry)
    (hj : (∀ x ∈ slotGet s.ofb.slots slot, pastFits x) → (o.toList.filter (·.state.holdsJob)).length
      = ((slotGet s.ofb.slots slot).toList.filter (·.state.holdsJob)).length)
    (hp : ∀ e ∈ o, (∀ x ∈ slotGet s.ofb.slots slot, pastFits x) → pastFits e)
    (hb : s.ofb.avail ≠ some .free → ∀ e ∈ o, bidding e → ∃ x ∈ slotGet s.ofb.slots slot, bidding x) :
    Aside s (s.setOfb { s.ofb with slots := s.ofb.slots.set slot o }) := by
  by_cases hi : slot < s.ofb.slots.length
  · obtain ⟨a, b, hold, hnew⟩ := slotEntries_set hi
    have hfits (h : pastLaw s) : ∀ x ∈ slotGet s.ofb.slots slot, pastFits x := fun x hx =>
      h x (slotGet_mem _ _ _ hx)
    refine ⟨rfl, fun h e he => ?_, fun h => ?_, fun h hf e he => ?_⟩
    · have he : e ∈ a ++ o.toList ++ b := by rw [← hnew]; exact he
      simp only [pastLaw, hold, List.mem_append, Option.mem_toList, or_assoc] at h he
      rcases he with he | he | he
      · exact h e (.inl he)
      · exact hp e he fun x hx => h x (.inr (.inl hx))
      · exact h e (.inr (.inr he))
    · show ((slotEntries (s.ofb.slots.set slot o)).filter _).length = ((slotEntries s.ofb.slots).filter _).length
      rw [hnew, hold]
      simp only [List.filter_append, List.length_append]
      rw [hj (hfits h)]
    · have he : e ∈ a ++ o.toList ++ b := by rw [← hnew]; exact he
      have hnone := h hf
      simp only [noBids, hold, List.mem_append, Option.mem_toList, or_assoc] at hnone he
      rcases he with he | he | he
      · exact hnone e (.inl he)
      · intro hbid
        obtain ⟨x, hx, hxb⟩ := hb hf e he hbid
        exact hnone x (.inr (.inl hx)) hxb
      · exact hnone e (.inr (.inr he))
  · exact aside_rest rfl (List.set_eq_of_length_le (Nat.not_lt.mp hi))

section
variable {s : State} {slot : Nat} {x e : BoardEntry}

/-- An entry written over another one. -/
theorem putEntry_aside (hx : slotGet s.ofb.slots slot = some x) (hj : e.state.holdsJob = x.state.holdsJob)
    (hp : pastFits x → pastFits e) (hb : bidding e → bidding x) : Aside s (s.putEntry slot e) := by
  refine setSlot_aside s slot (some e) (fun _ => ?_) (fun y hy h => ?_) fun _ y hy hbid => ?_
  · rw [hx]
    simp only [Option.toList_some, List.filter_singleton, hj, apply_ite List.length, Bool.cond_eq_ite]
    rfl
  · cases hy
    exact hp (h x (by rw [hx]; rfl))
  · cases hy
    exact ⟨x, hx, hb hbid⟩

/-- A change of an entry that leaves its state and its retention alone. -/
theorem putEntry_same (hx : slotGet s.ofb.slots slot = some x) (hs : e.state = x.state) (hr : e.retentionPassed = x.retentionPassed) :
    Aside s (s.putEntry slot e) :=
  putEntry_aside hx (by rw [hs]) (by unfold pastFits; rw [hs, hr]; exact id) (by unfold bidding; rw [hs]; exact id)

/-- A live entry goes on; one that may claim could claim before. -/
theorem putEntry_goes (hx : slotGet s.ofb.slots slot = some x) (hlive : x.state.live = true)
    (hj : e.state.holdsJob = x.state.holdsJob) (hr : e.retentionPassed = x.retentionPassed) (hb : bidding e → bidding x) :
    Aside s (s.putEntry slot e) := by
  refine putEntry_aside hx hj (fun h hp => ?_) hb
  rw [hr] at hp
  exact absurd (h hp) (by rw [hlive]; nofun)

theorem not_bidding_of_dead (h : e.state.live = false) : ¬ bidding e := by
  rintro (hs | hs) <;> rw [hs] at h <;> cases h

theorem holdsJob_of_dead (h : e.state.live = false) : e.state.holdsJob = false := by
  revert h
  cases e.state <;> simp [OfferState.live, OfferState.holdsJob]

/-- An entry that holds no job becomes terminal. -/
theorem putEntry_ends (hx : slotGet s.ofb.slots slot = some x) (hj : x.state.holdsJob = false) (hd : e.state.live = false) :
    Aside s (s.putEntry slot e) :=
  putEntry_aside hx (by rw [hj]; exact holdsJob_of_dead hd) (fun _ _ => hd) fun h => absurd h (not_bidding_of_dead hd)

theorem loseEntry_aside {st : OfferState} (hx : slotGet s.ofb.slots slot = some x) (hj : x.state.holdsJob = false)
    (hd : st.live = false) : Aside s (s.loseEntry slot e st) :=
  (putEntry_ends hx hj (e := e.finish st s.now) hd).trans (aside_rest rfl rfl)

/-- A slot without a job is freed. -/
theorem freeEntry_aside (h : ∀ y ∈ slotGet s.ofb.slots slot, pastFits y → y.state.holdsJob = false) : Aside s (s.freeEntry slot) := by
  refine setSlot_aside s slot none (fun hp => ?_) (fun _ h => nomatch h) fun _ _ h => nomatch h
  cases hg : slotGet s.ofb.slots slot with
  | none => rfl
  | some y =>
    have hno : y.state.holdsJob = false := h y hg (hp y hg)
    simp [hno]

/-! ## The job counted -/

/-- An entry that gives the job up leaves one job less. -/
theorem jobs_put (hx : slotGet s.ofb.slots slot = some x) : (s.putEntry slot e).ofb.jobs.length + (if x.state.holdsJob then 1 else 0)
    = s.ofb.jobs.length + if e.state.holdsJob then 1 else 0 := by
  obtain ⟨a, b, hold, hnew⟩ := slotEntries_set (slotGet_lt hx)
  have hnew' : slotEntries (slotPut s.ofb.slots slot e) = a ++ [e] ++ b := hnew (some e)
  rw [hx] at hold
  show ((slotEntries (slotPut s.ofb.slots slot e)).filter _).length + _ = ((slotEntries s.ofb.slots).filter _).length + _
  rw [hnew', hold, Option.toList_some]
  simp only [List.filter_append, List.length_append, List.filter_singleton, Bool.cond_eq_ite, apply_ite List.length, List.length_singleton,
    List.length_nil]
  omega

end

/-! ## The availability is recomputed (R78, R109, R110) -/

theorem toWatch_spec (e : BoardEntry) (r : Reason) : (e.toWatch r).state.holdsJob = e.state.holdsJob
    ∧ (pastFits e → pastFits (e.toWatch r)) ∧ ¬ bidding (e.toWatch r) := by
  unfold BoardEntry.toWatch
  split
  next hs => exact ⟨by rw [hs]; rfl, fun h hp => absurd (h hp) (by rw [hs]; nofun), by simp [bidding]⟩
  next hs => exact ⟨by rw [hs]; rfl, fun h hp => absurd (h hp) (by rw [hs]; nofun), by simp [bidding]⟩
  next h1 h2 => exact ⟨rfl, id, fun h => h.elim h1 h2⟩

theorem convertBoard_aside (s : State) (r : Reason) : Aside s (s.convertBoard r) ∧ noBids (s.convertBoard r) := by
  have hmap : Aside s (s.mapBoard (·.toWatch r)) ∧ noBids (s.mapBoard (·.toWatch r)) := by
    have hnone : noBids (s.mapBoard (·.toWatch r)) := fun e he => by
      obtain ⟨y, -, rfl⟩ := mem_slotEntries_map.mp he
      exact (toWatch_spec y r).2.2
    refine ⟨⟨rfl, fun h e he => ?_, fun _ => ?_, fun _ _ => hnone⟩, hnone⟩
    · obtain ⟨y, hy, rfl⟩ := mem_slotEntries_map.mp he
      exact (toWatch_spec y r).2.1 (h y hy)
    · show ((slotEntries (s.ofb.slots.map (·.map (·.toWatch r)))).filter _).length = _
      rw [slotEntries_map, List.filter_map, List.length_map]
      exact congrArg (fun q => ((slotEntries s.ofb.slots).filter q).length) (funext fun y => (toWatch_spec y r).1)
  have hq := removeClaims_frame (s.mapBoard (·.toWatch r)) s.pendingClaims
  exact ⟨hmap.1.trans (aside_queue hq), noBids_of_frame hq hmap.2⟩

/-- After the fare engine has told an availability, the three of them hold it, and entries may claim only under FREE. -/
theorem told_spec (s : State) (a : Avail) (h : Tied s) :
    let t := ((s.setFre { s.fre with avail := some a }).boardAvail a).ppuAvail a
    linkOf t = { linkOf s with known := some a, board := some a, ppu := some a } ∧ Tied t := by
  intro t
  let u := (s.setFre { s.fre with avail := some a }).setOfb { s.ofb with avail := some a }
  have hu : linkOf u = { linkOf s with known := some a, board := some a } := rfl
  have hw : ∃ w, t = w.ppuAvail a ∧ linkOf w = linkOf u ∧ pastLaw w ∧ w.ofb.jobs.length = s.ofb.jobs.length
      ∧ (a ≠ .free → noBids w) := by
    by_cases hc : (s.ofb.avail == some .free && a != .free) = true
    · obtain ⟨hconv, hnone⟩ := convertBoard_aside u (watchReason a u.ppu.stale)
      refine ⟨_, congrArg (fun w : State => w.ppuAvail a) (if_pos hc), hconv.link, hconv.past h.past, hconv.jobs h.past, fun _ => hnone⟩
    · refine ⟨u, congrArg (fun w : State => w.ppuAvail a) (if_neg hc), rfl, h.past, rfl, fun hne => h.bids fun hf => hc ?_⟩
      rw [hf]
      simpa using hne
  obtain ⟨w, ht, hl, hpast, hjobs, hbids⟩ := hw
  rw [ht]
  have hlink : linkOf (w.ppuAvail a) = { linkOf s with known := some a, board := some a, ppu := some a } :=
    congrArg (fun l : Link => { l with ppu := some a }) (hl.trans hu)
  refine ⟨hlink, ?_, ?_, ?_, hpast, fun hf => hbids fun ha => hf ?_⟩
  · exact (congrArg Link.board hlink).trans (congrArg Link.known hlink).symm
  · exact (congrArg Link.ppu hlink).trans (congrArg Link.known hlink).symm
  · show w.ofb.jobs.length = _
    rw [hjobs, h.jobs, show (w.ppuAvail a).ret.fare = s.ret.fare from congrArg Link.fare hlink]
  · rw [← ha]
    exact congrArg Link.board hlink

theorem recompute_tied {s : State} (h : Tied s) :
    Tied s.recompute ∧ s.recompute.fre.avail = some s.recompute.availNow ∧ s.recompute.ret.alarm = s.ret.alarm
      ∧ s.recompute.ret.fare = s.ret.fare := by
  by_cases hc : (s.fre.avail == some s.availNow) = true
  · have hstay : s.recompute = s := if_pos hc
    rw [hstay]
    exact ⟨h, by simpa using hc, rfl, rfl⟩
  · have hgo : s.recompute = ((s.setFre { s.fre with avail := some s.availNow }).boardAvail s.availNow).ppuAvail s.availNow :=
      if_neg hc
    obtain ⟨hl, ht⟩ := told_spec s s.availNow h
    rw [← hgo] at hl ht
    refine ⟨ht, ?_, congrArg Link.alarm hl, congrArg Link.fare hl⟩
    have hnow : s.recompute.availNow = s.availNow :=
      congrArg (fun l : Link => availability l.alarm l.fare l.stale l.shiftOpen l.driver) hl
    rw [hnow]
    exact congrArg Link.known hl

/-- Once the availability is recomputed the law holds. -/
theorem recompute_agrees {s : State} (h : Tied s) (hh : heldLaw s) : Agrees s.recompute := by
  obtain ⟨ht, hc, ha, hf⟩ := recompute_tied h
  refine ⟨ht, hc, ?_⟩
  unfold heldLaw
  rw [ha, hf]
  exact hh

theorem idleUpdate_aside (s : State) : Aside s s.idleUpdate := by
  unfold State.idleUpdate
  split
  · split
    · exact aside_rest rfl rfl
    · exact .refl s
  · exact aside_rest rfl rfl

/-- The count of jobs fits the fare state. -/
def jobsFit (s : State) (f : FareState) : Prop := s.ofb.jobs.length = if f = .onCall then 1 else 0

/-- The parts of the law that do not see the fare state. -/
theorem Tied.with_fare {s : State} {r : Retained} (h : Tied s) (hj : jobsFit s r.fare) : Tied (s.setRet r) :=
  ⟨h.board, h.ppu, hj, h.past, h.bids⟩

theorem setFare_agrees {s : State} {f : FareState} (h : Tied (s.setRet { s.ret with fare := f }))
    (hh : heldLaw (s.setRet { s.ret with fare := f })) : Agrees (s.setFare f) := by
  have k := idleUpdate_aside (s.setRet { s.ret with fare := f })
  exact recompute_agrees (k.tied h) (heldLaw_of_link k.link hh)

end Sys2Proof
end

section
/-! PROOFS. The acts of the fare engine, the board and the emergency unit keep availability, jobs and alarms in agreement (O56). -/

namespace Sys2Proof

open Sys2Proof.Machine

/-! ## The queue -/

theorem offer_aside (s : State) (r : OwnRef) : Aside s (s.offer r) := aside_queue (offer_frame s r)

theorem removeOwn_aside (s : State) (r : OwnRef) : Aside s (s.removeOwn r) := aside_queue (removeOwn_frame s r)

theorem dropClaim_aside (s : State) (e : BoardEntry) : Aside s (s.dropClaim e) := by
  unfold State.dropClaim
  split
  · exact removeOwn_aside s _
  · exact .refl s

theorem raiseEvent_aside (s : State) (k : EventKind) (a b : Nat) : Aside s (s.raiseEvent k a b) := aside_rest rfl rfl

/-! ## The trip and the totals -/

theorem setTrip_aside (s : State) (t : Trip) : Aside s (s.setTrip t) := aside_rest rfl rfl

theorem setPriced_aside (s : State) (t : Trip) : Aside s (s.setPriced t) := by
  unfold State.setPriced
  split <;> exact aside_rest rfl rfl

theorem setEarned_aside (s : State) (old new : Trip) : Aside s (s.setEarned old new) := by
  unfold State.setEarned
  split
  · exact aside_rest rfl rfl
  · exact setPriced_aside s new

theorem surchargeTest_aside (s : State) : Aside s s.surchargeTest := by
  unfold State.surchargeTest
  split
  · split
    · exact .refl s
    · exact setPriced_aside s _
  · exact .refl s

theorem secondTick_aside (s : State) : Aside s s.secondTick := by
  unfold State.secondTick
  dsimp only
  split
  · exact .after (setEarned_aside _ _ _) (aside_rest rfl rfl)
  · exact aside_rest rfl rfl
  · exact aside_rest rfl rfl

theorem pulse_aside (s : State) : Aside s s.pulse := by
  unfold State.pulse
  split
  · exact .refl s
  · dsimp only
    unfold State.tripPulse
    split <;> exact aside_rest rfl rfl

theorem tallyIfHome_aside (s : State) : Aside s s.tallyIfHome := by
  unfold State.tallyIfHome State.buildTally State.offerTally
  split
  · split
    · exact .after (offer_aside _ _) (aside_rest rfl rfl)
    · split
      · exact .after (offer_aside _ _) (aside_rest rfl rfl)
      · exact aside_rest rfl rfl
  · exact .refl s

theorem lateCancel_aside (s : State) (k : JobKey) : Aside s (s.lateCancel k) := by
  have hlog : Aside s (s.lateLog k) := by
    unfold State.lateLog
    split
    · exact aside_rest rfl rfl
    · exact .refl s
  unfold State.lateCancel
  split
  · split
    · exact aside_rest rfl rfl
    · exact hlog
  · exact hlog

/-! ## The fare state -/

section
variable {s u : State} {slot : Nat} {e e' : BoardEntry}

/-- Between fare states other than ON-CALL the count of jobs is the same. -/
theorem Tied.moves (h : Tied s) (hf : s.ret.fare ≠ .onCall) {r : Retained} (hr : r.fare ≠ .onCall) : Tied (s.setRet r) :=
  h.with_fare (by rw [jobsFit, if_neg hr, h.jobs, if_neg hf])

/-- A change of the store that the fare state does not see. -/
theorem Tied.store (h : Tied s) {r : Retained} (hr : r.fare = s.ret.fare) : Tied (s.setRet r) :=
  h.with_fare (by rw [jobsFit, hr]; exact h.jobs)

theorem same_agrees (h : Agrees s) (hx : slotGet s.ofb.slots slot = some e) (hs : e'.state = e.state)
    (hr : e'.retentionPassed = e.retentionPassed) : Agrees (s.putEntry slot e') := (putEntry_same hx hs hr).agrees h

/-- The fare state follows the job, behind acts that leave the board's jobs alone. -/
theorem setFare_behind {v : State} {f : FareState} (k : Aside v u) (h : Tied (v.setRet { v.ret with fare := f }))
    (hh : heldLaw (v.setRet { v.ret with fare := f })) : Agrees (u.setFare f) := by
  have hknown := (congrArg Link.known k.link).symm
  refine setFare_agrees ⟨(congrArg Link.board k.link).trans (h.board.trans hknown), (congrArg Link.ppu k.link).trans (h.ppu.trans hknown),
    (k.jobs h.past).trans h.jobs, k.past h.past, k.bids h.bids⟩ fun ha => hh ((congrArg Link.alarm k.link).symm.trans ha)

/-- The board after an entry has changed, but for its count of jobs. -/
theorem put_tied (h : Tied s) {r : Retained} (hj : jobsFit (s.putEntry slot e') r.fare) (hp : pastFits e')
    (hb : s.ofb.avail ≠ some .free → ¬ bidding e') : Tied ((s.putEntry slot e').setRet r) where
  board := h.board
  ppu := h.ppu
  jobs := hj
  past y hy := by
    rcases mem_slotPut _ _ _ _ hy with rfl | hy
    · exact hp
    · exact h.past y hy
  bids hn y hy := by
    rcases mem_slotPut _ _ _ _ hy with rfl | hy
    · exact hb hn
    · exact h.bids hn y hy

/-- The job in hand is given up, and the board holds none (R84, R100, R101, R104). -/
theorem released_agrees (h : Tied s) (hf : s.ret.fare = .onCall) (hx : slotGet s.ofb.slots slot = some e)
    (hj : e.state.holdsJob = true) (hd : e'.state.live = false) (k : Aside (s.putEntry slot e') u) : Agrees u.fareReleased := by
  have hput := jobs_put (e := e') hx
  rw [if_pos hj, holdsJob_of_dead hd, h.jobs, if_pos hf] at hput
  have hzero : jobsFit (s.putEntry slot e') .vacant := by simpa [jobsFit] using hput
  rw [fareReleased_of_onCall ((congrArg Link.fare k.link).trans hf)]
  exact setFare_behind k (put_tied h hzero (fun _ => hd) fun _ => not_bidding_of_dead hd) fun _ => ⟨nofun, nofun⟩

theorem fare_of_job (h : Tied s) (hx : slotGet s.ofb.slots slot = some e) (hj : e.state.holdsJob = true) : s.ret.fare = .onCall := by
  by_contra hf
  have hpos := job_mem (slotGet_mem _ _ _ hx) hj
  rw [h.jobs, if_neg hf] at hpos
  exact Nat.lt_irrefl _ hpos

theorem giveUp_agrees (h : Tied s) (hx : slotGet s.ofb.slots slot = some e) (hj : e.state.holdsJob = true)
    (hd : e'.state.live = false) : Agrees (giveUp s slot e e') := by
  refine released_agrees h (fare_of_job h hx hj) hx hj hd ?_
  split
  · exact (removeOwn_aside _ _).trans (offer_aside _ _)
  · exact removeOwn_aside _ _

theorem dropJob_agrees (h : Tied s) (hx : slotGet s.ofb.slots slot = some e) (hj : e.state.holdsJob = true) (r : Reason) :
    Agrees (s.dropJob slot e r) := by
  rw [dropJob_giveUp]
  exact giveUp_agrees h hx hj rfl

theorem jobEntry_spec (h : s.jobEntry = some (slot, e)) : slotGet s.ofb.slots slot = some e ∧ e.state.holdsJob = true :=
  slotFind_zero _ _ _ _ h

theorem no_job (h : s.jobEntry = none) : s.ofb.jobs.length = 0 := by
  have hall := (slotFind_none _ _ _).mp h
  rw [Ofb.jobs, List.filter_eq_nil_iff.mpr fun x hx => by simp [hall x hx]]
  rfl

/-! ## The board (R74 to R104) -/

/-- A new entry takes a free slot, or that of a terminal entry. -/
theorem putNew_aside (h : ∀ x ∈ slotGet s.ofb.slots slot, x.state.live = false) (hj : e.state.holdsJob = false)
    (hr : e.retentionPassed = false) (hb : bidding e → s.ofb.avail = some .free) : Aside s (s.putEntry slot e) := by
  refine setSlot_aside s slot (some e) (fun _ => ?_) (fun y hy _ => ?_) fun hf y hy hbid => ?_
  · cases hg : slotGet s.ofb.slots slot with
    | none => simp [hj]
    | some x => simp [hj, holdsJob_of_dead (h x hg)]
  · cases hy
    exact fun hp => by rw [hr] at hp; cases hp
  · cases hy
    exact absurd (hb hbid) hf

theorem boardSlot_free {i : Nat} (h : s.boardSlot = some i) : ∀ x ∈ slotGet s.ofb.slots i, x.state.live = false := by
  intro x hx
  unfold State.boardSlot at h
  cases hl : lowestFree s.ofb.slots with
  | some j =>
    rw [hl] at h
    cases h
    have hnone := List.findIdx?_eq_some_iff_getElem.mp hl
    obtain ⟨hlt, hnone, -⟩ := hnone
    rw [slotGet, List.getElem?_eq_getElem hlt, Option.join_some] at hx
    rw [Option.mem_def.mp hx] at hnone
    cases hnone
  | none =>
    rw [hl] at h
    obtain ⟨y, hy, rfl⟩ := Option.map_eq_some_iff.mp h
    have hmem := List.mem_filter.mp (pickLeast_mem hy)
    have hat : slotGet s.ofb.slots y.1 = some y.2 := ((mem_slotList _ _ _ _).mp hmem.1).2
    rw [hat] at hx
    cases hx
    simp only [Bool.and_eq_true, Bool.not_eq_true'] at hmem
    exact hmem.2.1

theorem writeOffer_aside {i : Nat} (o : OfferBody) (f : Frame) (t : Nat) (h : ∀ x ∈ slotGet s.ofb.slots i, x.state.live = false) :
    Aside s (s.writeOffer i o f t) := by
  unfold State.writeOffer
  dsimp only
  split
  · exact .after (putNew_aside (s := s.nextDraw) h rfl rfl fun hb => hb.elim nofun nofun) (aside_rest rfl rfl)
  · next hj =>
    have hfree : s.ofb.avail = some .free := by
      by_contra hne
      unfold State.judge at hj
      split at hj
      · cases hj
      · rw [if_pos (by simpa using hne)] at hj
        cases hj
    exact .after (raiseEvent_aside _ _ _ _) (.after (putNew_aside (s := s.nextDraw.nextDraw) h rfl rfl fun _ => hfree)
      (aside_rest rfl rfl))

theorem offerHeard_aside (s : State) (o : OfferBody) (f : Frame) (t : Nat) : Aside s (s.offerHeard o f t) := by
  unfold State.offerHeard
  split
  · exact .refl s
  · split
    · next i hi => exact writeOffer_aside o f t (boardSlot_free hi)
    · exact aside_rest rfl rfl

theorem claim_aside (hx : slotGet s.ofb.slots slot = some e) (he : e.state = .opened)
    (hr : e'.retentionPassed = e.retentionPassed) : Aside s (s.claim slot e') :=
  .after (offer_aside _ _) (putEntry_goes hx (by rw [he]; rfl) (by rw [he]; rfl) hr fun _ => .inl he)

theorem holdsJob_of_bidding (h : bidding e) : e.state.holdsJob = false := by rcases h with h | h <;> rw [h] <;> rfl

theorem latestPoint_aside (hx : slotGet s.ofb.slots slot = some e) : Aside s (s.latestPoint slot e) := by
  unfold State.latestPoint
  dsimp only
  split
  · next hs =>
    split
    · exact putEntry_same hx rfl rfl
    · exact .after (removeOwn_aside _ _) (loseEntry_aside hx (holdsJob_of_bidding (.inr hs)) rfl)
  · next hs =>
    split
    · exact loseEntry_aside hx (holdsJob_of_bidding (.inl hs)) rfl
    · exact loseEntry_aside hx (holdsJob_of_bidding (.inl hs)) rfl
  · exact putEntry_same hx rfl rfl

theorem claimSent_aside (s : State) (k : JobKey) : Aside s (s.claimSent k) := by
  unfold State.claimSent State.modEntry
  split
  · next slot e he =>
    dsimp only
    split
    · next hs =>
      have hs : e.state = .claimPending := eq_of_beq hs
      exact putEntry_goes (entry_slot he) (by rw [hs]; rfl) (by rw [hs]; rfl) rfl fun hb => hb.elim nofun nofun
    · exact putEntry_same (entry_slot he) rfl rfl
  · exact .refl s

theorem claimHeard_aside (s : State) (k : JobKey) (c : Claim) : Aside s (s.claimHeard k c) := by
  unfold State.claimHeard
  split
  · exact .refl s
  · next slot e he =>
    split
    · exact .refl s
    · dsimp only
      split
      · next hs =>
        have hbid : bidding e := by
          simp only [Bool.and_eq_true, Bool.or_eq_true, beq_iff_eq] at hs
          exact hs.1
        exact .after (dropClaim_aside _ _) (loseEntry_aside (entry_slot he) (holdsJob_of_bidding hbid) rfl)
      · exact putEntry_same (entry_slot he) rfl rfl

theorem takeSent_aside (s : State) (k : JobKey) : Aside s (s.takeSent k) := by
  unfold State.takeSent State.modEntry
  split
  · next slot e he =>
    dsimp only
    split
    · next hs =>
      have hs : e.state = .taking := eq_of_beq hs
      exact putEntry_goes (entry_slot he) (by rw [hs]; rfl) (by rw [hs]; rfl) rfl fun hb => hb.elim nofun nofun
    · exact putEntry_same (entry_slot he) rfl rfl
  · exact .refl s

theorem dropSent_aside (s : State) (k : JobKey) : Aside s (s.dropSent k) := by
  unfold State.dropSent
  split
  · next slot e he =>
    split
    · next hp =>
      refine freeEntry_aside fun y hy hfits => ?_
      rw [entry_slot he] at hy
      cases hy
      exact holdsJob_of_dead (hfits hp)
    · exact .refl s
  · exact .refl s

theorem endRetention_aside (hx : slotGet s.ofb.slots slot = some e) (hd : e.state.live = false) : Aside s (s.endRetention slot e) := by
  unfold State.endRetention
  split
  · exact putEntry_ends hx (holdsJob_of_dead hd) hd
  · refine freeEntry_aside fun y hy _ => ?_
    rw [hx] at hy
    cases hy
    exact holdsJob_of_dead hd

theorem inputs_of_free (h : s.availNow = .free) : s.ret.alarm = .quiet ∧ s.ret.fare = .vacant := by
  have hquiet : s.ret.alarm = .quiet := by
    by_contra ha
    rw [availNow_of_alarm ha] at h
    cases h
  refine ⟨hquiet, ?_⟩
  unfold State.availNow availability at h
  rw [if_neg (by simp [hquiet])] at h
  split at h
  · cases h
  · cases h
  · cases h
  · cases h
  · assumption

/-- The take turn: FREE says that the cab is VACANT without a job, and the fare engine follows the job to ON-CALL (R97). -/
theorem takeTurn_agrees (h : Agrees s) (hx : slotGet s.ofb.slots slot = some e) (hlive : e.state.live = true)
    (hj : e.state.holdsJob = false) : Agrees (s.takeTurn slot e) := by
  unfold State.takeTurn
  split
  · next hfree =>
    have hfree : s.ofb.avail = some .free := eq_of_beq hfree
    obtain ⟨hquiet, hvacant⟩ := inputs_of_free (Option.some.inj (h.current.symm.trans (h.board.symm.trans hfree)))
    have hput := jobs_put (e := { e with state := .taking }) hx
    rw [hj, h.jobs, hvacant] at hput
    have hone : jobsFit (s.putEntry slot { e with state := .taking }) .onCall := hput
    have hpast : pastFits { e with state := .taking } := fun hp => by
      have hdead := h.past e (slotGet_mem _ _ _ hx) hp
      rw [hlive] at hdead
      cases hdead
    have k := offer_aside (s.putEntry slot { e with state := .taking }) (.take e.key)
    rw [fareTaking_of_vacant ((congrArg Link.fare k.link).trans hvacant)]
    refine (raiseEvent_aside _ _ _ _).agrees (setFare_behind k (put_tied h.toTied hone hpast fun hn => absurd hfree hn) fun ha => ?_)
    cases hquiet.symm.trans ha
  · exact (loseEntry_aside hx hj rfl).agrees h

theorem closeEntry_agrees (h : Agrees s) (hx : slotGet s.ofb.slots slot = some e) : Agrees (s.closeEntry slot e) := by
  unfold State.closeEntry
  dsimp only
  split
  · next hs =>
    have hs : e.state = .claimed := eq_of_beq hs
    have hranked : Agrees (s.putEntry slot { e with state := .ranked, closeTaken := true, rank := ownRank s.ownId e.claims }) :=
      (putEntry_goes (e := { e with state := .ranked, closeTaken := true, rank := ownRank s.ownId e.claims }) hx
        (by rw [hs]; rfl) (by rw [hs]; rfl) rfl fun hb => hb.elim nofun nofun).agrees h
    split
    · have hput := (putEntry_same hx (e := { e with closeTaken := true, rank := ownRank s.ownId e.claims }) rfl rfl).agrees h
      exact takeTurn_agrees hput (slotGet_slotPut_self _ _ _ (slotGet_lt hx)) (by show e.state.live = true; rw [hs]; rfl)
        (by show e.state.holdsJob = false; rw [hs]; rfl)
    · exact hranked
    · exact hranked
    · exact (loseEntry_aside hx (by rw [hs]; rfl) rfl).agrees h
  · exact same_agrees h hx rfl rfl

theorem settleTake_agrees (h : Agrees s) (x : Claim) (hx : slotGet s.ofb.slots slot = some e) (hj : e.state.holdsJob = true) :
    Agrees (s.settleTake slot e x) := by
  by_cases hb : x.better (s.ownClaim e) = true
  · rw [settleTake_giveUp hb]
    exact (raiseEvent_aside _ _ _ _).agrees (giveUp_agrees h.toTied hx hj rfl)
  · unfold State.settleTake
    rw [if_neg hb]
    split
    · exact (offer_aside _ _).agrees (same_agrees h hx rfl rfl)
    · exact h

theorem takeHeard_agrees (h : Agrees s) (k : JobKey) (x : Claim) : Agrees (s.takeHeard k x) := by
  unfold State.takeHeard
  split
  · exact h
  · next slot e he =>
    have hx := entry_slot he
    dsimp only
    split
    · next hs => exact settleTake_agrees h x hx (by rw [hs]; rfl)
    · next hs => exact settleTake_agrees h x hx (by rw [hs]; rfl)
    · next hs => exact (loseEntry_aside hx (by rw [hs]; rfl) rfl).agrees h
    · next hs => exact (dropClaim_aside _ _).agrees ((loseEntry_aside hx (by rw [hs]; rfl) rfl).agrees h)
    · next hs => exact (loseEntry_aside hx (by rw [hs]; rfl) rfl).agrees h
    · next hs => exact (loseEntry_aside hx (by rw [hs]; rfl) rfl).agrees h
    · next hs => exact (putEntry_ends hx (by rw [hs]; rfl) rfl).agrees h
    · exact (raiseEvent_aside _ _ _ _).agrees h
    · exact same_agrees h hx rfl rfl

theorem withdraw_agrees (h : Agrees s) (r : Reason) (hx : slotGet s.ofb.slots slot = some e) : Agrees (s.withdraw slot e r) := by
  have hnotes (v : State) (hv : Agrees v) : Agrees (v.noteWithdrawn e.key) :=
    Aside.agrees (s := v) (aside_rest rfl rfl) hv
  refine hnotes _ ?_
  split
  · next hj =>
    exact (raiseEvent_aside _ _ _ _).agrees (released_agrees h.toTied (fare_of_job h.toTied hx hj) hx hj rfl
      ((dropClaim_aside _ _).trans (removeOwn_aside _ _)))
  · next hj => exact (dropClaim_aside _ _).agrees ((putEntry_ends hx (by simpa using hj) rfl).agrees h)

theorem cancelHeard_agrees (h : Agrees s) (k : JobKey) (r : Reason) : Agrees (s.cancelHeard k r) := by
  unfold State.cancelHeard
  split
  · exact h
  · next slot e he =>
    split
    · exact withdraw_agrees h r (entry_slot he)
    · split
      · exact (lateCancel_aside _ _).agrees ((raiseEvent_aside _ _ _ _).agrees h)
      · exact h

theorem dropHeard_aside (s : State) (k : JobKey) : Aside s (s.dropHeard k) := by
  unfold State.dropHeard State.modEntry
  split
  · next slot e he => exact putEntry_same (entry_slot he) rfl rfl
  · exact .refl s

/-! ## The fare engine's commands (R108, R117, R123 to R125, R137, R138) -/

theorem setDriver_agrees (h : Agrees s) (d : DriverStatus) : Agrees (s.setDriver d) := by
  have k := idleUpdate_aside (s.setFre { s.fre with driver := d })
  exact recompute_agrees (k.tied ⟨h.board, h.ppu, h.jobs, h.past, h.bids⟩) (heldLaw_of_link k.link h.held)

theorem openShift_agrees (h : Agrees s) : Agrees s.openShift :=
  recompute_agrees ⟨h.board, h.ppu, h.jobs, h.past, h.bids⟩ h.held

theorem closeShift_agrees (h : Agrees s) : Agrees s.closeShift :=
  (tallyIfHome_aside _).agrees (recompute_agrees ⟨h.board, h.ppu, h.jobs, h.past, h.bids⟩ h.held)

theorem stopTrip_agrees (h : Agrees s) (hf : s.ret.fare ≠ .onCall) : Agrees s.stopTrip := by
  have k : Aside s (s.stopSecond.modTrip fun t => { t with stopTime := some s.ret.shiftTime }) := aside_rest rfl rfl
  exact setFare_agrees ((k.tied h.toTied).moves hf nofun) fun _ => ⟨nofun, nofun⟩

theorem settleTrip_agrees (h : Agrees s) (hf : s.ret.fare = .total) (r : TripRecord) : Agrees (s.settleTrip r) := by
  have k : Aside s (s.bookTrip r).tallyIfHome := .after (tallyIfHome_aside _) (aside_rest rfl rfl)
  have hfare : (s.bookTrip r).tallyIfHome.ret.fare ≠ .onCall := by
    rw [show (s.bookTrip r).tallyIfHome.ret.fare = s.ret.fare from congrArg Link.fare k.link, hf]
    nofun
  exact setFare_agrees ((k.tied h.toTied).moves hfare nofun) fun _ => ⟨nofun, nofun⟩

theorem resumeTrip_agrees (h : Agrees s) (hf : s.ret.fare = .total) : Agrees s.resumeTrip := by
  have hne : s.ret.fare ≠ .onCall := by rw [hf]; nofun
  let r : Retained := { s.ret with
    fare := if s.ret.alarm == .alerting then .held else .hired
    trip := s.ret.trip.map fun t => { t with bucket := 0 } }
  have hr : r.fare ≠ .onCall := by
    show (if s.ret.alarm == .alerting then FareState.held else .hired) ≠ _
    split <;> nofun
  have k : Aside (s.setRet r) ((s.setRet r).startSecond).surchargeTest := .after (surchargeTest_aside _) (aside_rest rfl rfl)
  refine recompute_agrees (k.tied (h.toTied.moves hne hr)) (heldLaw_of_link k.link fun ha => ⟨?_, hr⟩)
  show (if s.ret.alarm == .alerting then FareState.held else .hired) ≠ _
  rw [if_pos (by rw [show s.ret.alarm = .alerting from ha]; rfl)]
  nofun

/-- A trip has started on a board without a job (R117). -/
theorem started_agrees {v : State} {t : Trip} (h : Tied (hiredWith v t)) (ha : v.ret.alarm ≠ .alerting) :
    Agrees ((hiredWith v t).surchargeTest.startSecond).recompute := by
  have k : Aside (hiredWith v t) (hiredWith v t).surchargeTest.startSecond := (surchargeTest_aside _).trans (aside_rest rfl rfl)
  exact recompute_agrees (k.tied h) (heldLaw_of_link k.link fun hx => absurd hx ha)

/-- HIRE: the job in hand, when there is one, is done (R103, R117). -/
theorem startTrip_agrees (h : Agrees s) (t : Trip) (hb : s.hireBarred = false) : Agrees (s.startTrip t) := by
  simp only [State.hireBarred, Bool.or_eq_false_iff, beq_eq_false_iff_ne] at hb
  obtain ⟨⟨⟨⟨hhired, hheld⟩, htotal⟩, ha⟩, -⟩ := hb
  cases hf : s.ret.fare with
  | hired => exact absurd hf hhired
  | held => exact absurd hf hheld
  | total => exact absurd hf htotal
  | vacant =>
    rw [startTrip_vacant t hf]
    have k := h.toTied.moves (r := { s.ret with fare := .hired }) (by rw [hf]; nofun) nofun
    exact started_agrees ⟨k.board, k.ppu, k.jobs, k.past, k.bids⟩ ha
  | onCall =>
    have hone : s.ofb.jobs.length = 1 := by rw [h.jobs, if_pos hf]
    cases hj : s.jobEntry with
    | none =>
      rw [no_job hj] at hone
      cases hone
    | some p =>
      obtain ⟨slot, e⟩ := p
      obtain ⟨hx, hjob⟩ := jobEntry_spec hj
      let e' := { e with state := .done, termTime := some s.now, takeMark := none }
      have hput := jobs_put (e := e') hx
      rw [if_pos hjob, hone] at hput
      have hzero : jobsFit (s.putEntry slot e') .hired := by simpa [jobsFit, e', OfferState.holdsJob] using hput
      have k := put_tied (r := { s.ret with fare := .hired }) h.toTied hzero (fun _ => rfl) fun _ => not_bidding_of_dead rfl
      rw [startTrip_onCall t hf hj]
      exact started_agrees ⟨k.board, k.ppu, k.jobs, k.past, k.bids⟩ ha

end

end Sys2Proof
end

section
/-! PROOFS. The own alarm, the position, reception and the commands keep availability, jobs and alarms in agreement (O56). -/

namespace Sys2Proof

open Sys2Proof.Machine

section
variable {s : State}

/-! ## The own alarm (R127, R163 to R173) -/

theorem flashUpdate_aside (s : State) : Aside s s.flashUpdate := by
  unfold State.flashUpdate
  split
  · split
    · exact aside_rest rfl rfl
    · exact .refl s
  · exact aside_rest rfl rfl

theorem setEmu_aside (s : State) (e : Emu) : Aside s (s.setEmu e) := aside_rest rfl rfl

theorem offerRepeat_aside (s : State) : Aside s (s.offer .alarm).startRepeat := (offer_aside s _).trans (aside_rest rfl rfl)

/-- A trip that goes from one running state to another leaves the count of jobs alone. -/
theorem rerun_tied {u : State} {f : FareState} (k : Aside s u) (h : Tied s) (hf : s.ret.fare ≠ .onCall) (hn : f ≠ .onCall) :
    Tied ((u.setRet { u.ret with fare := f }).startSecond) :=
  Aside.tied (s := u.setRet { u.ret with fare := f }) (aside_rest rfl rfl) ((k.tied h).moves
    (by rw [show u.ret.fare = s.ret.fare from congrArg Link.fare k.link]; exact hf) hn)

/-- The fare engine follows the own alarm: under ALERTING a hired trip is held (R127). -/
theorem alarmFare_spec (h : Tied s) : Tied s.alarmFare ∧ s.alarmFare.ret.alarm = s.ret.alarm
    ∧ (s.ret.alarm = .alerting → (s.ret.fare = .hired → s.ret.trip ≠ none) → s.alarmFare.ret.fare ≠ .hired) := by
  unfold State.alarmFare
  split
  next t ha hf ht =>
    have k := setEarned_aside s t (t.settlePart s.partSecond)
    exact ⟨rerun_tied k h (by rw [hf]; nofun) nofun, congrArg Link.alarm k.link, fun _ _ => nofun⟩
  next t ha hf ht =>
    have k := setTrip_aside s (t.addHeld s.partSecond)
    exact ⟨rerun_tied k h (by rw [hf]; nofun) nofun, congrArg Link.alarm k.link, fun hx => nomatch ha.symm.trans hx⟩
  next t ha hf ht =>
    have k := setTrip_aside s (t.addHeld s.partSecond)
    exact ⟨rerun_tied k h (by rw [hf]; nofun) nofun, congrArg Link.alarm k.link, fun hx => nomatch ha.symm.trans hx⟩
  next hno _ _ =>
    refine ⟨h, rfl, fun ha htrip hf => ?_⟩
    obtain ⟨t, ht⟩ := Option.ne_none_iff_exists'.mp (htrip hf)
    exact hno t ha hf ht

theorem setAlarm_tied (h : Tied s) (a : AlarmState) (c : Bool) : Tied (s.setAlarm a c) := h.store rfl

theorem heldLaw_of_calm (h : s.ret.alarm ≠ .alerting) : heldLaw s := fun ha => absurd ha h

/-- Any other state of the own alarm than ALERTING is told to the fare engine. -/
theorem alarmChanged_agrees (h : Tied s) (ha : s.ret.alarm ≠ .alerting) : Agrees s.alarmChanged := by
  obtain ⟨ht, hal, -⟩ := alarmFare_spec h
  exact (flashUpdate_aside _).agrees (recompute_agrees ht (heldLaw_of_calm (by rw [hal]; exact ha)))

theorem enterCovert_agrees (h : Agrees s) : Agrees s.enterCovert :=
  (offerRepeat_aside _).agrees (Aside.agrees (s := (s.setAlarm .covert true).alarmChanged) (aside_rest rfl rfl)
    (alarmChanged_agrees (setAlarm_tied h.toTied _ _) nofun))

theorem enterEnding_agrees (h : Agrees s) : Agrees s.enterEnding := by
  let u := (s.setAlarm .ending s.ret.covert).setEmu { s.emu with repeatAt := none, firstSent := false }
  have k : Aside (s.setAlarm .ending s.ret.covert) (u.removeOwn .alarm) := .after (removeOwn_aside _ _) (aside_rest rfl rfl)
  have ha : (u.removeOwn .alarm).ret.alarm = .ending := congrArg Link.alarm k.link
  have hc : Agrees (u.removeOwn .alarm).alarmChanged :=
    alarmChanged_agrees (k.tied (setAlarm_tied h.toTied _ _)) (by rw [ha]; nofun)
  exact (offer_aside _ _).agrees (Aside.agrees (s := (u.removeOwn .alarm).alarmChanged) (aside_rest rfl rfl) hc)

theorem enterQuiet_agrees (h : Agrees s) : Agrees s.enterQuiet :=
  alarmChanged_agrees (s := (s.setAlarm .quiet false).setEmu _)
    (Aside.tied (s := s.setAlarm .quiet false) (aside_rest rfl rfl) (setAlarm_tied h.toTied _ _)) nofun

theorem codeGiven_agrees (h : Agrees s) (code : Nat) : Agrees (s.codeGiven code) := by
  unfold State.codeGiven
  split
  · exact enterEnding_agrees h
  split
  · exact enterCovert_agrees h
  · exact h

/-- In ALERTING nothing may claim any more, and the job in hand is dropped (R78, R104). -/
theorem alarmBoard_agrees (h : Tied s) (hc : s.fre.avail = some s.availNow) (hf : s.ret.fare ≠ .hired) : Agrees s.alarmBoard := by
  have k := (convertBoard_aside s .alarm).1
  have ht := k.tied h
  unfold State.alarmBoard
  dsimp only
  split
  next slot e he =>
    obtain ⟨hx, hj⟩ := jobEntry_spec he
    exact dropJob_agrees ht hx hj .emergency
  next he =>
    refine ⟨ht, ?_, heldLaw_of_link k.link fun _ => ⟨hf, fun hon => ?_⟩⟩
    · rw [availNow_of_link k.link, ← hc]
      exact congrArg Link.known k.link
    · have hjobs := no_job he
      rw [ht.jobs, show (s.convertBoard .alarm).ret.fare = s.ret.fare from congrArg Link.fare k.link, if_pos hon] at hjobs
      cases hjobs

theorem enterAlerting_agrees (h : Agrees s) (htrip : s.ret.fare = .hired → s.ret.trip ≠ none) : Agrees s.enterAlerting := by
  let u := s.setRet { s.ret with serial := next8 s.ret.serial, alarm := .alerting, covert := false }
  obtain ⟨ht, -, hheld⟩ := alarmFare_spec (s := u) (h.toTied.store rfl)
  obtain ⟨hr, hcur, -, hfare⟩ := recompute_tied ht
  have hhired : u.alarmNotice.ret.fare ≠ .hired := fun hx => hheld rfl htrip (hfare.symm.trans hx)
  have hboard : Agrees (u.alarmNotice.alarmBoard).flashUpdate := (flashUpdate_aside _).agrees (alarmBoard_agrees hr hcur hhired)
  unfold State.enterAlerting
  dsimp only
  split
  · exact (offerRepeat_aside _).agrees ((setEmu_aside _ _).agrees hboard)
  · exact (setEmu_aside _ _).agrees hboard

theorem alarmSent_aside (s : State) : Aside s s.alarmSent := by
  unfold State.alarmSent
  split
  · dsimp only
    split
    · exact aside_rest rfl rfl
    · exact aside_rest rfl rfl
  · exact .refl s

theorem alarmEndSent_agrees (h : Agrees s) : Agrees s.alarmEndSent := by
  unfold State.alarmEndSent
  split
  · exact Aside.agrees (s := s) (aside_rest rfl rfl) h
  · exact enterQuiet_agrees h
  · exact h

theorem alarmGo_aside (s : State) : Aside s s.alarmGo := by
  unfold State.alarmGo
  split
  · exact .after (offerRepeat_aside _) (aside_rest rfl rfl)
  · exact .after (offerRepeat_aside _) (aside_rest rfl rfl)
  · exact .after (offer_aside _ _) (aside_rest rfl rfl)
  · exact .refl s

theorem panicLevel_agrees (h : Agrees s) (low : Bool) : Agrees (s.panicLevel low) := by
  have hset (t : Option Nat) (a : AlarmState) (c : Bool) (ha : a ≠ .alerting) :
      Agrees ((((s.setEmu { s.emu with panicLow := low, filterAt := none }).setEmu { s.emu with
        panicLow := low, filterAt := none, holdAt := t }).setAlarm a c).alarmChanged) :=
    alarmChanged_agrees (Aside.tied (s := s.setAlarm a c) (aside_rest rfl rfl) (setAlarm_tied h.toTied a c)) ha
  unfold State.panicLevel
  dsimp only
  split
  · exact hset _ _ _ nofun
  split
  · exact hset _ _ _ nofun
  · exact Aside.agrees (s := s) (aside_rest rfl rfl) h

/-! ## The position (R50 to R52) -/

theorem fixNotice_agrees (h : Tied s) (hh : heldLaw s) (zoneChanged : Bool) : Agrees (s.fixNotice zoneChanged) := by
  have k := recompute_agrees h hh
  unfold State.fixNotice
  dsimp only
  split
  · exact (surchargeTest_aside _).agrees k
  · exact k

/-- A new position, before the fare engine is told. -/
theorem setPpu_agrees (h : Agrees s) (p : Ppu) (hp : p.avail = s.ppu.avail) (zoneChanged : Bool) :
    Agrees ((s.setPpu p).fixNotice zoneChanged) :=
  fixNotice_agrees (s := s.setPpu p) ⟨h.board, hp.trans h.ppu, h.jobs, h.past, h.bids⟩ h.held zoneChanged

theorem turnStale_agrees (h : Agrees s) : Agrees s.turnStale := setPpu_agrees h { s.ppu with fix := false, zone := 255, stale := true } rfl _

theorem validFix_agrees (h : Agrees s) (p : Point) : Agrees (s.validFix p) := by
  unfold State.validFix
  dsimp only
  split
  · exact setPpu_agrees h { s.ppu with
      position := some p, fix := true, fixTime := some s.now, stale := false, zone := zoneOf s.ppu.zones p } rfl _
  · next hn =>
    have hfresh : s.ppu.stale = false := by
      simp only [Bool.or_eq_true, not_or, Bool.not_eq_true] at hn
      exact hn.1
    refine Aside.agrees (s := s) (aside_rest ?_ rfl) h
    exact congrArg (fun b => { linkOf s with stale := b }) hfresh.symm

/-! ## Reception (R33 to R45) -/

theorem noteHeard_aside (s : State) (n : NoteBody) (origin t : Nat) : Aside s (s.noteHeard n origin t) := by
  unfold State.noteHeard
  split
  · split
    · split
      · exact offer_aside s _
      · exact .refl s
    · unfold State.storeNote
      dsimp only
      split
      · split
        · exact offer_aside s _
        · exact .refl s
      · refine .after (raiseEvent_aside _ _ _ _) ?_
        split
        · exact .after (offer_aside _ _) (aside_rest rfl rfl)
        · exact aside_rest rfl rfl
  · exact .refl s

theorem receiptHeard_aside (s : State) (origin dest id : Nat) (kind : ReceiptKind) : Aside s (s.receiptHeard origin dest id kind) := by
  unfold State.receiptHeard
  split
  · split
    · exact .refl s
    · split
      · exact .refl s
      · dsimp only
        refine .after (raiseEvent_aside _ _ _ _) ?_
        split
        · exact .after (removeOwn_aside _ _) (aside_rest rfl rfl)
        · exact aside_rest rfl rfl
  · exact .refl s

theorem alarmHeard_aside (s : State) (f : Frame) (t serial count : Nat) (fix duress : Bool) (pos : Point) :
    Aside s (s.alarmHeard f t serial count fix duress pos) := by
  unfold State.alarmHeard
  split
  · split
    · exact aside_rest rfl rfl
    · exact .refl s
  · split
    · exact aside_rest rfl rfl
    · split
      · exact .refl s
      · dsimp only
        split <;> exact aside_rest rfl rfl

theorem alarmEndHeard_aside (s : State) (f : Frame) (t serial : Nat) (pos : Point) : Aside s (s.alarmEndHeard f t serial pos) := by
  unfold State.alarmEndHeard
  split
  · exact .refl s
  · split
    · exact aside_rest rfl rfl
    · exact .refl s

theorem deliver_agrees (h : Agrees s) (f : Frame) (t : Nat) : Agrees (s.deliver f t) := by
  unfold State.deliver
  split
  · exact h
  · exact (offerHeard_aside s _ f t).agrees h
  · exact (claimHeard_aside s _ _).agrees h
  · exact takeHeard_agrees h _ _
  · exact (dropHeard_aside s _).agrees h
  · exact cancelHeard_agrees h _ _
  · exact (noteHeard_aside s _ _ t).agrees h
  · exact (receiptHeard_aside s _ _ _ _).agrees h
  · exact (alarmHeard_aside s f t _ _ _ _ _).agrees h
  · exact (alarmEndHeard_aside s f t _ _).agrees h
  · exact h

theorem peersOnly_aside {u : State} (h : PeersOnly s u) : Aside s u := by
  obtain ⟨d, peers, rfl⟩ := h
  exact aside_rest rfl rfl

theorem holdFrame_aside (s : State) (f : Frame) (t : Nat) : Aside s (s.holdFrame f t) := by
  unfold State.holdFrame
  split <;> exact aside_rest rfl rfl

theorem cancelRelay_aside (s : State) (k : FrameKey) (m : RelayMark) : Aside s (s.cancelRelay k m) := by
  unfold State.cancelRelay
  cases m with
  | hold i => exact aside_rest rfl rfl
  | queued => exact .after (aside_queue (removeRelay_frame _ _)) (aside_rest rfl rfl)
  | none => exact aside_rest rfl rfl

theorem copyHeard_aside (s : State) (c : CacheEntry) : Aside s (s.copyHeard c) := by
  unfold State.copyHeard
  dsimp only
  split
  · exact .after (cancelRelay_aside _ _ _) (aside_rest rfl rfl)
  · exact aside_rest rfl rfl

theorem newFrame_agrees (h : Agrees s) (f : Frame) (t : Nat) : Agrees (s.newFrame f t) := by
  have hd : Agrees ((s.cacheNew f.key t).deliver f t) :=
    deliver_agrees (Aside.agrees (s := s) (t := s.cacheNew f.key t) (aside_rest rfl rfl) h) f t
  unfold State.newFrame
  dsimp only
  split
  · exact (holdFrame_aside _ f t).agrees hd
  · exact hd

theorem acceptFrame_agrees (h : Agrees s) (f : Frame) (t : Nat) : Agrees (s.acceptFrame f t) := by
  have hp : Agrees ((s.setStats { s.rru.stats with good := inc16 s.rru.stats.good }).peerNotice f t) :=
    (peersOnly_aside (peerNotice_only _ f t)).agrees (Aside.agrees (s := s) (aside_rest rfl rfl) h)
  unfold State.acceptFrame
  dsimp only
  split
  · split
    · exact newFrame_agrees hp f t
    · exact (copyHeard_aside _ _).agrees hp
  · exact deliver_agrees hp f t

theorem judgeFrame_agrees (h : Agrees s) (bytes : List Byte) (overrun : Bool) (t : Nat) : Agrees (s.judgeFrame bytes overrun t) := by
  have hstats (x : Stats) : Agrees (s.setStats x) := Aside.agrees (s := s) (aside_rest rfl rfl) h
  unfold State.judgeFrame
  split
  · exact hstats _
  split
  · exact hstats _
  split
  · exact h
  split
  · exact hstats _
  · unfold State.filterOwn
    split
    · rw [idClash_eq]
      exact Aside.agrees (s := s) (aside_rest rfl rfl) h
    split
    · exact h
    · exact acceptFrame_agrees h _ t

theorem fallFrame_agrees (h : Agrees s) (taken : List Byte) (further : Nat) : Agrees (s.fallFrame taken further) := by
  unfold State.fallFrame
  split
  · exact h
  split
  · exact Aside.agrees (s := s) (aside_rest rfl rfl) h
  split
  · exact judgeFrame_agrees h _ _ _
  · exact (aside_queue (truncate_frame s)).agrees h

/-! ## The end of an own transmission (R27) -/

theorem sentNotice_agrees (h : Agrees s) (e : QEntry) : Agrees (s.sentNotice e) := by
  unfold State.sentNotice
  split
  · exact Aside.agrees (s := s) (aside_rest rfl rfl) h
  · split
    · exact (claimSent_aside s _).agrees h
    · exact (takeSent_aside s _).agrees h
    · exact (dropSent_aside s _).agrees h
    · refine Aside.agrees (s := s) ?_ h
      unfold State.modOut
      split
      · exact aside_rest rfl rfl
      · exact .refl s
    · refine Aside.agrees (s := s) ?_ h
      unfold State.tallySent
      split
      · exact .refl s
      · exact aside_rest rfl rfl
    · exact (alarmSent_aside s).agrees h
    · exact alarmEndSent_agrees h
    · exact h
    · exact h

theorem endTx_agrees (h : Agrees s) (a : OnAir) : Agrees (s.endTx a) := by
  have hfollow (v : State) : Aside v (v.sentFollowUp a.entry) := by
    unfold State.sentFollowUp
    split
    · split
      · exact offer_aside _ _
      · exact .refl v
    · exact .refl v
  have hsent : Agrees (((s.setCau { s.cau with onAir := none }).resumeHunt).sentNotice a.entry) :=
    sentNotice_agrees (Aside.agrees (s := s) (t := (s.setCau { s.cau with onAir := none }).resumeHunt) (aside_rest rfl rfl) h) a.entry
  have hdef (v : State) (g : Group) : Aside v (v.offerDeferred g) := aside_queue (offerDeferred_frame v g)
  let w := ((((((s.setCau { s.cau with onAir := none }).resumeHunt).sentNotice a.entry).offerDeferred .class0).offerDeferred
    .tally).offerDeferred .beacon)
  have hw : Agrees w := (hdef _ _).agrees ((hdef _ _).agrees ((hdef _ _).agrees hsent))
  have hset : Agrees (w.setCau { w.cau with w := 4, idleRef := if w.pins.cd then w.cau.idleRef else some w.now }) :=
    Aside.agrees (s := w) (aside_rest rfl rfl) hw
  exact (hfollow _).agrees ((aside_queue (decide_frame _ _)).agrees ((aside_queue (spaceThen_frame id .refl _)).agrees hset))

/-! ## Every command -/

theorem acceptEntry_aside {slot : Nat} {e : BoardEntry} (hx : slotGet s.ofb.slots slot = some e) (ho : e.state = .opened) :
    Aside s (s.acceptEntry slot e) := by
  unfold State.acceptEntry
  split
  · exact claim_aside hx ho rfl
  · exact putEntry_same hx rfl rfl

theorem passEntry_aside {slot : Nat} {e : BoardEntry} (hx : slotGet s.ofb.slots slot = some e)
    (ho : e.state = .opened ∨ e.state = .claimPending) : Aside s ((s.putEntry slot e.pass).dropClaim e) :=
  .after (dropClaim_aside _ _) (putEntry_goes hx (by rcases ho with h | h <;> rw [h] <;> rfl) (holdsJob_of_bidding ho).symm rfl
    fun _ => ho)

theorem markNote_aside (s : State) (slot : Nat) (r : InNote) : Aside s (s.markNote slot r) := by
  unfold State.markNote
  dsimp only
  split
  · exact .after (offer_aside _ _) (aside_rest rfl rfl)
  · exact aside_rest rfl rfl

theorem goRun_aside (s : State) : Aside s s.goRun := by
  have hstart (v : State) : Aside v v.startEvent := by
    unfold State.startEvent
    dsimp only
    split <;> exact aside_rest rfl rfl
  exact .after (alarmGo_aside _) (.after (hstart _) (aside_rest rfl rfl))

theorem actOf_agrees {code : Nat} {p : List Byte} {g : CmdGroup} {act : Act} (ha : actOf code p = some (g, act)) (h : Agrees s)
    (hl : s.ret.tripLaw) : Answers Agrees s (act s) := by
  have hrest {t : State} (k : Aside s t) : Agrees t := k.agrees h
  obtain ⟨-, hrun, -⟩ := hl
  unfold actOf at ha
  split at ha <;> cases ha
  · exact actConfigure_answers _ _ _ _ ((flashUpdate_aside _).agrees (hrest (aside_rest rfl rfl)))
  · exact actLoadZone_answers _ (hrest (aside_rest rfl rfl))
  · exact actLoadTariff_answers _ _ fun _ _ => hrest (aside_rest rfl rfl)
  · exact actLoadSurcharge_answers _ _ (hrest (aside_rest rfl rfl))
  · exact actSetPulse_answers _ fun _ _ _ => hrest (aside_rest rfl rfl)
  · exact actGo_answers (hrest (goRun_aside s))
  · exact actSense_answers (hrest (aside_rest rfl rfl))
  · exact actReadStatus_answers h
  · exact actReadStats_answers h
  · exact actSetPosition_answers _ _ (validFix_agrees h _) (hrest (aside_rest rfl rfl))
  · exact actSetDriver_answers _ (setDriver_agrees h)
  · exact actReadPeer_answers _ h
  · exact actReadOffer_answers _ h
  · exact actScanOffers_answers _ _ _ _ h
  · exact actAcceptOffer_answers _ h fun e he ho => hrest (acceptEntry_aside he ho)
  · exact actPassOffer_answers _ fun e he ho => hrest (passEntry_aside he ho)
  · refine actReleaseJob_answers _ fun slot e r he => ?_
    obtain ⟨hx, hj⟩ := jobEntry_spec he
    exact dropJob_agrees h.toTied hx hj r
  · exact actHire_answers _ fun t k hb _ _ => startTrip_agrees h _ hb
  · refine actStop_answers (fun t hf _ => ?_) fun t hf _ => ?_
    · refine stopTrip_agrees (hrest (setEarned_aside s _ _)) ?_
      rw [(setEarned_trip s t _).1, hf]
      nofun
    · refine stopTrip_agrees (hrest (setTrip_aside s _)) ?_
      rw [State.setTrip_ret, hf]
      nofun
  · exact actResume_answers (resumeTrip_agrees h)
  · exact actSettle_answers _ fun t hf _ => settleTrip_agrees h hf _
  · exact actAddExtra_answers _ fun t _ _ => hrest (setPriced_aside s _)
  · exact actReadFare_answers h
  · exact actStartShift_answers fun _ => openShift_agrees h
  · exact actEndShift_answers fun _ => closeShift_agrees h
  · exact actReadTotals_answers h
  · exact actReadTrip_answers _ h
  · exact actPostNote_answers _ fun slot => hrest (.after (offer_aside _ _) (aside_rest rfl rfl))
  · exact actReadNote_answers _ _ h
  · exact actScanNotes_answers _ _ _ _ h
  · exact actMarkRead_answers _ h fun r _ => hrest (markNote_aside s _ r)
  · exact actDeleteNote_answers _ h fun r _ => hrest (aside_rest rfl rfl)
  · exact actReadOutbox_answers _ h
  · exact actClearOutbox_answers (hrest (aside_rest rfl rfl))
  · refine actRaiseAlarm_answers fun _ => enterAlerting_agrees h fun hf hn => ?_
    rw [hn, hf] at hrun
    cases hrun
  · exact actCancelAlarm_answers _ fun _ => codeGiven_agrees h _
  · exact actReadAlarm_answers _ h

end

end Sys2Proof
end

section
/-! PROOFS. Every step keeps availability, the job in hand, open claims and ALERTING in agreement (O56). -/

namespace Sys2Proof

open Sys2Proof.Machine

/-! ## The law from one state to the next -/

/-- The law of the device, with the law of the trip that its acts rest on. -/
structure Coherent (s : State) : Prop where
  trip : s.ret.tripLaw
  device : s.deviceLaw

section
variable {s t : State}

theorem device_of_agrees (h : Agrees s) : s.deviceLaw := deviceLaw_iff.mpr fun _ => h

/-- An act that leaves the supply alone and keeps the law of a part with its supply. -/
theorem device_of (hp : t.powered = s.powered) (h : Agrees s → Agrees t) (hs : s.deviceLaw) : t.deviceLaw :=
  deviceLaw_iff.mpr fun ht => h (deviceLaw_iff.mp hs (hp.symm.trans ht))

theorem Aside.device (k : Aside s t) (hs : s.deviceLaw) : t.deviceLaw := device_of (congrArg Link.powered k.link) k.agrees hs

/-- A change of the port or of the pins. -/
theorem Coherent.port (h : Coherent s) (hr : t.ret = s.ret) (k : Aside s t) : Coherent t :=
  ⟨by rw [hr]; exact h.trip, k.device h.device⟩

/-! ## Resets and supplies -/

theorem fare_recovered (r : Retained) : r.recover.fare ≠ .onCall ∧ r.recover.fare ≠ .hired := by
  have hfare : r.recover.fare = r.recoverFare.fare := by
    unfold Retained.recover Retained.recoverAlarm
    split <;> rfl
  rw [hfare]
  unfold Retained.recoverFare
  split
  next => exact ⟨nofun, nofun⟩
  next => exact ⟨nofun, nofun⟩
  next => exact ⟨nofun, nofun⟩
  next hhired _ hcall => exact ⟨hcall, hhired⟩

/-- After a reset the board is empty, no fare is hired or on call, and the first availability is told (R86, R129). -/
theorem resetPart_agrees (s : State) : Agrees s.resetPart := by
  obtain ⟨hc, hh⟩ := fare_recovered s.ret
  let u := (s.setRet s.ret.recover).volatileReset
  have hempty : slotEntries u.ofb.slots = [] := slotEntries_replicate 16
  have hjobs : u.ofb.jobs.length = 0 := by rw [Ofb.jobs, hempty]; rfl
  refine recompute_agrees (s := u) ⟨rfl, rfl, ?_, fun e he => ?_, fun _ e he => ?_⟩ fun _ => ⟨hh, hc⟩
  · rw [hjobs]
    exact (if_neg hc).symm
  · rw [hempty] at he
    cases he
  · rw [hempty] at he
    cases he

theorem powerDown_device (s : State) (vbk : Bool) : (s.powerDown vbk).deviceLaw := fun hp => nomatch hp

theorem samplePanic_aside (s : State) (low : Bool) : Aside s (s.samplePanic low) := by
  unfold State.samplePanic
  split
  · exact aside_rest rfl rfl
  · exact .refl s

theorem samplePanic_ret (s : State) (low : Bool) : (s.samplePanic low).ret = s.ret := by
  unfold State.samplePanic
  split <;> rfl

/-! ## Bytes on the port -/

theorem answerOf_agrees {code : Nat} {p : List Byte} {g : CmdGroup} {act : Act} (ha : actOf code p = some (g, act))
    (h : Coherent s) : (answerOf g act s).1.deviceLaw := by
  have hp : (answerOf g act s).1.powered = s.powered :=
    ((answerOf_keeps ha s (G := fun _ => True) (H := fun _ => True) (Q := False)).state (.refl s)).powered
  refine device_of hp (fun k => ?_) h.device
  unfold answerOf
  split
  · exact (actOf_agrees ha k h.trip).state k
  · exact k

theorem runCommand_coherent (code : Byte) (p : List Byte) (h : Coherent s) : Coherent (s.runCommand code p) := by
  refine ⟨(runCommand_lawful s code p).trip h.trip, ?_⟩
  unfold State.runCommand
  split
  · exact device_of_agrees (resetPart_agrees s)
  split
  · next a ha =>
    obtain ⟨g, act⟩ := a
    rw [show s.runAct g act = withPort (answerOf g act s).1 (answered (portOf s) (answerOf g act s).2) from
      runAct_withPort s (portOf s) g act (actOf_blind ha)]
    exact Aside.device (s := (answerOf g act s).1) (aside_rest rfl rfl) (answerOf_agrees ha h)
  · exact Aside.device (s := s) (aside_rest rfl rfl) h.device

theorem discard_coherent (b : Byte) (h : Coherent s) : Coherent (s.discard b) := by
  unfold State.discard
  split
  · exact h
  · exact h.port rfl (aside_rest rfl rfl)

theorem setCpt_coherent (c : Cpt) (h : Coherent s) : Coherent (s.setCpt c) := h.port rfl (aside_rest rfl rfl)

theorem sendStatus_coherent (h : Coherent s) : Coherent s.sendStatus := setCpt_coherent _ h

theorem readyByte_coherent (b : Byte) (h : Coherent s) : Coherent (s.readyByte b) := by
  unfold State.readyByte
  split
  · exact h
  split
  · exact h.port rfl (aside_rest rfl rfl)
  · exact runCommand_coherent _ _ (h.port rfl (aside_rest rfl rfl))
  · exact h.port rfl (aside_rest rfl rfl)

theorem paramByte_coherent (b : Byte) (h : Coherent s) : Coherent (s.paramByte b) := by
  unfold State.paramByte
  dsimp only
  split
  · exact runCommand_coherent _ _ h
  · exact h.port rfl (aside_rest rfl rfl)

theorem resultByte_coherent (first : Bool) (b : Byte) (h : Coherent s) : Coherent (s.resultByte first b) := by
  unfold State.resultByte
  split
  · exact discard_coherent b (sendStatus_coherent h)
  split
  · exact discard_coherent b (h.port rfl (aside_rest rfl rfl))
  · exact discard_coherent b (h.port rfl (aside_rest rfl rfl))

theorem phaseByte_coherent (first : Bool) (b : Byte) (h : Coherent s) : Coherent (s.phaseByte first b) := by
  unfold State.phaseByte
  split
  · exact readyByte_coherent b (sendStatus_coherent h)
  · exact paramByte_coherent b (sendStatus_coherent h)
  · exact discard_coherent b (sendStatus_coherent h)
  · exact resultByte_coherent first b h

theorem hostByte_coherent (first : Bool) (b : Byte) (h : Coherent s) : Coherent (s.hostByte first b) := by
  unfold State.hostByte State.lowByte
  dsimp only
  split
  · exact h
  split
  · exact h.port rfl (aside_rest rfl rfl)
  split
  · exact h.port rfl (aside_rest rfl rfl)
  · exact phaseByte_coherent first b (h.port rfl (aside_rest rfl rfl))

theorem csnRise_coherent (h : Coherent s) : Coherent s.csnRise := h.port rfl (aside_rest rfl rfl)

theorem afterByte_coherent (last : Bool) (h : Coherent s) : Coherent (s.afterByte last) := by
  cases last
  · exact h
  · exact csnRise_coherent h

theorem transaction_coherent (l : List Byte) (h : Coherent s) : Coherent (s.transaction l) := by
  cases l with
  | nil => exact h
  | cons b l =>
    refine csnRise_coherent ?_
    unfold State.laterBytes
    have hfirst := hostByte_coherent true b h
    generalize s.hostByte true b = u at hfirst ⊢
    induction l generalizing u with
    | nil => exact hfirst
    | cons c l ih => exact ih _ (hostByte_coherent false c hfirst)

theorem hostCommand_coherent (code : Byte) (params : List Byte) {n : Nat} {p : List Byte} {g : CmdGroup} {act : Act}
    (ha : actOf n p = some (g, act)) (h : Coherent s) : Coherent (s.hostCommand code params g act) := by
  refine ⟨(hostCommand_lawful s code params ha).trip h.trip, ?_⟩
  by_cases hp : s.powered = true ∧ s.cpt.phase = .ready
  · rw [hostCommand_answering (actOf_blind ha) hp.1 hp.2, answering_eq]
    exact Aside.device (s := (answerOf g act s).1) (aside_rest rfl rfl) (answerOf_agrees ha h)
  · have hoff : (s.powered && s.cpt.phase == .ready) = false := by simpa using hp
    rw [State.hostCommand, hoff, if_neg Bool.false_ne_true]
    exact (transaction_coherent _ h).device

theorem sampled_coherent (i : Instr) (h : Coherent s) : Coherent (i.sampled s) := by
  have htp (tp : Bool) : Coherent (s.setPins { s.pins with tprotOpen := tp }) := h.port rfl (aside_rest rfl rfl)
  cases i
  case restart low => exact h.port (samplePanic_ret s low) (samplePanic_aside s low)
  case loadTariff tp => exact htp tp
  case loadSurcharge tp => exact htp tp
  case setPulseConstant tp => exact htp tp
  case readStatus tp => exact htp tp
  all_goals exact h

theorem command_coherent {i : Instr} {g : CmdGroup} {code : Byte} {params : List Byte} (hi : i.command = some (g, code, params))
    (he : exec i s = .next t) (h : Coherent s) : Coherent t := by
  by_cases hr : ∃ low, i = .restart low
  · obtain ⟨low, rfl⟩ := hr
    cases he
    exact transaction_coherent _ (h.port (samplePanic_ret s low) (samplePanic_aside s low))
  · obtain ⟨act, hrow⟩ := rowIs_of_command hi fun low heq => hr ⟨low, heq⟩
    rw [hrow.run] at he
    cases he
    exact hostCommand_coherent _ _ hrow.decoded (sampled_coherent i h)

end

end Sys2Proof
end

section
/-! PROOFS. Every row and every step keeps the law of the device (O56). -/

namespace Sys2Proof

open Sys2Proof.Machine

section
variable {s t : State}

theorem ite_device {c : Prop} [Decidable c] (h : s.deviceLaw) (k : c → t.deviceLaw) : (if c then t else s).deviceLaw := by
  split
  · next hc => exact k hc
  · exact h

/-- A row on a board entry: an act when its condition holds. -/
theorem boardRow_device {slot : Nat} {c : BoardEntry → Bool} {act : BoardEntry → State} (h : s.deviceLaw)
    (k : ∀ e, slotGet s.ofb.slots slot = some e → c e = true → (act e).deviceLaw) :
    (match slotGet s.ofb.slots slot with
      | some e => if c e then act e else s
      | none => s).deviceLaw := by
  split
  · next e he => exact ite_device h (k e he)
  · exact h

theorem kick_aside (s : State) : Aside s s.kick := aside_queue (kick_frame s)

theorem offerRelay_aside (s : State) (f : Frame) (t : Nat) : Aside s (s.offerRelay f t) := aside_queue (offerRelay_frame s f t)

theorem clockRxd_aside (s : State) : Aside s s.clockRxd := by
  unfold State.clockRxd
  split
  · split
    · exact aside_rest rfl rfl
    · exact .refl s
  · exact .refl s

theorem syncMatch_aside (s : State) : Aside s s.syncMatch := by
  unfold State.syncMatch
  split
  · exact aside_rest rfl rfl
  · exact .refl s

theorem retryNote_aside (s : State) (slot : Nat) (r : OutNote) : Aside s (s.retryNote slot r) := by
  unfold State.retryNote
  split
  · exact .after (offer_aside _ _) (aside_rest rfl rfl)
  · exact aside_rest rfl rfl

theorem ageAlarm_aside (s : State) (i : Nat) (a : AlarmEntry) : Aside s (s.ageAlarm i a) := by
  unfold State.ageAlarm
  split <;> exact aside_rest rfl rfl

theorem cdRise_aside (s : State) : Aside s s.cdRise := by
  unfold State.cdRise
  dsimp only
  split <;> exact aside_rest rfl rfl

theorem fallFrame_powered (s : State) (taken : List Byte) (further : Nat) : (s.fallFrame taken further).powered = s.powered :=
  (fallFrame_keeps (G := fun _ => True) (H := fun _ => True) (Q := False) s taken further (fun _ q => q.elim)
    fun _ _ _ _ _ => trivial).powered

theorem cdFall_device (taken : List Byte) (further : Nat) (h : s.deviceLaw) : (s.cdFall taken further).deviceLaw := by
  have hcd : (s.setCd false).deviceLaw := Aside.device (s := s) (aside_rest rfl rfl) h
  unfold State.cdFall
  refine ite_device hcd fun _ => ?_
  have hfall : (s.setCd false).cauFall.deviceLaw := Aside.device (s := s.setCd false) (aside_rest rfl rfl) hcd
  have hframe := device_of (fallFrame_powered (s.setCd false).cauFall taken further) (fun k => fallFrame_agrees k taken further) hfall
  exact Aside.device (s := (s.setCd false).cauFall.fallFrame taken further) (aside_rest rfl rfl) hframe

theorem frameTaken_device (bytes : List Byte) (further : Nat) (h : s.deviceLaw) : (s.frameTaken bytes further).deviceLaw := by
  have hp : (s.judgeFrame bytes (8 ≤ further) (s.lastBit bytes)).powered = s.powered :=
    (judgeFrame_keeps (G := fun _ => True) (H := fun _ => True) (Q := False) s bytes _ _ (fun q => q.elim)
      fun _ _ _ _ => trivial).powered
  exact Aside.device (s := s.judgeFrame bytes (8 ≤ further) (s.lastBit bytes)) (aside_rest rfl rfl)
    (device_of hp (fun k => judgeFrame_agrees k _ _ _) h)

/-- What an act of the blocks leaves of the supply. -/
theorem powered_of (h : ∀ G H Q, Keeps G H Q s t) : t.powered = s.powered := (h (fun _ => True) (fun _ => True) False).powered

theorem alarmChanged_powered (s : State) : s.alarmChanged.powered = s.powered := powered_of fun _ _ _ => alarmChanged_keeps s

theorem panicLevel_powered (s : State) (low : Bool) : (s.panicLevel low).powered = s.powered := by
  unfold State.panicLevel
  dsimp only
  split
  · exact alarmChanged_powered _
  split
  · exact alarmChanged_powered _
  · rfl

theorem panicLevel_device (low : Bool) (h : s.deviceLaw) : (s.panicLevel low).deviceLaw :=
  device_of (panicLevel_powered s low) (fun k => panicLevel_agrees k low) h

theorem execByte_coherent (h : Coherent s) : Coherent s.execByte := by
  unfold State.execByte
  generalize (s.setCpt { s.cpt with phase := .exec }).statusByte = b
  exact setCpt_coherent _ (setCpt_coherent _ (h.port (t := s.setCsn true) rfl (aside_rest rfl rfl)))

theorem partialByte_coherent (older : Bool) (h : Coherent s) : Coherent (s.partialByte older) := by
  unfold State.partialByte
  split
  · exact csnRise_coherent h
  · exact setCpt_coherent _ (csnRise_coherent h)

/-- Every row but a command keeps the law. -/
theorem event_device {i : Instr} (hc : i.command = none) (he : exec i s = .next t) (hs : Coherent s) : t.deviceLaw := by
  have h := hs.device
  cases i
  case powerOn low =>
    cases he
    exact device_of_agrees (resetPart_agrees _)
  case resetPin low =>
    cases he
    split
    · exact device_of_agrees (resetPart_agrees _)
    · exact (samplePanic_aside s low).device h
  case mainSupplyLoss vbk =>
    cases he
    exact powerDown_device s vbk
  case invalid code last =>
    cases he
    exact (afterByte_coherent last (hostByte_coherent true code hs)).device
  case resultByte first mosi last =>
    cases he
    exact (afterByte_coherent last (hostByte_coherent first mosi hs)).device
  case execByteDiscard last =>
    cases he
    refine (afterByte_coherent last ?_).device
    split
    · exact execByte_coherent hs
    · exact hs.port (t := s.setCsn true) rfl (aside_rest rfl rfl)
  case partialByte older =>
    cases he
    exact (partialByte_coherent older hs).device
  case abandonmentTimer =>
    cases he
    exact ite_device h fun _ => (setCpt_coherent _ hs).device
  case cdRise =>
    cases he
    split
    · exact h
    · exact (cdRise_aside s).device h
  case cdFall taken further =>
    cases he
    exact ite_device h fun _ => cdFall_device taken further h
  case channelBlocked =>
    cases he
    exact ite_device h fun _ => Aside.device (.after (kick_aside _) (aside_rest rfl rfl)) h
  case channelClear =>
    cases he
    exact ite_device h fun _ => Aside.device (s := s) (aside_rest rfl rfl) h
  case frameReceived bytes further =>
    cases he
    exact ite_device h fun _ => frameTaken_device bytes further h
  case overlongLength len =>
    cases he
    exact ite_device h fun _ => Aside.device (s := s) (aside_rest rfl rfl) h
  case cacheExpiry origin kind seq =>
    cases he
    split
    · exact Aside.device (s := s) (aside_rest rfl rfl) h
    · exact h
  case relayHoldRelease hold =>
    cases he
    split
    · exact ite_device h fun _ => Aside.device (.after (offerRelay_aside _ _ _) (aside_rest rfl rfl)) h
    · exact h
  case backoffEnd =>
    cases he
    split
    · exact ite_device h fun _ => (aside_queue (decide_frame s true)).device h
    · exact h
  case transmissionEnd =>
    cases he
    split
    · exact ite_device h fun _ => device_of (powered_of fun _ _ _ => endTx_keeps s _) (fun k => endTx_agrees k _) h
    · exact h
  case fixStale =>
    cases he
    exact ite_device h fun _ => device_of (powered_of fun _ _ _ => turnStale_keeps s) turnStale_agrees h
  case peerAging slot =>
    cases he
    split
    · exact ite_device h fun _ => Aside.device (s := s) (aside_rest rfl rfl) h
    · exact h
  case beaconInterval =>
    cases he
    exact ite_device h fun _ => Aside.device (.after (offer_aside _ _) (aside_rest rfl rfl)) h
  case beaconChangeTimer =>
    cases he
    exact ite_device h fun _ => Aside.device (.after (offer_aside _ _) (aside_rest rfl rfl)) h
  case claimPoint slot =>
    cases he
    refine boardRow_device h fun e hx hc => (claim_aside hx ?_ rfl).device h
    simp only [Bool.and_eq_true, beq_iff_eq] at hc
    exact hc.1
  case latestClaimPoint slot =>
    cases he
    exact boardRow_device h fun e hx _ => (latestPoint_aside hx).device h
  case close slot =>
    cases he
    exact boardRow_device h fun e hx _ => device_of (powered_of fun _ _ _ => closeEntry_keeps s slot e (fitsSlot_of hx rfl id))
      (fun k => closeEntry_agrees k hx) h
  case takeTurn slot =>
    cases he
    refine boardRow_device h fun e hx hc => device_of (powered_of fun _ _ _ => takeTurn_keeps s slot e (fitsSlot_of hx rfl id))
      (fun k => ?_) h
    simp only [Bool.and_eq_true, beq_iff_eq] at hc
    exact takeTurn_agrees k hx (by rw [hc.1]; rfl) (by rw [hc.1]; rfl)
  case watchClose slot =>
    cases he
    refine boardRow_device h fun e hx hc => (putEntry_ends hx ?_ rfl).device h
    simp only [Bool.and_eq_true, beq_iff_eq] at hc
    rw [hc.1]
    rfl
  case entryRetentionEnd slot =>
    cases he
    refine boardRow_device h fun e hx hc => (endRetention_aside hx ?_).device h
    simp only [BoardEntry.retained, Bool.and_eq_true, Bool.not_eq_true'] at hc
    exact hc.1.1
  case pulse =>
    cases he
    exact ite_device h fun _ => (pulse_aside s).device h
  case secondTick =>
    cases he
    exact ite_device h fun _ => (secondTick_aside s).device h
  case shiftTimeTick =>
    cases he
    exact ite_device h fun _ => Aside.device (s := s) (aside_rest rfl rfl) h
  case noteRetry slot =>
    cases he
    split
    · exact ite_device h fun _ => (retryNote_aside s slot _).device h
    · exact h
  case panicPress =>
    cases he
    exact ite_device h fun _ => panicLevel_device true h
  case panicRelease =>
    cases he
    exact ite_device h fun _ => panicLevel_device false h
  case panicLevelChange low =>
    cases he
    split
    · exact Aside.device (s := s) (aside_rest rfl rfl) h
    · exact ite_device h fun _ => panicLevel_device low h
  case holdTimer =>
    cases he
    refine ite_device h fun _ => device_of (powered_of fun _ _ _ => enterAlerting_keeps s) (fun k => enterAlerting_agrees k ?_) h
    intro hf hn
    obtain ⟨-, hrun, -⟩ := hs.trip
    rw [hn, hf] at hrun
    cases hrun
  case alarmRepeat =>
    cases he
    exact ite_device h fun _ => Aside.device (.after (offerRepeat_aside _) (aside_rest rfl rfl)) h
  case alarmEndGap =>
    cases he
    exact ite_device h fun _ => Aside.device (.after (offer_aside _ _) (aside_rest rfl rfl)) h
  case alarmTableAging slot =>
    cases he
    split
    · exact ite_device h fun _ => (ageAlarm_aside s slot _).device h
    · exact h
  case signFlashToggle =>
    cases he
    exact ite_device h fun _ => Aside.device (s := s) (aside_rest rfl rfl) h
  case syncWordMatch =>
    cases he
    exact (syncMatch_aside s).device h
  all_goals cases hc

theorem exec_device {i : Instr} (he : exec i s = .next t) (hs : Coherent s) : t.deviceLaw := by
  cases hc : i.command with
  | some c => exact (command_coherent hc he hs).device
  | none => exact event_device hc he hs

theorem tick_device (h : s.deviceLaw) : (tick s).deviceLaw := by
  unfold tick
  split
  · exact (clockRxd_aside _).device (Aside.device (s := s) (aside_rest rfl rfl) h)
  · exact Aside.device (s := s) (aside_rest rfl rfl) h

end

/-- Settles O56: the law holds from row to row; the law of the trip says that a hired fare has a trip that ALERTING can hold. -/
theorem availabilityJobsAndAlarmsAgree : Obligations.AvailabilityJobsAndAlarmsAgree := by
  intro s _ _ h htrip t hstep
  unfold step at hstep
  split at hstep
  · cases hstep
    exact tick_device h
  next c rest _ =>
    exact exec_device hstep ⟨htrip, Aside.device (s := s) (aside_rest rfl rfl) h⟩

end Sys2Proof
end
